-- ==== Sys2Proof/Word.lean ====
section
/-! DEFINITION. The word types, the small index types the spec names (cells, sides, heads, channels,
bins, flaps, plate slots, causes, outcomes) and one table type for each: a field per index, so that a
table is plain data and every index has a value. -/

namespace Sys2Proof

/-- A byte of the line (R166). -/
abbrev Byte := BitVec 8

/-- Ticket numbers, batch numbers and snapshot numbers wrap modulo 65536 (R7, R105, R126). -/
abbrev U16 := BitVec 16

/-- Tallies, counts and uptime wrap modulo 2^32 (00_scope.md, Conventions). -/
abbrev U32 := BitVec 32

/-- A belt position: a 32-bit count of encoder pulses (R1). -/
abbrev Pos := BitVec 32

/-- The five photocells, in belt order (00_scope.md). -/
inductive Cell where
  | e | g | m | k | s
  deriving DecidableEq, Repr

/-- The four cells with an arrival check (R15). -/
inductive ArrivalCell where
  | g | m | k | s
  deriving DecidableEq, Repr

/-- The two sides of the belt. -/
inductive Side where
  | a | b
  deriving DecidableEq, Repr

/-- The two cancel heads. -/
inductive Head where
  | a | b
  deriving DecidableEq, Repr

/-- The four scan channels, numbered 0 to 3 on the link in this order (02, opening). -/
inductive Channel where
  | au | al | bu | bl
  deriving DecidableEq, Repr

/-- The six stacker bins. -/
inductive Bin where
  | b1 | b2 | b3 | b4 | b5 | b6
  deriving DecidableEq, Repr

/-- The five stacker flaps, one before each of bins 1 to 5. -/
inductive Flap where
  | f1 | f2 | f3 | f4 | f5
  deriving DecidableEq, Repr

/-- The four plate slots (R85). -/
inductive Slot where
  | p1 | p2 | p3 | p4
  deriving DecidableEq, Repr

/-- The two paths at the turnover gate. -/
inductive Path where
  | straight | turn
  deriving DecidableEq, Repr

/-- The eight stop causes in priority order (R141). -/
inductive Cause where
  | door | extStop | jam | beltStall | tableFull | actuator | stackFull | linkLoss
  deriving DecidableEq, Repr

/-- The twelve outcomes of a letter in the row order of the sort plan (R64, R103). -/
inductive LetterOutcome where
  | facedA | facedB | turnedToA | turnedToB | meter | noMark | ambiguous | short | long
  | lampCold | reface | handCancel
  deriving DecidableEq, Repr

/-- One value for each photocell. -/
structure PerCell (α : Type) where
  e : α
  g : α
  m : α
  k : α
  s : α
  deriving DecidableEq, Repr

/-- The entry of one index. -/
def PerCell.get (t : PerCell α) : Cell → α
  | .e => t.e
  | .g => t.g
  | .m => t.m
  | .k => t.k
  | .s => t.s

/-- The table with one entry replaced. -/
def PerCell.set (t : PerCell α) (i : Cell) (v : α) : PerCell α :=
  match i with
  | .e => { t with e := v }
  | .g => { t with g := v }
  | .m => { t with m := v }
  | .k => { t with k := v }
  | .s => { t with s := v }

/-- The table with one function applied to every entry. -/
def PerCell.map (f : α → β) (t : PerCell α) : PerCell β :=
  ⟨f t.e, f t.g, f t.m, f t.k, f t.s⟩

/-- Two tables joined entry by entry. -/
def PerCell.zip (f : α → α → α) (t u : PerCell α) : PerCell α :=
  ⟨f t.e u.e, f t.g u.g, f t.m u.m, f t.k u.k, f t.s u.s⟩

/-- The same value at every index. -/
def PerCell.all (v : α) : PerCell α :=
  ⟨v, v, v, v, v⟩

/-- The entries in index order. -/
def PerCell.toList (t : PerCell α) : List α :=
  [t.e, t.g, t.m, t.k, t.s]

/-- One value for each side. -/
structure PerSide (α : Type) where
  a : α
  b : α
  deriving DecidableEq, Repr

/-- The entry of one index. -/
def PerSide.get (t : PerSide α) : Side → α
  | .a => t.a
  | .b => t.b

/-- The table with one entry replaced. -/
def PerSide.set (t : PerSide α) (i : Side) (v : α) : PerSide α :=
  match i with
  | .a => { t with a := v }
  | .b => { t with b := v }

/-- The table with one function applied to every entry. -/
def PerSide.map (f : α → β) (t : PerSide α) : PerSide β :=
  ⟨f t.a, f t.b⟩

/-- Two tables joined entry by entry. -/
def PerSide.zip (f : α → α → α) (t u : PerSide α) : PerSide α :=
  ⟨f t.a u.a, f t.b u.b⟩

/-- The same value at every index. -/
def PerSide.all (v : α) : PerSide α :=
  ⟨v, v⟩

/-- The entries in index order. -/
def PerSide.toList (t : PerSide α) : List α :=
  [t.a, t.b]

/-- One value for each cancel head. -/
structure PerHead (α : Type) where
  a : α
  b : α
  deriving DecidableEq, Repr

/-- The entry of one index. -/
def PerHead.get (t : PerHead α) : Head → α
  | .a => t.a
  | .b => t.b

/-- The table with one entry replaced. -/
def PerHead.set (t : PerHead α) (i : Head) (v : α) : PerHead α :=
  match i with
  | .a => { t with a := v }
  | .b => { t with b := v }

/-- The table with one function applied to every entry. -/
def PerHead.map (f : α → β) (t : PerHead α) : PerHead β :=
  ⟨f t.a, f t.b⟩

/-- Two tables joined entry by entry. -/
def PerHead.zip (f : α → α → α) (t u : PerHead α) : PerHead α :=
  ⟨f t.a u.a, f t.b u.b⟩

/-- The same value at every index. -/
def PerHead.all (v : α) : PerHead α :=
  ⟨v, v⟩

/-- The entries in index order. -/
def PerHead.toList (t : PerHead α) : List α :=
  [t.a, t.b]

/-- One value for each scan channel. -/
structure PerChannel (α : Type) where
  au : α
  al : α
  bu : α
  bl : α
  deriving DecidableEq, Repr

/-- The entry of one index. -/
def PerChannel.get (t : PerChannel α) : Channel → α
  | .au => t.au
  | .al => t.al
  | .bu => t.bu
  | .bl => t.bl

/-- The table with one entry replaced. -/
def PerChannel.set (t : PerChannel α) (i : Channel) (v : α) : PerChannel α :=
  match i with
  | .au => { t with au := v }
  | .al => { t with al := v }
  | .bu => { t with bu := v }
  | .bl => { t with bl := v }

/-- The table with one function applied to every entry. -/
def PerChannel.map (f : α → β) (t : PerChannel α) : PerChannel β :=
  ⟨f t.au, f t.al, f t.bu, f t.bl⟩

/-- Two tables joined entry by entry. -/
def PerChannel.zip (f : α → α → α) (t u : PerChannel α) : PerChannel α :=
  ⟨f t.au u.au, f t.al u.al, f t.bu u.bu, f t.bl u.bl⟩

/-- The same value at every index. -/
def PerChannel.all (v : α) : PerChannel α :=
  ⟨v, v, v, v⟩

/-- The entries in index order. -/
def PerChannel.toList (t : PerChannel α) : List α :=
  [t.au, t.al, t.bu, t.bl]

/-- One value for each bin. -/
structure PerBin (α : Type) where
  b1 : α
  b2 : α
  b3 : α
  b4 : α
  b5 : α
  b6 : α
  deriving DecidableEq, Repr

/-- The entry of one index. -/
def PerBin.get (t : PerBin α) : Bin → α
  | .b1 => t.b1
  | .b2 => t.b2
  | .b3 => t.b3
  | .b4 => t.b4
  | .b5 => t.b5
  | .b6 => t.b6

/-- The table with one entry replaced. -/
def PerBin.set (t : PerBin α) (i : Bin) (v : α) : PerBin α :=
  match i with
  | .b1 => { t with b1 := v }
  | .b2 => { t with b2 := v }
  | .b3 => { t with b3 := v }
  | .b4 => { t with b4 := v }
  | .b5 => { t with b5 := v }
  | .b6 => { t with b6 := v }

/-- The table with one function applied to every entry. -/
def PerBin.map (f : α → β) (t : PerBin α) : PerBin β :=
  ⟨f t.b1, f t.b2, f t.b3, f t.b4, f t.b5, f t.b6⟩

/-- Two tables joined entry by entry. -/
def PerBin.zip (f : α → α → α) (t u : PerBin α) : PerBin α :=
  ⟨f t.b1 u.b1, f t.b2 u.b2, f t.b3 u.b3, f t.b4 u.b4, f t.b5 u.b5, f t.b6 u.b6⟩

/-- The same value at every index. -/
def PerBin.all (v : α) : PerBin α :=
  ⟨v, v, v, v, v, v⟩

/-- The entries in index order. -/
def PerBin.toList (t : PerBin α) : List α :=
  [t.b1, t.b2, t.b3, t.b4, t.b5, t.b6]

/-- One value for each flap. -/
structure PerFlap (α : Type) where
  f1 : α
  f2 : α
  f3 : α
  f4 : α
  f5 : α
  deriving DecidableEq, Repr

/-- The entry of one index. -/
def PerFlap.get (t : PerFlap α) : Flap → α
  | .f1 => t.f1
  | .f2 => t.f2
  | .f3 => t.f3
  | .f4 => t.f4
  | .f5 => t.f5

/-- The table with one entry replaced. -/
def PerFlap.set (t : PerFlap α) (i : Flap) (v : α) : PerFlap α :=
  match i with
  | .f1 => { t with f1 := v }
  | .f2 => { t with f2 := v }
  | .f3 => { t with f3 := v }
  | .f4 => { t with f4 := v }
  | .f5 => { t with f5 := v }

/-- The table with one function applied to every entry. -/
def PerFlap.map (f : α → β) (t : PerFlap α) : PerFlap β :=
  ⟨f t.f1, f t.f2, f t.f3, f t.f4, f t.f5⟩

/-- Two tables joined entry by entry. -/
def PerFlap.zip (f : α → α → α) (t u : PerFlap α) : PerFlap α :=
  ⟨f t.f1 u.f1, f t.f2 u.f2, f t.f3 u.f3, f t.f4 u.f4, f t.f5 u.f5⟩

/-- The same value at every index. -/
def PerFlap.all (v : α) : PerFlap α :=
  ⟨v, v, v, v, v⟩

/-- The entries in index order. -/
def PerFlap.toList (t : PerFlap α) : List α :=
  [t.f1, t.f2, t.f3, t.f4, t.f5]

/-- One value for each plate slot. -/
structure PerSlot (α : Type) where
  p1 : α
  p2 : α
  p3 : α
  p4 : α
  deriving DecidableEq, Repr

/-- The entry of one index. -/
def PerSlot.get (t : PerSlot α) : Slot → α
  | .p1 => t.p1
  | .p2 => t.p2
  | .p3 => t.p3
  | .p4 => t.p4

/-- The table with one entry replaced. -/
def PerSlot.set (t : PerSlot α) (i : Slot) (v : α) : PerSlot α :=
  match i with
  | .p1 => { t with p1 := v }
  | .p2 => { t with p2 := v }
  | .p3 => { t with p3 := v }
  | .p4 => { t with p4 := v }

/-- The table with one function applied to every entry. -/
def PerSlot.map (f : α → β) (t : PerSlot α) : PerSlot β :=
  ⟨f t.p1, f t.p2, f t.p3, f t.p4⟩

/-- Two tables joined entry by entry. -/
def PerSlot.zip (f : α → α → α) (t u : PerSlot α) : PerSlot α :=
  ⟨f t.p1 u.p1, f t.p2 u.p2, f t.p3 u.p3, f t.p4 u.p4⟩

/-- The same value at every index. -/
def PerSlot.all (v : α) : PerSlot α :=
  ⟨v, v, v, v⟩

/-- The entries in index order. -/
def PerSlot.toList (t : PerSlot α) : List α :=
  [t.p1, t.p2, t.p3, t.p4]

/-- One value for each stop cause. -/
structure PerCause (α : Type) where
  door : α
  extStop : α
  jam : α
  beltStall : α
  tableFull : α
  actuator : α
  stackFull : α
  linkLoss : α
  deriving DecidableEq, Repr

/-- The entry of one index. -/
def PerCause.get (t : PerCause α) : Cause → α
  | .door => t.door
  | .extStop => t.extStop
  | .jam => t.jam
  | .beltStall => t.beltStall
  | .tableFull => t.tableFull
  | .actuator => t.actuator
  | .stackFull => t.stackFull
  | .linkLoss => t.linkLoss

/-- The table with one entry replaced. -/
def PerCause.set (t : PerCause α) (i : Cause) (v : α) : PerCause α :=
  match i with
  | .door => { t with door := v }
  | .extStop => { t with extStop := v }
  | .jam => { t with jam := v }
  | .beltStall => { t with beltStall := v }
  | .tableFull => { t with tableFull := v }
  | .actuator => { t with actuator := v }
  | .stackFull => { t with stackFull := v }
  | .linkLoss => { t with linkLoss := v }

/-- The table with one function applied to every entry. -/
def PerCause.map (f : α → β) (t : PerCause α) : PerCause β :=
  ⟨f t.door, f t.extStop, f t.jam, f t.beltStall, f t.tableFull, f t.actuator, f t.stackFull, f t.linkLoss⟩

/-- Two tables joined entry by entry. -/
def PerCause.zip (f : α → α → α) (t u : PerCause α) : PerCause α :=
  ⟨f t.door u.door, f t.extStop u.extStop, f t.jam u.jam, f t.beltStall u.beltStall,
    f t.tableFull u.tableFull, f t.actuator u.actuator, f t.stackFull u.stackFull,
    f t.linkLoss u.linkLoss⟩

/-- The same value at every index. -/
def PerCause.all (v : α) : PerCause α :=
  ⟨v, v, v, v, v, v, v, v⟩

/-- The entries in index order. -/
def PerCause.toList (t : PerCause α) : List α :=
  [t.door, t.extStop, t.jam, t.beltStall, t.tableFull, t.actuator, t.stackFull, t.linkLoss]

/-- One value for each outcome. -/
structure PerOutcome (α : Type) where
  facedA : α
  facedB : α
  turnedToA : α
  turnedToB : α
  meter : α
  noMark : α
  ambiguous : α
  short : α
  long : α
  lampCold : α
  reface : α
  handCancel : α
  deriving DecidableEq, Repr

/-- The entry of one index. -/
def PerOutcome.get (t : PerOutcome α) : LetterOutcome → α
  | .facedA => t.facedA
  | .facedB => t.facedB
  | .turnedToA => t.turnedToA
  | .turnedToB => t.turnedToB
  | .meter => t.meter
  | .noMark => t.noMark
  | .ambiguous => t.ambiguous
  | .short => t.short
  | .long => t.long
  | .lampCold => t.lampCold
  | .reface => t.reface
  | .handCancel => t.handCancel

/-- The table with one entry replaced. -/
def PerOutcome.set (t : PerOutcome α) (i : LetterOutcome) (v : α) : PerOutcome α :=
  match i with
  | .facedA => { t with facedA := v }
  | .facedB => { t with facedB := v }
  | .turnedToA => { t with turnedToA := v }
  | .turnedToB => { t with turnedToB := v }
  | .meter => { t with meter := v }
  | .noMark => { t with noMark := v }
  | .ambiguous => { t with ambiguous := v }
  | .short => { t with short := v }
  | .long => { t with long := v }
  | .lampCold => { t with lampCold := v }
  | .reface => { t with reface := v }
  | .handCancel => { t with handCancel := v }

/-- The table with one function applied to every entry. -/
def PerOutcome.map (f : α → β) (t : PerOutcome α) : PerOutcome β :=
  ⟨f t.facedA, f t.facedB, f t.turnedToA, f t.turnedToB, f t.meter, f t.noMark, f t.ambiguous, f t.short,
    f t.long, f t.lampCold, f t.reface, f t.handCancel⟩

/-- Two tables joined entry by entry. -/
def PerOutcome.zip (f : α → α → α) (t u : PerOutcome α) : PerOutcome α :=
  ⟨f t.facedA u.facedA, f t.facedB u.facedB, f t.turnedToA u.turnedToA, f t.turnedToB u.turnedToB,
    f t.meter u.meter, f t.noMark u.noMark, f t.ambiguous u.ambiguous, f t.short u.short, f t.long u.long,
    f t.lampCold u.lampCold, f t.reface u.reface, f t.handCancel u.handCancel⟩

/-- The same value at every index. -/
def PerOutcome.all (v : α) : PerOutcome α :=
  ⟨v, v, v, v, v, v, v, v, v, v, v, v⟩

/-- The entries in index order. -/
def PerOutcome.toList (t : PerOutcome α) : List α :=
  [t.facedA, t.facedB, t.turnedToA, t.turnedToB, t.meter, t.noMark, t.ambiguous, t.short, t.long,
    t.lampCold, t.reface, t.handCancel]

/-- One raw pair of a scan head: fluorescence F and afterglow P, each 0 to 255 (R25). -/
structure RawPair where
  f : Byte
  p : Byte
  deriving DecidableEq, Repr

/-- What the machine delivers with one encoder pulse: the level of each photocell (`true` is dark, R2)
and one raw pair for each channel (R25). -/
structure PulseInputs where
  dark : PerCell Bool
  pairs : PerChannel RawPair
  deriving DecidableEq, Repr

/-- The levels at the input pins that hold between events (`true` is active, a strap is high). -/
structure Pins where
  door : Bool
  extStop : Bool
  binFull : PerBin Bool
  headFault : PerHead Bool
  gateConfirm : Bool
  strap1 : Bool
  strap2 : Bool
  deriving DecidableEq, Repr

end Sys2Proof
end

