-- ==== Sys2Proof/Syntax.lean ====
section
/-! DEFINITION. The commands: one constructor for each row of spec/opcode_table.json, in the table's
order. A row is one whole step of the controller (95_what_each_step_holds.md). An operand is what the
machine around the controller delivers with the event (levels, samples, a byte) or which of several
like timers, queues or cells the event is of. A request row has no operand: it takes the oldest frame
of the inbound buffer, and that frame's fields are the request's (R171). -/

namespace Sys2Proof

/-- A command of the block: one row of spec/opcode_table.json. -/
inductive Instr where
  /-- POWER_ON_RESET (R180), with the levels at the input pins and straps. -/
  | powerOnReset (pins : Pins)
  /-- ENCODER_PULSE (R1), with what the cells and the scan port deliver at the pulse. -/
  | encoderPulse (inputs : PulseInputs)
  /-- ENTRY_LEADING_EDGE (R11). -/
  | entryLeadingEdge
  /-- ENTRY_TRAILING_EDGE (R12). -/
  | entryTrailingEdge
  /-- WINDOW_1_START (R41). -/
  | window1Start
  /-- WINDOW_COMPLETION (R37). -/
  | windowCompletion
  /-- LONG_CHECK (R13). -/
  | longCheck
  /-- STUCK_LETTER_CHECK (R14). -/
  | stuckLetterCheck
  /-- ARRIVAL_MATCH (R16), at one of the cells G, M, K and S. -/
  | arrivalMatch (cell : ArrivalCell)
  /-- ARRIVAL_WINDOW_CLOSE (R17), at one of the cells G, M, K and S. -/
  | arrivalWindowClose (cell : ArrivalCell)
  /-- GATE_DUE (R72). -/
  | gateDue
  /-- GATE_CONFIRM_INPUT (R73), with the new level. -/
  | gateConfirmInput (level : Bool)
  /-- GATE_CONFIRM_TIMEOUT (R73). -/
  | gateConfirmTimeout
  /-- GATE_EXERCISE_TIMEOUT (R78). -/
  | gateExerciseTimeout
  /-- STRIKE_START (R96), at one head. -/
  | strikeStart (head : Head)
  /-- STRIKE_DEADLINE (R98), at one head. -/
  | strikeDeadline (head : Head)
  /-- STRIKE_END (R99), at one head. -/
  | strikeEnd (head : Head)
  /-- RECHARGE_EXPIRY (R94), at one head. -/
  | rechargeExpiry (head : Head)
  /-- HEAD_FAULT_INPUT (R95), at one head, with the new level. -/
  | headFaultInput (head : Head) (level : Bool)
  /-- TEST_STRIKE_END (R80). -/
  | testStrikeEnd
  /-- FLAP_DUE (R116). -/
  | flapDue
  /-- FLAP_EXERCISE_END (R79). -/
  | flapExerciseEnd
  /-- TRAY_SWAP_PULSE_END (R114), of one bin. -/
  | traySwapPulseEnd (bin : Bin)
  /-- BIN_FULL_INPUT (R106), of one bin, with the new level. -/
  | binFullInput (bin : Bin) (level : Bool)
  /-- DOOR_INPUT (R142), with the new level. -/
  | doorInput (level : Bool)
  /-- EXT_STOP_INPUT (R142), with the new level. -/
  | extStopInput (level : Bool)
  /-- BELT_STALL (R22). -/
  | beltStall
  /-- START_DONE (R139). -/
  | startDone
  /-- START_TIMER_EXPIRY (R139). -/
  | startTimerExpiry
  /-- LINK_LOSS (R145). -/
  | linkLoss
  /-- WARM_DONE (R28), of the lamp of one side. -/
  | warmDone (side : Side)
  /-- SAVER_EXPIRY (R29). -/
  | saverExpiry
  /-- BEACON_FLASH (R151). -/
  | beaconFlash
  /-- BYTE_RECEIVED (R168), with the byte. -/
  | byteReceived (byte : Byte)
  /-- INTER_BYTE_TIMEOUT (R169). -/
  | interByteTimeout
  /-- LINE_BREAK (R169). -/
  | lineBreak
  /-- FRAME_SENT (R173). -/
  | frameSent
  /-- UNKNOWN_CODE (R172). -/
  | unknownCode
  /-- SET_GEOMETRY (R5). -/
  | setGeometry
  /-- GET_GEOMETRY (R6). -/
  | getGeometry
  /-- TABLE_READ (R23). -/
  | tableRead
  /-- SET_DETECT (R41). -/
  | setDetect
  /-- GET_DETECT (R42). -/
  | getDetect
  /-- SET_TRIM (R27). -/
  | setTrim
  /-- SET_LAMP (R30). -/
  | setLamp
  /-- LAMP_STATUS (R32). -/
  | lampStatus
  /-- SET_DECIDE (R55). -/
  | setDecide
  /-- EXERCISE_GATE (R78). -/
  | exerciseGate
  /-- EXERCISE_FLAP (R79). -/
  | exerciseFlap
  /-- EXERCISE_HEAD (R80). -/
  | exerciseHead
  /-- SET_CANCEL (R84). -/
  | setCancel
  /-- LOAD_PLATE (R86). -/
  | loadPlate
  /-- SELECT_PLATE (R87). -/
  | selectPlate
  /-- PLATE_READ (R88). -/
  | plateRead
  /-- SET_PLAN (R104). -/
  | setPlan
  /-- SET_BIN (R117). -/
  | setBin
  /-- BIN_CLOSE (R118). -/
  | binClose
  /-- BIN_RELEASE (R119). -/
  | binRelease
  /-- BIN_STATUS (R120). -/
  | binStatus
  /-- TALLY_LATCH (R127). -/
  | tallyLatch
  /-- TALLY_READ (R128). -/
  | tallyRead
  /-- RUN (R136). -/
  | run
  /-- FINISH (R137). -/
  | finish
  /-- HALT (R138). -/
  | halt
  /-- CAUSE_CLEAR (R147). -/
  | causeClear
  /-- SET_CAUSES (R146). -/
  | setCauses
  /-- STATUS (R152). -/
  | status
  /-- FAULT_READ (R150). -/
  | faultRead
  /-- CAL_START (R155). -/
  | calStart
  /-- CAL_APPLY (R160). -/
  | calApply
  /-- CAL_ABORT (R160). -/
  | calAbort
  /-- TRACE_ARM (R162). -/
  | traceArm
  /-- TRACE_DISARM (R162). -/
  | traceDisarm
  /-- SET_NOTICES (R174). -/
  | setNotices
  /-- LINK_STATUS (R177). -/
  | linkStatus
  /-- RESET (R178). -/
  | reset
  /-- WARM_RESET (R178). -/
  | warmReset
  deriving DecidableEq, Repr

end Sys2Proof
end

