-- ==== Sys2Proof/Decode.lean ====
section
/-! DEFINITION. The commands a word spells. No row of spec/opcode_table.json gives bits (each row's
"fields" is empty and it has no match or mask), so no word spells a command. The codes of R183 name
request frames of the link, and `requestOf` in Machine/Operands.lean reads them. -/

namespace Sys2Proof

/-- The command that a word spells by the table's bits: none, for no row of the table gives bits. -/
def decodeTableWord (_nbits _w : Nat) : Option Instr := none

end Sys2Proof
end

