-- ==== Sys2Proof/Config.lean ====
section
/-! DEFINITION. The fixed sizes and times of the LF-460. The spec gives each of them a value, so none
is a free value; the spec leaves no computed result of a command open. -/

namespace Sys2Proof.Config

/-- Capacity of the letter table (R7). -/
abbrev tableSize : Nat := 32
/-- Marks a ticket can hold (R46). -/
abbrev markListSize : Nat := 6
/-- Steps of one window (R33). -/
abbrev windowSteps : Nat := 8
/-- Steps of the sample stream a channel keeps: the largest filter (R4), before which no ticket is created. -/
abbrev recentSteps : Nat := 16
/-- Entries of a window ring (R48). -/
abbrev ringSize : Nat := 128
/-- Capacity of the gate queue (R68). -/
abbrev gateQueueSize : Nat := 8
/-- Capacity of each strike queue (R92). -/
abbrev strikeQueueSize : Nat := 8
/-- Capacity of the flap queue (R108). -/
abbrev flapQueueSize : Nat := 16
/-- Capacity of the inbound buffer (R170). -/
abbrev inboundSize : Nat := 4
/-- Reply slots of the outbound queue (R173). -/
abbrev replySlots : Nat := 4
/-- Slots of the shared area of the outbound queue (R173). -/
abbrev sharedSlots : Nat := 60
/-- Free shared slots a LOST notice waits for (R176). -/
abbrev lostNoticeRoom : Nat := 16
/-- Where a 16-bit count, score, length or gap saturates (00_scope.md, Conventions). -/
abbrev saturation : Nat := 65535
/-- Clipped marks that end a calibration (R158). -/
abbrev clippedLimit : Nat := 4
/-- Milliseconds allowed between two bytes of a frame (R169). -/
abbrev interByteMs : Nat := 5
/-- Milliseconds of a test strike (R80). -/
abbrev testStrikeMs : Nat := 20
/-- Milliseconds of a flap exercise (R79). -/
abbrev flapExerciseMs : Nat := 100
/-- Milliseconds of a tray-swap pulse (R114). -/
abbrev traySwapMs : Nat := 50
/-- Milliseconds of the beacon's on-phase (R151). -/
abbrev beaconOnMs : Nat := 100
/-- Milliseconds of the beacon's off-phase (R151). -/
abbrev beaconOffMs : Nat := 900
/-- The byte that begins a frame (R167). -/
abbrev sync : Byte := 0xA5
/-- Smallest and largest inbound body (R167). -/
abbrev minBody : Nat := 2
abbrev maxBody : Nat := 256

end Sys2Proof.Config
end

