-- ==== Sys2Proof/Machine/Records.lean ====
section
/-! DEFINITION. The records the blocks keep, as plain data: settings, tickets, queue entries, notices
and frames. Each docstring names the rule that lists the fields. -/

namespace Sys2Proof.Machine

/-! ### Tracker -/

/-- An edge filter (R2): the accepted level (`dark`) and the run count. -/
structure Filter where
  dark : Bool
  run : Nat
  deriving DecidableEq, Repr

/-- An accepted edge: its cell, whether it is a leading edge, and its position (R2). -/
structure Edge where
  cell : Cell
  leading : Bool
  pos : Pos
  deriving DecidableEq, Repr

/-- The geometry record (R4), lengths in steps, times in ms. -/
structure Geometry where
  scanLine : Nat
  cellG : Nat
  gate : Nat
  cellM : Nat
  cellK : Nat
  headLine : Nat
  cellS : Nat
  flaps : PerFlap Nat
  jamTol : Nat
  filter : Nat
  minLen : Nat
  maxLen : Nat
  gateLead : Nat
  gateClear : Nat
  flapLead : Nat
  flapClear : Nat
  gateConfirm : Nat
  stallTime : Nat
  startTime : Nat
  startDistance : Nat
  holdMark : Nat
  deriving DecidableEq, Repr

/-- The state of a ticket (R9). -/
inductive TicketState where
  | entering | scanning | decided
  deriving DecidableEq, Repr

/-- A ticket's size flag (R8). -/
inductive SizeFlag where
  | short | long
  deriving DecidableEq, Repr

/-- The kind of a mark (R45). -/
inductive MarkKind where
  | stamp | meter
  deriving DecidableEq, Repr

/-- A mark record with the peak the channel keeps beside it (R45). -/
structure Mark where
  channel : Channel
  kind : MarkKind
  start : Nat
  length : Nat
  score : Nat
  clipped : Bool
  peak : Nat
  deriving DecidableEq, Repr

/-- A letter's class (R56 to R59). -/
inductive LetterClass where
  | fa | fb | ia | ib | meter | none | ambig
  deriving DecidableEq, Repr

/-- A ticket's required path (R8). -/
inductive ReqPath where
  | straight | turn | any
  deriving DecidableEq, Repr

/-- A ticket's head field: a head, or none (R8). -/
inductive HeadChoice where
  | none
  | on (h : Head)
  deriving DecidableEq, Repr

/-- Where the postmark lies against the lines (R90). -/
inductive Placement where
  | before | after
  deriving DecidableEq, Repr

/-- A ticket's band (R91). -/
structure Band where
  start : Nat
  stop : Nat
  placement : Placement
  pmLength : Nat
  slot : Option Slot
  deriving DecidableEq, Repr

/-- A ticket's strike result (R8). -/
inductive StrikeResult where
  | pending | struck | late | missed | notRequired
  deriving DecidableEq, Repr

/-- A ticket (R8). The last four fields are the model's own: whether the span has started and which of
the ticket's position checks have been made, each of which the spec makes once (R13, R14, R17). -/
structure Ticket where
  number : U16
  state : TicketState
  lead : Pos
  trail : Option Pos
  length : Option Nat
  gap : Option Nat
  seenG : Bool
  seenM : Bool
  seenK : Bool
  size : Option SizeFlag
  cold : PerSide Bool
  marks : List Mark
  cls : Option LetterClass
  required : Option ReqPath
  head : Option HeadChoice
  taken : Option Path
  pathForced : Bool
  band : Option Band
  strike : Option StrikeResult
  outcome : Option LetterOutcome
  bin : Option Bin
  binForced : Bool
  gapShort : Bool
  secondary : Bool
  manyMarks : Bool
  gateUnconfirmed : Bool
  pmShort : Bool
  noPostmark : Bool
  spanStarted : Bool
  longChecked : Bool
  stuckChecked : Bool
  missed : Bool
  deriving DecidableEq, Repr

/-- The tracker's state (R24). `edges` holds accepted edges whose step has not been taken;
`firstTicket` says that the next ticket is the first after IDLE (log 40); `sincePulse` is the stall timer and
`stallRaised` says it has raised since the last pulse (R22). -/
structure Tracker where
  belt : Pos
  filters : PerCell Filter
  edges : List Edge
  geometry : Geometry
  table : List Ticket
  nextTicket : U16
  prevTrail : Option Pos
  firstTicket : Bool
  throttle : Bool
  sincePulse : Nat
  stallRaised : Bool
  deriving DecidableEq, Repr

/-! ### Scan channels and lamps -/

/-- A threshold record (R40). -/
structure Threshold where
  tagHigh : Nat
  tagLow : Nat
  transLow : Nat
  meterHigh : Nat
  transHigh : Nat
  transLevel : Nat
  minMark : Nat
  deriving DecidableEq, Repr

/-- One gained pair of a step, with whether either sample is clipped (R26) and whether the lamp of the
channel's side was not ON at the step (R31). -/
structure Sample where
  f : Nat
  p : Nat
  clipped : Bool
  cold : Bool
  deriving DecidableEq, Repr

/-- The class of a window (R36). -/
inductive WinClass where
  | none | stamp | meter
  deriving DecidableEq, Repr

/-- A completed window (R35, R36, R48). -/
structure Window where
  start : Pos
  ea : Nat
  ef : Nat
  t : Nat
  cls : WinClass
  clipped : Bool
  cold : Bool
  deriving DecidableEq, Repr

/-- A ring entry: a window and its ticket number, absent for a gap window (R48). -/
structure RingEntry where
  window : Window
  ticket : Option U16
  deriving DecidableEq, Repr

/-- An open mark: its kind and the number of the letter window holding its start (R43). -/
structure OpenMark where
  kind : MarkKind
  first : Nat
  deriving DecidableEq, Repr

/-- A letter span on one channel (R33): its ticket, the threshold record bound to it (R41), its
completed letter windows in order from window 1, the samples and start of the window in progress, and
its mark-finding state (R43). -/
structure Span where
  ticket : U16
  bound : Threshold
  done : List Window
  start : Pos
  samples : List Sample
  mark : Option OpenMark
  deriving DecidableEq, Repr

/-- A gap window in progress (R34). -/
structure GapWindow where
  start : Pos
  samples : List Sample
  deriving DecidableEq, Repr

/-- A scan channel's state (R49). Two fields are the model's own: `recent` keeps the samples of the latest
steps, from which a span takes those of its first steps (log 13), and `leadIn` keeps the samples held back
from the gap window while a WINDOW_1_START step is due (log 29). -/
structure ScanChannel where
  trim : BitVec 4
  bp : Nat
  bf : Nat
  fast : Nat
  inForce : Threshold
  pendingRecord : Option Threshold
  gap : GapWindow
  spans : List Span
  leadIn : List Sample
  recent : List Sample
  ring : List RingEntry
  deriving DecidableEq, Repr

/-- The lamp mode (R28). -/
inductive LampMode where
  | auto | forceOn | forceStandby
  deriving DecidableEq, Repr

/-- The lamp record (R28). -/
structure LampRecord where
  mode : LampMode
  saver : Nat
  warm : Nat
  deriving DecidableEq, Repr

/-- A lamp's state, with the ms left of a running warm timer (R28). -/
inductive LampState where
  | standby
  | warming (left : Nat)
  | on
  deriving DecidableEq, Repr

/-- Lamp control (R49): `saver` is the ms left of the saver timer, absent while it does not run. -/
structure Lamps where
  record : LampRecord
  state : PerSide LampState
  saver : Option Nat
  wakeErrors : PerSide Nat
  deriving DecidableEq, Repr

/-! ### Facing decision unit and gate -/

/-- The decide record (R54). -/
structure DecideRecord where
  dom8 : Nat
  floor : Nat
  deriving DecidableEq, Repr

/-- The facing decision unit (R66). -/
structure Facing where
  record : DecideRecord
  waiting : List U16
  deriving DecidableEq, Repr

/-- A gate queue entry (R68). -/
structure GateEntry where
  due : Pos
  target : Path
  ticket : U16
  deriving DecidableEq, Repr

/-- A confirm in progress (R72), with the ms left of its timer. -/
structure Confirm where
  target : Path
  ticket : U16
  left : Nat
  deriving DecidableEq, Repr

/-- An exercise in progress (R78 to R80). A gate exercise keeps the TAG its reply will carry. -/
inductive Exercise where
  | gate (target : Path) (left : Nat) (started : U32) (tag : Byte)
  | flap (flap : Flap) (left : Nat)
  | head (head : Head)
  deriving DecidableEq, Repr

/-- The gate controller (R82). -/
structure Gate where
  output : Path
  queue : List GateEntry
  confirm : Option Confirm
  exercise : Option Exercise
  deriving DecidableEq, Repr

/-! ### Cancel unit -/

/-- The cancel record (R83). -/
structure CancelRecord where
  leadMargin : Nat
  trailMargin : Nat
  postmark : Nat
  clearance : Nat
  recharge : Nat
  enable : PerHead Bool
  deriving DecidableEq, Repr

/-- A plate (R85). -/
structure Plate where
  office : List Byte
  day : Nat
  month : Nat
  year : Nat
  shift : Byte
  slogan : Nat
  deriving DecidableEq, Repr

/-- A plate slot: a plate or empty, and its impression count (R85). -/
structure PlateSlot where
  plate : Option Plate
  impressions : U32
  deriving DecidableEq, Repr

/-- A strike queue entry (R92), with the postmark placement and length of its band, which the head driver is
handed at the strike start whether or not the ticket is then in the table (R96). -/
structure StrikeEntry where
  ticket : U16
  start : Pos
  stop : Pos
  deadline : Pos
  slot : Option Slot
  placement : Placement
  pmLength : Nat
  deriving DecidableEq, Repr

/-- A strike in progress: of a ticket, or a test strike with its ms left (R94). -/
inductive Strike where
  | letter (ticket : U16) (stop : Pos) (slot : Option Slot)
  | test (left : Nat)
  deriving DecidableEq, Repr

/-- A head's state (R94), with the ms left of a running recharge timer. -/
inductive HeadState where
  | ready
  | striking (strike : Strike)
  | recharging (left : Nat)
  | disabled
  deriving DecidableEq, Repr

/-- What the head driver is handed at a strike start (R96). -/
structure Print where
  placement : Placement
  pmLength : Nat
  plate : Option Plate
  deriving DecidableEq, Repr

/-- One cancel head: its state, its strike queue with the oldest entry first, whether the oldest entry
is the waiting entry (R97), and what its driver was last handed (R96). -/
structure HeadUnit where
  state : HeadState
  queue : List StrikeEntry
  waiting : Bool
  handed : Option Print
  deriving DecidableEq, Repr

/-- The cancel unit (R101). -/
structure Cancel where
  record : CancelRecord
  slots : PerSlot PlateSlot
  active : Option Slot
  heads : PerHead HeadUnit
  deriving DecidableEq, Repr

/-! ### Stacker -/

/-- A row of the sort plan (R103); an absent alternate is the plan's 0. -/
structure PlanRow where
  primary : Bin
  alternate : Option Bin
  deriving DecidableEq, Repr

/-- A bin's mode (R105). -/
inductive BinMode where
  | auto | hold
  deriving DecidableEq, Repr

/-- A bin's state (R105). -/
inductive BinState where
  | opened | closed
  deriving DecidableEq, Repr

/-- A bin record less its full input, which is a live pin level and never stored (R105). -/
structure BinRecord where
  base : Nat
  pendingBase : Option Nat
  current : Nat
  mode : BinMode
  state : BinState
  batch : U16
  deriving DecidableEq, Repr

/-- A flap action (R108); `opens` is OPEN, else CLOSE. -/
structure FlapAction where
  due : Pos
  flap : Flap
  opens : Bool
  ticket : U16
  deriving DecidableEq, Repr

/-- The stacker controller (R121): `flaps` is OPEN or CLOSED, `trays` the ms left of each tray-swap pulse. -/
structure Stacker where
  plan : PerOutcome PlanRow
  bins : PerBin BinRecord
  flaps : PerFlap Bool
  queue : List FlapAction
  trays : PerBin (Option Nat)
  deriving DecidableEq, Repr

/-! ### Tally unit -/

/-- The 44 counters of a tally set (R122). -/
structure TallySet where
  entered : U32
  committed : U32
  purged : U32
  outcome : PerOutcome U32
  bin : PerBin U32
  binForced : U32
  overrun : U32
  batches : PerBin U32
  strikes : PerHead U32
  late : PerHead U32
  missed : PerHead U32
  impressions : PerSlot U32
  pathForced : U32
  specks : U32
  manyMarks : U32
  jams : U32
  strayEdges : U32
  deriving DecidableEq, Repr

/-- The name of a counter (R122, R123). -/
inductive Counter where
  | entered | committed | purged
  | outcome (o : LetterOutcome)
  | bin (b : Bin)
  | binForced | overrun
  | batches (b : Bin)
  | strikes (h : Head)
  | late (h : Head)
  | missed (h : Head)
  | impressions (s : Slot)
  | pathForced | specks | manyMarks | jams | strayEdges
  deriving DecidableEq, Repr

/-- A snapshot (R126). -/
structure Snapshot where
  number : U16
  life : TallySet
  shift : TallySet
  baseOcc : Nat
  belt : Pos
  uptime : U32
  occupancy : Nat
  deriving DecidableEq, Repr

/-- The tally unit (R130). -/
structure Tally where
  life : TallySet
  shift : TallySet
  baseOcc : Nat
  held : Option Snapshot
  nextSnapshot : U16
  deriving DecidableEq, Repr

/-! ### Run control -/

/-- The kind of a drain (R135). -/
inductive DrainKind where
  | finish | hold
  deriving DecidableEq, Repr

/-- The run state (R135). -/
inductive RunState where
  | idle | starting | running
  | draining (kind : DrainKind)
  | held | stopped
  deriving DecidableEq, Repr

/-- What a cause does when in service (R141). -/
inductive Reaction where
  | beltStop | feedHold
  deriving DecidableEq, Repr

/-- The kind of a jam (R18, R149). -/
inductive JamKind where
  | stuck | unexpected | missing
  deriving DecidableEq, Repr

/-- Whether a stall was found in STARTING or in running (R149). -/
inductive StallPhase where
  | start | run
  deriving DecidableEq, Repr

/-- Where an ACTUATOR request comes from (R149). -/
inductive ActuatorSource where
  | gate (target : Path)
  | head (h : Head)
  deriving DecidableEq, Repr

/-- The source detail of a request (R149). -/
inductive SourceDetail where
  | none
  | jam (cell : Cell) (kind : JamKind) (edge : Option Pos)
  | stall (phase : StallPhase)
  | tableFull (edge : Pos)
  | actuator (source : ActuatorSource)
  | linkLoss (timeout : Nat) (lastValid : U32)
  deriving DecidableEq, Repr

/-- One entry of the stop-cause table (R141), with the source detail of its latest request (R148).
`latch` is an event cause's request; a level cause's request is its pin. -/
structure CauseEntry where
  latch : Bool
  masked : Bool
  inService : Bool
  reaction : Reaction
  detail : SourceDetail
  deriving DecidableEq, Repr

/-- An entry of the fault record (R149). -/
structure FaultEntry where
  cause : Cause
  masked : Bool
  detail : SourceDetail
  belt : Pos
  uptime : U32
  ticket : Option U16
  deriving DecidableEq, Repr

/-- The fault record (R149). -/
structure FaultRecord where
  first : Option FaultEntry
  latest : Option FaultEntry
  count : Nat
  deriving DecidableEq, Repr

/-- The beacon, with the ms left of a flashing phase (R151). -/
inductive Beacon where
  | off
  | steady
  | flashOn (left : Nat)
  | flashOff (left : Nat)
  deriving DecidableEq, Repr

/-- Run control (R153): `sinceLink` is the link-loss timer and `linkRaised` says it has raised since its
last restart (R145). -/
structure RunControl where
  state : RunState
  startTimer : Option Nat
  startPos : Option Pos
  causes : PerCause CauseEntry
  linkTimeout : Nat
  sinceLink : Nat
  linkRaised : Bool
  lastValid : U32
  faults : FaultRecord
  beacon : Beacon
  deriving DecidableEq, Repr

/-! ### Calibration and trace -/

/-- The calibration record in COLLECTING (R154). -/
structure CalRecord where
  channel : Channel
  target : Nat
  cards : Nat
  sum : Nat
  valid : Nat
  clipped : Nat
  deriving DecidableEq, Repr

/-- A calibration's proposal (R157); `limit` is status LIMIT, else OK. -/
structure Proposal where
  average : Nat
  code : BitVec 4
  limit : Bool
  deriving DecidableEq, Repr

/-- The calibration state (R154). -/
inductive Cal where
  | off
  | collecting (r : CalRecord)
  | ready (r : CalRecord) (p : Proposal)
  deriving DecidableEq, Repr

/-- A trace condition (R162). -/
inductive TraceCond where
  | next
  | ticket (n : U16)
  | outcome (o : LetterOutcome)
  deriving DecidableEq, Repr

/-! ### Notices, replies and frames -/

/-- Why a RUNSTATE notice is queued (R135). -/
inductive RunReason where
  | run | finish | halt | startDone | drainDone | cause | warmReset
  deriving DecidableEq, Repr

/-- Why a STOP notice is queued (R148). -/
inductive StopReason where
  | request | unmask | mask | clear | level
  deriving DecidableEq, Repr

/-- Why a LAMP notice is queued (R32). -/
inductive LampReason where
  | edge | warmDone | saver | request
  deriving DecidableEq, Repr

/-- The status of a CAL notice (R159). -/
inductive CalStatus where
  | ok | limit | noSignal | clipped | aborted
  deriving DecidableEq, Repr

/-- The reason of an ABORTED CAL notice (R159). -/
inductive CalAbortReason where
  | setTrim | setDetect | beltStop | halt | warmReset
  deriving DecidableEq, Repr

/-- Why a batch closed (R113). -/
inductive BatchReason where
  | count | request
  deriving DecidableEq, Repr

/-- Why a table was purged (R20, R132). -/
inductive PurgeReason where
  | beltStop | halt
  deriving DecidableEq, Repr

/-- Which reset a RESET_DONE reports (R179). -/
inductive ResetKind where
  | warm | powerOn
  deriving DecidableEq, Repr

/-- The content of a LETTER notice beside the ticket (R132): `purge` is absent in a COMMITTED report. -/
structure LetterReport where
  purge : Option PurgeReason
  pos : Pos
  uptime : U32
  ticket : Ticket
  batch : Option U16
  deriving DecidableEq, Repr

/-- The content of a TRACE notice (R164). -/
structure TraceReport where
  channel : Channel
  ticket : U16
  cond : TraceCond
  lead : Pos
  length : Option Nat
  cls : LetterClass
  outcome : LetterOutcome
  windows : List Window
  deriving DecidableEq, Repr

/-- The notices (R174). -/
inductive Notice where
  | letter (r : LetterReport)
  | trace (r : TraceReport)
  | runState (left entered : RunState) (reason : RunReason) (leading : Option Cause)
      (occupancy : Nat) (belt : Pos) (uptime : U32)
  | stop (cause : Cause) (entering : Bool) (reason : StopReason) (detail : SourceDetail)
      (leading : Option Cause) (state : RunState) (uptime : U32)
  | batch (bin : Bin) (number : U16) (count : Nat) (reason : BatchReason) (mode : BinMode)
      (state : BinState) (base current : Nat) (uptime : U32)
  | bin (bin : Bin) (full : Bool) (state : BinState) (current : Nat) (uptime : U32)
  | lamp (side : Side) (left entered : LampState) (reason : LampReason) (uptime : U32)
  | cal (channel : Channel) (status : CalStatus) (reason : Option CalAbortReason)
      (target cards valid clipped : Nat) (average : Option Nat) (code : Option (BitVec 4))
      (trim : BitVec 4) (uptime : U32)
  | lost (reports traces events : Nat) (uptime : U32)
  | resetDone (kind : ResetKind) (purged : Nat) (belt : Pos) (uptime : U32) (nextTicket : U16)
      (nextSnapshot : U16)
  deriving DecidableEq, Repr

/-- A refusal with its detail (R172, R182). -/
inductive Reason where
  | unknownCode
  | badLength
  | badValue (field : Nat)
  | wrongState (detail : Nat)
  | inUse
  | stillActive (cause : Cause)
  | actuatorTimeout
  deriving DecidableEq, Repr

/-- The body of a reply (R172): OK with the bytes of the fields its owner names, HELD with the held
snapshot's number, or REFUSED with a reason. -/
inductive ReplyBody where
  | ok (fields : List Byte)
  | held (number : U16)
  | refused (reason : Reason)
  deriving DecidableEq, Repr

/-- A frame of the outbound queue (R173). -/
inductive OutFrame where
  | reply (code tag : Byte) (body : ReplyBody)
  | notice (n : Notice)
  deriving DecidableEq, Repr

/-- A valid frame of the inbound buffer: CODE, TAG and payload (R167, R170). -/
structure InFrame where
  code : Byte
  tag : Byte
  payload : List Byte
  deriving DecidableEq, Repr

/-- The receiver: hunting, or in a frame with the bytes held after the candidate's SYNC and the ms left
until the frame is broken (R168, R169). -/
inductive Receiver where
  | hunting
  | inFrame (held : List Byte) (left : Nat)
  deriving DecidableEq, Repr

/-- The line rates of R166, in bit/s. -/
inductive LineRate where
  | r115200 | r460800 | r921600
  deriving DecidableEq, Repr

/-- How far a RESET request has come (R178): none, its reply queued and not yet sent, or its reply sent
and the warm reset due. -/
inductive ResetPhase where
  | none | waiting | acting
  deriving DecidableEq, Repr

/-- The supervisory link (R180). `line` is the model's own: the bytes of the frame last sent. -/
structure Link where
  rate : LineRate
  receiver : Receiver
  inbound : List InFrame
  outbound : List OutFrame
  oversize : Nat
  bad : Nat
  broken : Nat
  dropped : Nat
  reportsLost : Nat
  tracesLost : Nat
  eventsLost : Nat
  letterEnable : Bool
  traceEnable : Bool
  reset : ResetPhase
  line : List Byte
  deriving DecidableEq, Repr

end Sys2Proof.Machine
end

