-- ==== Sys2Proof/Machine/State.lean ====
section
/-! DEFINITION. The state of the controller, block by block (00_scope.md, Block overview), the reasons a
step can stop, and the state after a power-on reset with every input pin inactive and both straps low.
Reset values are the spec's (R24, R49, R66, R82, R101, R121, R130, R153, R165, R180) but for the pins
and four fields the spec states none for (log entries 7, 8, 9, 24 and 28). -/

namespace Sys2Proof.Machine

/-- The controller. Each field is one block's state; `pending` is the model's queue of commands that
wait, first in first out. -/
structure State where
  pins : Pins
  uptime : U32
  tracker : Tracker
  channels : PerChannel ScanChannel
  lamps : Lamps
  facing : Facing
  gate : Gate
  cancel : Cancel
  stacker : Stacker
  tally : Tally
  run : RunControl
  cal : Cal
  trace : Option TraceCond
  link : Link
  pending : List Instr
  deriving DecidableEq, Repr

/-- Why a step stops with a fault. -/
inductive Fault where
  /-- Raised by ARRIVAL_MATCH alone, for a match at S of a ticket that has no outcome. R19 says every
  ticket is decided when it is committed, so the spec gives such a commit no effect. Safe: the model
  stops where the hardware cannot be while ticket numbers differ (logs 12 and 34). -/
  | undecidedCommit
  deriving DecidableEq, Repr

/-- Why a step is refused. -/
inductive Refusal where
  /-- Raised by an arm of `exec` whose command has no meaning yet; no arm does. Safe. -/
  | notModelled (mnemonic : String)
  deriving DecidableEq, Repr

/-- The default geometry record (R4). -/
abbrev defaultGeometry : Geometry where
  scanLine := 400
  cellG := 1700
  gate := 1800
  cellM := 4200
  cellK := 4600
  headLine := 4800
  cellS := 5600
  flaps := ⟨5800, 6100, 6400, 6700, 7000⟩
  jamTol := 40
  filter := 4
  minLen := 180
  maxLen := 600
  gateLead := 60
  gateClear := 20
  flapLead := 40
  flapClear := 20
  gateConfirm := 10
  stallTime := 50
  startTime := 3000
  startDistance := 400
  holdMark := 28

/-- The tracker after power-on reset (R24). -/
abbrev resetTracker : Tracker where
  belt := 0
  filters := PerCell.all ⟨false, 0⟩
  edges := []
  geometry := defaultGeometry
  table := []
  nextTicket := 0
  prevTrail := none
  firstTicket := true
  throttle := false
  sincePulse := 0
  stallRaised := false

/-- The default threshold record (R40). -/
abbrev defaultThreshold : Threshold := ⟨600, 240, 1, 900, 3, 24, 24⟩

/-- A scan channel after power-on reset (R49). -/
abbrev resetChannel : ScanChannel where
  trim := 0
  bp := 0
  bf := 0
  fast := 8
  inForce := defaultThreshold
  pendingRecord := none
  gap := ⟨0, []⟩
  spans := []
  leadIn := []
  recent := []
  ring := []

/-- Lamp control after power-on reset (R28, R29, R49): the saver timer is restarted. -/
abbrev resetLamps : Lamps where
  record := ⟨.auto, 10000, 40⟩
  state := PerSide.all .standby
  saver := some 10000
  wakeErrors := PerSide.all 0

/-- A head after power-on reset with its fault input inactive (R101). -/
abbrev resetHead : HeadUnit where
  state := .ready
  queue := []
  waiting := false
  handed := none

/-- The cancel unit after power-on reset (R83, R101). -/
abbrev resetCancel : Cancel where
  record := ⟨12, 12, 60, 4, 12, PerHead.all true⟩
  slots := PerSlot.all ⟨none, 0⟩
  active := none
  heads := PerHead.all resetHead

/-- The default sort plan (R103). -/
abbrev defaultPlan : PerOutcome PlanRow where
  facedA := ⟨.b1, none⟩
  facedB := ⟨.b2, none⟩
  turnedToA := ⟨.b1, none⟩
  turnedToB := ⟨.b2, none⟩
  meter := ⟨.b3, none⟩
  noMark := ⟨.b4, none⟩
  ambiguous := ⟨.b4, none⟩
  short := ⟨.b4, none⟩
  long := ⟨.b4, none⟩
  lampCold := ⟨.b4, none⟩
  reface := ⟨.b4, none⟩
  handCancel := ⟨.b5, none⟩

/-- The stacker controller after power-on reset (R105, R121). -/
abbrev resetStacker : Stacker where
  plan := defaultPlan
  bins := PerBin.all ⟨1000, none, 1000, .auto, .opened, 0⟩
  flaps := PerFlap.all false
  queue := []
  trays := PerBin.all none

/-- A tally set of zeros (R130). -/
abbrev zeroTallies : TallySet where
  entered := 0
  committed := 0
  purged := 0
  outcome := PerOutcome.all 0
  bin := PerBin.all 0
  binForced := 0
  overrun := 0
  batches := PerBin.all 0
  strikes := PerHead.all 0
  late := PerHead.all 0
  missed := PerHead.all 0
  impressions := PerSlot.all 0
  pathForced := 0
  specks := 0
  manyMarks := 0
  jams := 0
  strayEdges := 0

/-- The tally unit after power-on reset (R130). -/
abbrev resetTally : Tally where
  life := zeroTallies
  shift := zeroTallies
  baseOcc := 0
  held := none
  nextSnapshot := 0

/-- The stop-cause table after power-on reset (R141, R146, R153). -/
abbrev resetCauses : PerCause CauseEntry where
  door := ⟨false, false, false, .beltStop, .none⟩
  extStop := ⟨false, false, false, .beltStop, .none⟩
  jam := ⟨false, false, false, .beltStop, .none⟩
  beltStall := ⟨false, false, false, .beltStop, .none⟩
  tableFull := ⟨false, false, false, .beltStop, .none⟩
  actuator := ⟨false, false, false, .beltStop, .none⟩
  stackFull := ⟨false, false, false, .feedHold, .none⟩
  linkLoss := ⟨false, true, false, .feedHold, .none⟩

/-- Run control after power-on reset (R153). -/
abbrev resetRun : RunControl where
  state := .idle
  startTimer := none
  startPos := none
  causes := resetCauses
  linkTimeout := 2000
  sinceLink := 0
  linkRaised := false
  lastValid := 0
  faults := ⟨none, none, 0⟩
  beacon := .off

/-- The link after power-on reset (R180): the outbound queue holds RESET_DONE of kind POWER_ON alone,
with the positions, uptime and next numbers of the reset (R179). -/
abbrev resetLink : Link where
  rate := .r115200
  receiver := .hunting
  inbound := []
  outbound := [.notice (.resetDone .powerOn 0 0 0 0 0)]
  oversize := 0
  bad := 0
  broken := 0
  dropped := 0
  reportsLost := 0
  tracesLost := 0
  eventsLost := 0
  letterEnable := true
  traceEnable := true
  reset := .none
  line := []

/-- Every input pin inactive and both straps low: the levels `State.reset` is taken with (log 7). -/
abbrev quietPins : Pins where
  door := false
  extStop := false
  binFull := PerBin.all false
  headFault := PerHead.all false
  gateConfirm := false
  strap1 := false
  strap2 := false

/-- The controller right after a power-on reset with quiet input pins. -/
def State.reset : State where
  pins := quietPins
  uptime := 0
  tracker := resetTracker
  channels := PerChannel.all resetChannel
  lamps := resetLamps
  facing := ⟨⟨16, 500⟩, []⟩
  gate := ⟨.straight, [], none, none⟩
  cancel := resetCancel
  stacker := resetStacker
  tally := resetTally
  run := resetRun
  cal := .off
  trace := none
  link := resetLink
  pending := []

end Sys2Proof.Machine
end

