-- ==== Sys2Proof/Machine/Operands.lean ====
section
/-! DEFINITION. Reading operands: comparing belt positions (R1), the check of a frame (R167), which
request a frame is (R183), and the fields of a request's payload with the checks their owners make on
them (R172, R181). A reader answers `.error` with the refusal that the first failing check decides. -/

namespace Sys2Proof.Machine

/-! ### Belt positions -/

/-- q lies after p (R1): the difference read as a signed 32-bit number is positive. -/
def after (q p : Pos) : Bool := decide (0 < (q - p).toInt)

/-- Position p is reached when the belt stands at it; a step taken later still finds it reached (log 3). -/
def reached (belt p : Pos) : Bool := decide (0 ≤ (belt - p).toInt)

/-- The position n steps after p. -/
def stepsOn (p : Pos) (n : Nat) : Pos := p + BitVec.ofNat 32 n

/-- The position n steps before p. -/
def stepsBack (p : Pos) (n : Nat) : Pos := p - BitVec.ofNat 32 n

/-- The distance from p to a later q in steps, saturated at 65535 (R8, R11, R12). R1 reads a difference as signed,
and R11 and R12 say no more than "saturated at 65535": that a difference above 2^31 steps counts as a long distance,
65535, and not as a negative one, is a DESIGN CHOICE (log 38, unsafe). -/
def distance (q p : Pos) : Nat := min Config.saturation (q - p).toNat

/-- floor and ceil of R33: the letter windows of a span over n steps, ceil(n / 8) + 2. -/
def spanWindows (n : Nat) : Nat := (n + 7) / 8 + 2

/-! ### Bytes, frames and the check -/

/-- A number from its bytes, most significant byte first (R181). -/
def beNat (bs : List Byte) : Nat := bs.foldl (fun a b => 256 * a + b.toNat) 0

/-- One bit into the CRC register (R167): polynomial x^16 + x^12 + x^5 + 1. -/
def crcBit (r : BitVec 16) (bit : Bool) : BitVec 16 :=
  if r.msb != bit then (r <<< 1) ^^^ 0x1021 else r <<< 1

/-- One byte into the CRC register, most significant bit first. -/
def crcByte (r : BitVec 16) (b : Byte) : BitVec 16 :=
  [7, 6, 5, 4, 3, 2, 1, 0].foldl (fun a i => crcBit a (b.getLsbD i)) r

/-- The CRC of R167: the register starts at FFFFh and the result is neither reflected nor inverted. -/
def crc (bs : List Byte) : BitVec 16 := bs.foldl crcByte 0xFFFF

/-- What becomes of a candidate frame, given the bytes held after its SYNC (R168, R169). -/
inductive Candidate where
  | incomplete
  | oversize
  | bad
  | valid (f : InFrame) (size : Nat)
  deriving DecidableEq, Repr

/-- The candidate as the bytes after its SYNC stand (R168): LEN is judged when both its bytes are held,
the check when the second check byte is. `size` is how many of the bytes the frame takes. -/
def candidate (bs : List Byte) : Candidate :=
  match bs with
  | hi :: lo :: rest =>
    let len := beNat [hi, lo]
    if len < Config.minBody ∨ Config.maxBody < len then .oversize
    else if rest.length < len + 2 then .incomplete
    else
      let body := rest.take len
      let check := (rest.drop len).take 2
      if beNat check = (crc (hi :: lo :: body)).toNat then
        match body with
        | code :: tag :: payload => .valid ⟨code, tag, payload⟩ (len + 4)
        | _ => .oversize
      else .bad
  | _ => .incomplete

/-- What the receiver finds in the bytes it takes (R168, R169, R170). -/
inductive Heard where
  | oversize
  | bad
  | frame (f : InFrame)
  deriving DecidableEq, Repr

/-- The receiver's hunt over bytes taken in order (R168, R169): what it finds, and the bytes held of a
candidate still in reception. After a failed candidate it hunts again with the byte after that
candidate's SYNC; after a valid frame it goes on behind the frame. `skip` counts bytes of a frame
already taken. -/
def hunt (skip : Nat) : List Byte → List Heard × Option (List Byte)
  | [] => ([], none)
  | b :: rest =>
    match skip with
    | n + 1 => hunt n rest
    | 0 =>
      if b = Config.sync then
        match candidate rest with
        | .incomplete => ([], some rest)
        | .oversize => ((hunt 0 rest).1.cons .oversize, (hunt 0 rest).2)
        | .bad => ((hunt 0 rest).1.cons .bad, (hunt 0 rest).2)
        | .valid f n => ((hunt n rest).1.cons (.frame f), (hunt n rest).2)
      else hunt 0 rest

/-! ### Requests -/

/-- Which row of the table a request frame is (R183). EXERCISE is one request with three rows, told
apart by its first field, the actuator (R77): 1 is FLAP, 2 is HEAD, and every other EXERCISE frame, the
ones R172 or R77 will refuse included, is the row EXERCISE_GATE (log 14). -/
def requestOf (f : InFrame) : Instr :=
  match f.code.toNat with
  | 0x10 => .setGeometry
  | 0x11 => .getGeometry
  | 0x12 => .tableRead
  | 0x20 => .setDetect
  | 0x21 => .getDetect
  | 0x22 => .setTrim
  | 0x23 => .setLamp
  | 0x24 => .lampStatus
  | 0x30 => .setDecide
  | 0x38 =>
    match f.payload with
    | [a, _] => if a = 1 then .exerciseFlap else if a = 2 then .exerciseHead else .exerciseGate
    | _ => .exerciseGate
  | 0x40 => .setCancel
  | 0x41 => .loadPlate
  | 0x42 => .selectPlate
  | 0x43 => .plateRead
  | 0x50 => .setPlan
  | 0x51 => .setBin
  | 0x52 => .binClose
  | 0x53 => .binRelease
  | 0x54 => .binStatus
  | 0x60 => .tallyLatch
  | 0x61 => .tallyRead
  | 0x70 => .run
  | 0x71 => .finish
  | 0x72 => .halt
  | 0x73 => .causeClear
  | 0x74 => .setCauses
  | 0x75 => .status
  | 0x76 => .faultRead
  | 0x80 => .calStart
  | 0x81 => .calApply
  | 0x82 => .calAbort
  | 0x83 => .traceArm
  | 0x84 => .traceDisarm
  | 0x90 => .setNotices
  | 0x91 => .linkStatus
  | 0x92 => .reset
  | _ => .unknownCode

/-- The fields of a payload, given their widths in bytes (R181): none if the length is not their sum. -/
def takeFields : List Nat → List Byte → Option (List Nat)
  | [], [] => some []
  | [], _ :: _ => none
  | w :: ws, bs => if bs.length < w then none else (takeFields ws (bs.drop w)).map (beNat (bs.take w) :: ·)

/-- The number of the first field out of its range, counting from n; each field is (value, low, high). -/
def firstBad (n : Nat) : List (Nat × Nat × Nat) → Option Nat
  | [] => none
  | (v, lo, hi) :: rest => if lo ≤ v ∧ v ≤ hi then firstBad (n + 1) rest else some n

/-- A value, unless a field is out of range: then BAD_VALUE with the first such field (R172). -/
def checked {α : Type} (ranges : List (Nat × Nat × Nat)) (v : α) : Except Reason α :=
  match firstBad 1 ranges with
  | some n => .error (.badValue n)
  | none => .ok v

/-- A request without fields: any field is BAD_LENGTH (R172). -/
def noFields (p : List Byte) : Except Reason Unit :=
  if p = [] then .ok () else .error .badLength

/-- Channels as numbered on the link (R181). -/
def channelOf : Nat → Channel
  | 0 => .au
  | 1 => .al
  | 2 => .bu
  | _ => .bl

/-- Bins 1 to 6. -/
def binOf : Nat → Bin
  | 1 => .b1
  | 2 => .b2
  | 3 => .b3
  | 4 => .b4
  | 5 => .b5
  | _ => .b6

/-- Flaps 1 to 5. -/
def flapOf : Nat → Flap
  | 1 => .f1
  | 2 => .f2
  | 3 => .f3
  | 4 => .f4
  | _ => .f5

/-- Plate slots 1 to 4; 0 is none (R87). -/
def slotOf : Nat → Option Slot
  | 1 => some .p1
  | 2 => some .p2
  | 3 => some .p3
  | 4 => some .p4
  | _ => none

/-- Causes 1 to 8 by priority (R141). -/
def causeOf : Nat → Cause
  | 1 => .door
  | 2 => .extStop
  | 3 => .jam
  | 4 => .beltStall
  | 5 => .tableFull
  | 6 => .actuator
  | 7 => .stackFull
  | _ => .linkLoss

/-- Outcomes 1 to 12 in the row order of the sort plan (R103). -/
def outcomeOf : Nat → LetterOutcome
  | 1 => .facedA
  | 2 => .facedB
  | 3 => .turnedToA
  | 4 => .turnedToB
  | 5 => .meter
  | 6 => .noMark
  | 7 => .ambiguous
  | 8 => .short
  | 9 => .long
  | 10 => .lampCold
  | 11 => .reface
  | _ => .handCancel

/-- Lamp modes in the order R28 lists them. -/
def lampModeOf : Nat → LampMode
  | 0 => .auto
  | 1 => .forceOn
  | _ => .forceStandby

/-- Bin modes in the order R105 lists them. -/
def binModeOf : Nat → BinMode
  | 0 => .auto
  | _ => .hold

/-- Reactions in the order R146 lists them. -/
def reactionOf : Nat → Reaction
  | 0 => .beltStop
  | _ => .feedHold

/-! #### Geometry (R4, R5) -/

/-- Widths of the geometry fields 1 to 25 (R4, R181). -/
def geometryWidths : List Nat :=
  [2, 2, 2, 2, 2, 2, 2, 2, 2, 2, 2, 2, 1, 1, 2, 2, 1, 1, 1, 1, 1, 2, 2, 2, 1]

/-- A geometry record from its fields in order. -/
def Geometry.ofFields : List Nat → Option Geometry
  | [sl, g, gt, m, k, h, s, f1, f2, f3, f4, f5, jt, fi, mn, mx, gl, gc, fl, fc, gcf, st, stt, sd, hm] =>
    some
      { scanLine := sl, cellG := g, gate := gt, cellM := m, cellK := k, headLine := h, cellS := s
        flaps := ⟨f1, f2, f3, f4, f5⟩
        jamTol := jt, filter := fi, minLen := mn, maxLen := mx, gateLead := gl, gateClear := gc
        flapLead := fl, flapClear := fc, gateConfirm := gcf, stallTime := st, startTime := stt
        startDistance := sd, holdMark := hm }
  | _ => none

/-- The places of the machine along the belt with their field numbers: the chain of R5 check 2. -/
def Geometry.chain (g : Geometry) : List (Nat × Nat) :=
  [(1, g.scanLine), (2, g.cellG), (3, g.gate), (4, g.cellM), (5, g.cellK), (6, g.headLine), (7, g.cellS),
   (8, g.flaps.f1), (9, g.flaps.f2), (10, g.flaps.f3), (11, g.flaps.f4), (12, g.flaps.f5)]

/-- The first place in a chain that is not greater than the one before it (R5 check 2). -/
def chainBad : List (Nat × Nat) → Option Nat
  | a :: b :: rest => if a.2 < b.2 then chainBad (b :: rest) else some b.1
  | _ => none

/-- The ranges of R4, in field order; that of max_len is computed from the same record's min_len. -/
def Geometry.ranges (g : Geometry) : List (Nat × Nat × Nat) :=
  (g.chain.map fun x => (x.2, 1, 20000)) ++
  [(g.jamTol, 10, 200), (g.filter, 1, 16), (g.minLen, 120, 400), (g.maxLen, g.minLen + 40, 800),
   (g.gateLead, 0, 200), (g.gateClear, 0, 200), (g.flapLead, 0, 200), (g.flapClear, 0, 200),
   (g.gateConfirm, 1, 100), (g.stallTime, 10, 1000), (g.startTime, 500, 10000),
   (g.startDistance, 100, 4000), (g.holdMark, 8, 31)]

/-- The decision margin of R5 check 3. -/
def Geometry.decisionMargin (g : Geometry) : Bool :=
  decide (g.scanLine + 8 * spanWindows g.maxLen + 40 + g.gateLead ≤ g.gate)

/-- The strike margin of R5 check 4. -/
def Geometry.strikeMargin (g : Geometry) : Bool :=
  decide (g.headLine + g.maxLen + 40 ≤ g.cellS)

/-- The flap margin of R5 check 5. -/
def Geometry.flapMargin (g : Geometry) : Bool :=
  decide (g.cellS + 40 + g.flapLead ≤ g.flaps.f1)

/-- The field a SET_GEOMETRY refusal reports, or none for a record that passes every check (R5). -/
def Geometry.badField (g : Geometry) : Option Nat :=
  match firstBad 1 g.ranges with
  | some n => some n
  | none =>
    match chainBad g.chain with
    | some n => some n
    | none =>
      if !g.decisionMargin then some 3
      else if !g.strikeMargin then some 7
      else if !g.flapMargin then some 8
      else none

/-- The record a SET_GEOMETRY payload carries, before any check of its values. -/
def readGeometry (p : List Byte) : Option Geometry :=
  (takeFields geometryWidths p).bind Geometry.ofFields

/-! #### The other settings -/

/-- SET_DETECT (R40, R41): the channel and the seven threshold fields. -/
def readDetect (p : List Byte) : Except Reason (Channel × Threshold) :=
  match takeFields [1, 2, 2, 1, 2, 1, 1, 2] p with
  | some [c, th, tl, trl, mh, trh, lv, mm] =>
    checked [(c, 0, 3), (th, 1, 2040), (tl, 0, th), (trl, 0, 7), (mh, 1, 2040), (trh, trl, 7),
      (lv, 0, 255), (mm, 16, 400)] (channelOf c, ⟨th, tl, trl, mh, trh, lv, mm⟩)
  | _ => .error .badLength

/-- One field, a number in a range (GET_DETECT, SELECT_PLATE, bin requests, reads with a mark). -/
def readByte (lo hi : Nat) (p : List Byte) : Except Reason Nat :=
  match takeFields [1] p with
  | some [v] => checked [(v, lo, hi)] v
  | _ => .error .badLength

/-- SET_TRIM (R27): channel and trim code. -/
def readTrim (p : List Byte) : Except Reason (Channel × BitVec 4) :=
  match takeFields [1, 1] p with
  | some [c, t] => checked [(c, 0, 3), (t, 0, 15)] (channelOf c, BitVec.ofNat 4 t)
  | _ => .error .badLength

/-- SET_LAMP (R28, R30): mode, saver time, warm time. -/
def readLamp (p : List Byte) : Except Reason LampRecord :=
  match takeFields [1, 4, 2] p with
  | some [m, s, w] => checked [(m, 0, 2), (s, 0, 600000), (w, 5, 500)] ⟨lampModeOf m, s, w⟩
  | _ => .error .badLength

/-- SET_DECIDE (R54, R55): no fields to read the record, or both fields. -/
def readDecide (p : List Byte) : Except Reason (Option DecideRecord) :=
  if p = [] then .ok none
  else
    match takeFields [1, 2] p with
    | some [d, f] => checked [(d, 12, 32), (f, 0, 65535)] (some ⟨d, f⟩)
    | _ => .error .badLength

/-- SET_CANCEL (R83, R84): no fields, or all seven. -/
def readCancel (p : List Byte) : Except Reason (Option CancelRecord) :=
  if p = [] then .ok none
  else
    match takeFields [1, 1, 1, 1, 1, 1, 1] p with
    | some [lm, tm, pb, e, r, ea, eb] =>
      checked [(lm, 0, 40), (tm, 0, 40), (pb, 0, 120), (e, 2, 20), (r, 2, 100), (ea, 0, 1), (eb, 0, 1)]
        (some ⟨lm, tm, pb, e, r, ⟨ea == 1, eb == 1⟩⟩)
    | _ => .error .badLength

/-- An office code of R85: 1 to 12 characters, each of byte value 32 to 126. -/
def officeOk (cs : List Byte) : Bool :=
  decide (1 ≤ cs.length ∧ cs.length ≤ 12) && cs.all fun c => decide (32 ≤ c.toNat ∧ c.toNat ≤ 126)

/-- LOAD_PLATE (R85, R86): slot and the six plate fields. The office code's count byte must agree with
the bytes that follow (R181); a code R86 does not allow fails field 2. -/
def readPlate (p : List Byte) : Except Reason (Nat × Plate) :=
  match p with
  | slot :: count :: rest =>
    let code := rest.take count.toNat
    match takeFields [1, 1, 2, 1, 1] (rest.drop count.toNat) with
    | some [d, m, y, sh, sl] =>
      checked [(slot.toNat, 1, 4), (if officeOk code then 1 else 0, 1, 1), (d, 1, 31), (m, 1, 12),
        (y, 2000, 2099), (sh, 65, 90), (sl, 0, 15)]
        (slot.toNat, ⟨code, d, m, y, BitVec.ofNat 8 sh, sl⟩)
    | _ => .error .badLength
  | _ => .error .badLength

/-- A plan row from its primary and its alternate, 0 meaning none (R103). -/
def planRow (p a : Nat) : PlanRow := ⟨binOf p, if a = 0 then none else some (binOf a)⟩

/-- The ranges of the 24 fields of SET_PLAN: primary 1 to 6 and alternate 0 to 6 in turn (R104). -/
def planRanges : List Nat → List (Nat × Nat × Nat)
  | p :: a :: rest => (p, 1, 6) :: (a, 0, 6) :: planRanges rest
  | _ => []

/-- SET_PLAN (R103, R104): no fields, or all 24. -/
def readPlan (p : List Byte) : Except Reason (Option (PerOutcome PlanRow)) :=
  if p = [] then .ok none
  else
    match p.map BitVec.toNat with
    | [p1, a1, p2, a2, p3, a3, p4, a4, p5, a5, p6, a6, p7, a7, p8, a8, p9, a9, p10, a10, p11, a11,
        p12, a12] =>
      checked (planRanges (p.map BitVec.toNat))
        (some ⟨planRow p1 a1, planRow p2 a2, planRow p3 a3, planRow p4 a4, planRow p5 a5, planRow p6 a6,
          planRow p7 a7, planRow p8 a8, planRow p9 a9, planRow p10 a10, planRow p11 a11, planRow p12 a12⟩)
    | _ => .error .badLength

/-- SET_BIN (R117): bin, base and mode. -/
def readBin (p : List Byte) : Except Reason (Bin × Nat × BinMode) :=
  match takeFields [1, 2, 1] p with
  | some [b, base, m] => checked [(b, 1, 6), (base, 1, 5000), (m, 0, 1)] (binOf b, base, binModeOf m)
  | _ => .error .badLength

/-- What a valid SET_CAUSES carries (R146): the masks, the three settable reactions, the link timeout. -/
structure CauseSettings where
  masked : PerCause Bool
  actuator : Reaction
  stackFull : Reaction
  linkLoss : Reaction
  linkTimeout : Nat
  deriving DecidableEq, Repr

/-- SET_CAUSES (R146): no fields, or all twelve. MASKED is 0 and UNMASKED is 1, BELT_STOP 0 and
FEED_HOLD 1 (R181). -/
def readCauses (p : List Byte) : Except Reason (Option CauseSettings) :=
  if p = [] then .ok none
  else
    match takeFields [1, 1, 1, 1, 1, 1, 1, 1, 1, 1, 1, 2] p with
    | some [m1, m2, m3, m4, m5, m6, m7, m8, ra, rs, rl, t] =>
      checked [(m1, 0, 1), (m2, 0, 1), (m3, 0, 1), (m4, 0, 1), (m5, 0, 1), (m6, 0, 1), (m7, 0, 1), (m8, 0, 1),
        (ra, 0, 1), (rs, 0, 1), (rl, 0, 1), (t, 100, 60000)]
        (some ⟨⟨m1 == 0, m2 == 0, m3 == 0, m4 == 0, m5 == 0, m6 == 0, m7 == 0, m8 == 0⟩,
          reactionOf ra, reactionOf rs, reactionOf rl, t⟩)
    | _ => .error .badLength

/-- CAL_START (R155): the channel alone, with target 1200 and N 4, or channel, target and N. -/
def readCalStart (p : List Byte) : Except Reason (Channel × Nat × Nat) :=
  match takeFields [1] p with
  | some [c] => checked [(c, 0, 3)] (channelOf c, 1200, 4)
  | _ =>
    match takeFields [1, 2, 1] p with
    | some [c, t, n] => checked [(c, 0, 3), (t, 200, 2000), (n, 1, 16)] (channelOf c, t, n)
    | _ => .error .badLength

/-- TRACE_ARM (R162): the condition and, for TICKET and OUTCOME, its argument, which is 2 bytes for a
ticket number and 1 byte for an outcome (R181; log 18). -/
def readTraceArm (p : List Byte) : Except Reason TraceCond :=
  match p with
  | [c] =>
    if c = 0 then .ok .next else if c = 1 ∨ c = 2 then .error .badLength else .error (.badValue 1)
  | [c, o] =>
    if c = 2 then
      if 1 ≤ o.toNat ∧ o.toNat ≤ 11 then .ok (.outcome (outcomeOf o.toNat)) else .error (.badValue 2)
    else if c = 0 ∨ c = 1 then .error .badLength
    else .error (.badValue 1)
  | [c, hi, lo] =>
    if c = 1 then .ok (.ticket (BitVec.ofNat 16 (beNat [hi, lo])))
    else if c = 0 ∨ c = 2 then .error .badLength
    else .error (.badValue 1)
  | _ => .error .badLength

/-- SET_NOTICES (R174): no fields, or the LETTER and TRACE enables. -/
def readNotices (p : List Byte) : Except Reason (Option (Bool × Bool)) :=
  if p = [] then .ok none
  else
    match takeFields [1, 1] p with
    | some [l, t] => checked [(l, 0, 1), (t, 0, 1)] (some (l == 1, t == 1))
    | _ => .error .badLength

end Sys2Proof.Machine
end

