-- ==== Sys2Proof/Machine/Flags.lean ====
section
/-! DEFINITION. What is read from the state and never stored: outputs, flags, groups, and the conditions
under which a step of the table is due. Nothing here changes the state. -/

namespace Sys2Proof.Machine

/-! ### Indices in order -/

/-- The eight causes in priority order (R141). -/
abbrev allCauses : List Cause :=
  [.door, .extStop, .jam, .beltStall, .tableFull, .actuator, .stackFull, .linkLoss]

/-- The four channels in channel order (R47). -/
abbrev allChannels : List Channel := [.au, .al, .bu, .bl]

/-- The five flaps along the belt. -/
abbrev allFlaps : List Flap := [.f1, .f2, .f3, .f4, .f5]

/-- The twelve outcomes in row order (R103). -/
abbrev allOutcomes : List LetterOutcome :=
  [.facedA, .facedB, .turnedToA, .turnedToB, .meter, .noMark, .ambiguous, .short, .long, .lampCold,
   .reface, .handCancel]

/-- A bin's number. -/
def binNumber : Bin → Nat
  | .b1 => 1
  | .b2 => 2
  | .b3 => 3
  | .b4 => 4
  | .b5 => 5
  | .b6 => 6

/-- A flap's number, which is that of its bin. -/
def flapNumber : Flap → Nat
  | .f1 => 1
  | .f2 => 2
  | .f3 => 3
  | .f4 => 4
  | .f5 => 5

/-- The flap of a bin; the end bin 6 has none. -/
def flapOfBin : Bin → Option Flap
  | .b1 => some .f1
  | .b2 => some .f2
  | .b3 => some .f3
  | .b4 => some .f4
  | .b5 => some .f5
  | .b6 => none

/-- The bin of a flap. -/
def binOfFlap : Flap → Bin
  | .f1 => .b1
  | .f2 => .b2
  | .f3 => .b3
  | .f4 => .b4
  | .f5 => .b5

/-- A plate slot's number. -/
def slotNumber : Slot → Nat
  | .p1 => 1
  | .p2 => 2
  | .p3 => 3
  | .p4 => 4

/-- The side of a channel. -/
def channelSide : Channel → Side
  | .au => .a
  | .al => .a
  | .bu => .b
  | .bl => .b

/-- An arrival cell as a photocell. -/
def arrivalCell : ArrivalCell → Cell
  | .g => .g
  | .m => .m
  | .k => .k
  | .s => .s

/-! ### Run control -/

/-- The run states in which tickets are created and edges used: RUNNING, HELD and DRAINING (R3). -/
def tracks : RunState → Bool
  | .running => true
  | .held => true
  | .draining _ => true
  | _ => false

/-- The belt run output (R135). -/
def beltRunOutput (s : State) : Bool :=
  match s.run.state with
  | .idle => false
  | .stopped => false
  | _ => true

/-- The FEED_ENABLE output: active in RUNNING with the throttle off (R21). -/
def feedEnableOutput (s : State) : Bool :=
  decide (s.run.state = .running) && !s.tracker.throttle

/-- Whether a cause is of type level (R141). -/
def isLevel : Cause → Bool
  | .door => true
  | .extStop => true
  | .stackFull => true
  | _ => false

/-- The present level of a level cause's input; an event cause has none (R141). -/
def levelActive (p : Pins) : Cause → Bool
  | .door => p.door
  | .extStop => p.extStop
  | .stackFull => p.binFull.b6
  | _ => false

/-- A cause's request (R141): the latch of an event cause, the input of a level cause. -/
def requestPresent (s : State) (c : Cause) : Bool :=
  if isLevel c then levelActive s.pins c else (s.run.causes.get c).latch

/-- Whether a cause cannot be cleared now (R147): a level cause with its input active, or ACTUATOR while
either head fault input is active. -/
def heldActive (p : Pins) (c : Cause) : Bool :=
  levelActive p c || (decide (c = .actuator) && (p.headFault.a || p.headFault.b))

/-- Whether a cause is in service with a given reaction (R143). -/
def inGroup (s : State) (r : Reaction) (c : Cause) : Bool :=
  (s.run.causes.get c).inService && decide ((s.run.causes.get c).reaction = r)

/-- Whether the BELT_STOP group is not empty (R143). -/
def beltStopGroup (s : State) : Bool := allCauses.any (inGroup s .beltStop)

/-- Whether the FEED_HOLD group is not empty (R143). -/
def feedHoldGroup (s : State) : Bool := allCauses.any (inGroup s .feedHold)

/-- The leading cause (R148): the cause of highest priority in service. -/
def leadingCause (s : State) : Option Cause :=
  allCauses.find? fun c => (s.run.causes.get c).inService

/-- The condition of the flashing beacon (R151). -/
def flashWanted (s : State) : Bool :=
  decide (s.run.state ≠ .stopped) && feedHoldGroup s && !beltStopGroup s

/-- The beacon output (R151). -/
def beaconOutput (s : State) : Bool :=
  match s.run.beacon with
  | .steady => true
  | .flashOn _ => true
  | _ => false

/-- A run state's number in the order of the table of R135 (R182). -/
def runStateNumber : RunState → Nat
  | .idle => 0
  | .starting => 1
  | .running => 2
  | .draining _ => 3
  | .held => 4
  | .stopped => 5

/-! ### Tracker -/

/-- The number of tickets in the letter table (R7). -/
def occupancy (s : State) : Nat := s.tracker.table.length

/-- The ticket of a number, if it is still in the table (R8). -/
def ticketOf (s : State) (n : U16) : Option Ticket :=
  s.tracker.table.find? fun t => t.number == n

/-- dist(X): the place of an arrival cell (R15). -/
def cellPlace (g : Geometry) : ArrivalCell → Nat
  | .g => g.cellG
  | .m => g.cellM
  | .k => g.cellK
  | .s => g.cellS

/-- Whether a ticket is eligible at a cell (R15): unmatched there and matched at every earlier cell. A
match at S is the commit, which removes the ticket. -/
def eligible (t : Ticket) : ArrivalCell → Bool
  | .g => !t.seenG
  | .m => t.seenG && !t.seenM
  | .k => t.seenG && t.seenM && !t.seenK
  | .s => t.seenG && t.seenM && t.seenK

/-- The expected position of a ticket at a cell (R15). -/
def expectedAt (g : Geometry) (t : Ticket) (x : ArrivalCell) : Pos := stepsOn t.lead (cellPlace g x)

/-- Whether a position lies in a ticket's arrival window at a cell, both ends included (R15). -/
def inWindow (g : Geometry) (t : Ticket) (x : ArrivalCell) (p : Pos) : Bool :=
  decide (-(g.jamTol : Int) ≤ (p - expectedAt g t x).toInt ∧ (p - expectedAt g t x).toInt ≤ g.jamTol)

/-- Whether a ticket is matched by an edge at a cell (R15, R16). One whose window has closed unmatched stays unmatched
until the purge (R17). -/
def matchesEdge (g : Geometry) (x : ArrivalCell) (p : Pos) (t : Ticket) : Bool :=
  !t.missed && eligible t x && inWindow g t x p

/-- Whether an accepted edge is one of a cell's edges of a kind. -/
def isEdge (c : Cell) (leading : Bool) (e : Edge) : Bool := decide (e.cell = c ∧ e.leading = leading)

/-- Whether an accepted leading edge that would match a ticket at a cell is waiting for its step. -/
def matchWaiting (s : State) (x : ArrivalCell) (t : Ticket) : Bool :=
  s.tracker.edges.any fun e => isEdge (arrivalCell x) true e && matchesEdge s.tracker.geometry x e.pos t

/-- Where a ticket's arrival window at a cell closes (R17). -/
def windowClosesAt (g : Geometry) (t : Ticket) (x : ArrivalCell) : Pos :=
  stepsOn (expectedAt g t x) (g.jamTol + g.filter)

/-- Whether a ticket's window at a cell is due to close unmatched, and has not been closed: after every edge that falls
in it has been matched (R17). -/
def closeDue (s : State) (x : ArrivalCell) (t : Ticket) : Bool :=
  eligible t x && !t.missed && reached s.tracker.belt (windowClosesAt s.tracker.geometry t x) && !matchWaiting s x t

/-- Whether a ticket's window 1 is due to start and has not started (R33, R41). -/
def windowDue (s : State) (t : Ticket) : Bool :=
  !t.spanStarted && reached s.tracker.belt (stepsOn t.lead s.tracker.geometry.scanLine)

/-- Whether the LONG check of a ticket is due and has not been made (R13). -/
def longDue (s : State) (t : Ticket) : Bool :=
  !t.longChecked && reached s.tracker.belt (stepsOn t.lead s.tracker.geometry.maxLen)

/-- Whether the stuck-letter check of a ticket is due and has not been made (R14). -/
def stuckDue (s : State) (t : Ticket) : Bool :=
  !t.stuckChecked && reached s.tracker.belt (stepsOn t.lead (4 * s.tracker.geometry.maxLen))

/-- Whether a trailing edge accepted at E is waiting for its step. The checks of R13 and R14 read the
filter after that step's sample, so such an edge is the trail of the youngest ticket in time. -/
def trailWaiting (s : State) : Bool := s.tracker.edges.any fun e => decide (e.cell = .e) && !e.leading

/-- Whether a ticket has no trail and none is coming to it by an edge already accepted (R13, R14). -/
def trailAbsent (s : State) (t : Ticket) : Bool :=
  t.trail.isNone &&
    !(trailWaiting s && decide (s.tracker.table.getLast?.map Ticket.number = some t.number))

/-- Whether a ticket carries the LONG flag. -/
def isLong (t : Ticket) : Bool := decide (t.size = some .long)

/-- The last window of a ticket's span (R33), absent while neither a trail nor LONG is known. -/
def spanEnd (g : Geometry) (t : Ticket) : Option Nat :=
  if isLong t then some (spanWindows g.maxLen) else t.length.map spanWindows

/-- Whether a ticket older than n is in the table and not DECIDED (R52). The table is in ticket order. -/
def elderUndecided (s : State) (n : U16) : Bool :=
  (s.tracker.table.takeWhile fun t => t.number != n).any fun t => decide (t.state ≠ .decided)

/-! ### Channels and lamps -/

/-- A channel's signed trim c (R26). -/
def signedTrim (c : BitVec 4) : Int := c.toInt

/-- 32 + c, the gain of a trim code in 32nds (R26). -/
def gain32 (c : BitVec 4) : Nat := (32 + signedTrim c).toNat

/-- Whether a lamp is ON (R28). -/
def lampOn (l : LampState) : Bool := decide (l = .on)

/-- A lamp output: active in WARMING and ON (R28). -/
def lampOutput (s : State) (d : Side) : Bool := decide (s.lamps.state.get d ≠ .standby)

/-- Whether a channel carries a span of a ticket. -/
def carries (n : U16) (c : ScanChannel) : Bool := c.spans.any fun sp => sp.ticket == n

/-- Whether a ticket's span is complete on all four channels (R50): it has started, and no channel still
carries it. -/
def spanComplete (s : State) (t : Ticket) : Bool :=
  t.spanStarted && !s.channels.toList.any (carries t.number)

/-- Whether a channel holds a completed window (R33, R34). -/
def windowReady (c : ScanChannel) : Bool :=
  c.spans.any (fun sp => decide (Config.windowSteps ≤ sp.samples.length)) ||
    decide (Config.windowSteps ≤ c.gap.samples.length)

/-! ### Gate and flaps -/

/-- Whether the gate confirm input reads a target (R67). -/
def gateReads (p : Pins) : Path → Bool
  | .turn => p.gateConfirm
  | .straight => !p.gateConfirm

/-- The planned position of the gate (R68). -/
def plannedGate (g : Gate) : Path :=
  match g.queue.getLast? with
  | some e => e.target
  | none => g.output

/-- The planned state of a flap (R107): true is OPEN. The youngest entry of a flap is read as its last one in due order;
the two differ only in the case of log 41. -/
def plannedFlap (k : Stacker) (f : Flap) : Bool :=
  match (k.queue.filter fun a => decide (a.flap = f)).getLast? with
  | some a => a.opens
  | none => k.flaps.get f

/-- The route (R107): the lowest-numbered bin whose flap is planned OPEN, else bin 6. -/
def route (k : Stacker) : Bin :=
  match allFlaps.find? (plannedFlap k) with
  | some f => binOfFlap f
  | none => .b6

/-- A flap's output (R107): open in state OPEN, or while an exercise holds it open. -/
def flapOutput (s : State) (f : Flap) : Bool :=
  s.stacker.flaps.get f ||
    (match s.gate.exercise with
     | some (.flap x _) => decide (x = f)
     | _ => false)

/-- Whether a bin is usable (R106): OPEN with its full input inactive. -/
def usable (s : State) (b : Bin) : Bool :=
  decide ((s.stacker.bins.get b).state = .opened) && !s.pins.binFull.get b

/-- A tray-swap line (R114). -/
def trayLine (s : State) (b : Bin) : Bool := (s.stacker.trays.get b).isSome

/-! ### Cancel unit -/

/-- A head's strike output (R94). -/
def strikeOutput (s : State) (h : Head) : Bool :=
  match (s.cancel.heads.get h).state with
  | .striking _ => true
  | _ => false

/-- Whether a strike in progress references a plate slot. -/
def strikeRefers (p : Slot) : HeadState → Bool
  | .striking (.letter _ _ slot) => decide (slot = some p)
  | _ => false

/-- How many strike queue entries and strikes in progress of a head reference a slot (R85, R88). -/
def headReferences (p : Slot) (u : HeadUnit) : Nat :=
  (u.queue.filter fun e => decide (e.slot = some p)).length + (if strikeRefers p u.state then 1 else 0)

/-- How many strike queue entries and strikes in progress reference a slot (R88). -/
def slotReferences (k : Cancel) (p : Slot) : Nat :=
  headReferences p k.heads.a + headReferences p k.heads.b

/-- Whether a plate slot is in use (R85). -/
def slotInUse (k : Cancel) (p : Slot) : Bool :=
  decide (k.active = some p) || decide (0 < slotReferences k p)

/-- Whether a head is held DISABLED by its fault input or its enable (R95). -/
def headBarred (s : State) (h : Head) : Bool :=
  s.pins.headFault.get h || !s.cancel.record.enable.get h

/-! ### Link -/

/-- Whether a queued frame is a reply. -/
def isReply : OutFrame → Bool
  | .reply _ _ _ => true
  | .notice _ => false

/-- Whether a queued frame is a bulk notice (R174): LETTER or TRACE. -/
def isBulk : OutFrame → Bool
  | .notice (.letter _) => true
  | .notice (.trace _) => true
  | _ => false

/-- Shared slots in use: the notices in the queue, one being sent included (R173). -/
def sharedUsed (l : Link) : Nat := (l.outbound.filter fun f => !isReply f).length

/-- Free slots of the shared area (R173). -/
def sharedFree (l : Link) : Nat := Config.sharedSlots - sharedUsed l

/-- Whether the sending of the oldest frame has begun (R166, R178): the transmitter begins a frame as soon
as it can, and begins none while a warm reset is due (log 10). -/
def transmitting (l : Link) : Bool := decide (l.outbound ≠ []) && decide (l.reset ≠ .acting)

/-- Whether a gate exercise is pending, its reply not yet formed (R171). -/
def exerciseReplyDue (g : Gate) : Bool :=
  match g.exercise with
  | some (.gate _ _ _ _) => true
  | _ => false

/-- Reply slots held (R171): replies in the queue, and the slot reserved for a pending gate exercise. -/
def slotsHeld (s : State) : Nat :=
  (s.link.outbound.filter isReply).length + (if exerciseReplyDue s.gate then 1 else 0)

/-- The request the link can take now (R171), as its row: the inbound buffer holds a frame, a reply slot
is free, and no RESET waits. -/
def nextRequest (s : State) : Option Instr :=
  if slotsHeld s < Config.replySlots ∧ s.link.reset = .none then s.link.inbound.head?.map requestOf
  else none

end Sys2Proof.Machine
end

