-- ==== Sys2Proof/Machine/Layout.lean ====
section
/-! DEFINITION. The bytes of replies and notices (11_frame_and_record_layouts.md: R181 to R185, with the
envelope of R167). Fields follow one another in the order of the owner's list; where the spec gives a
composite field no layout of its own, log 17 says which reading is taken. -/

namespace Sys2Proof.Machine

/-! ### Numbers, flags and optional fields (R181) -/

/-- A number in 1 byte. -/
def u8 (n : Nat) : List Byte := [BitVec.ofNat 8 n]

/-- A number in 2 bytes, most significant first. -/
def u16 (n : Nat) : List Byte := [BitVec.ofNat 8 (n / 256), BitVec.ofNat 8 n]

/-- A number in 4 bytes, most significant first. -/
def u32 (n : Nat) : List Byte :=
  [BitVec.ofNat 8 (n / 16777216), BitVec.ofNat 8 (n / 65536), BitVec.ofNat 8 (n / 256), BitVec.ofNat 8 n]

/-- A 32-bit position, uptime or count. -/
def word32 (x : U32) : List Byte := u32 x.toNat

/-- A 16-bit number. -/
def word16 (x : U16) : List Byte := u16 x.toNat

/-- A set-or-clear field: 1 is set. -/
def flag (b : Bool) : List Byte := [if b then 1 else 0]

/-- A level listed as active or inactive (R105), numbered in that order (R181). -/
def encLevel (active : Bool) : List Byte := u8 (if active then 0 else 1)

/-- A subset field: bit i is set when the member listed i-th is in it. -/
def bits (bs : List Bool) : Nat := bs.foldr (fun b a => (if b then 1 else 0) + 2 * a) 0

/-- An optional field of full width w: a presence byte, then the field, or zeros when absent. -/
def optional {α : Type} (w : Nat) (f : α → List Byte) : Option α → List Byte
  | none => 0 :: List.replicate w 0
  | some a => 1 :: f a

/-! ### Enumerations -/

/-- Channels 0 to 3. -/
def channelNumber : Channel → Nat
  | .au => 0
  | .al => 1
  | .bu => 2
  | .bl => 3

/-- Causes 1 to 8. -/
def causeNumber : Cause → Nat
  | .door => 1
  | .extStop => 2
  | .jam => 3
  | .beltStall => 4
  | .tableFull => 5
  | .actuator => 6
  | .stackFull => 7
  | .linkLoss => 8

/-- Outcomes 1 to 12. -/
def outcomeNumber : LetterOutcome → Nat
  | .facedA => 1
  | .facedB => 2
  | .turnedToA => 3
  | .turnedToB => 4
  | .meter => 5
  | .noMark => 6
  | .ambiguous => 7
  | .short => 8
  | .long => 9
  | .lampCold => 10
  | .reface => 11
  | .handCancel => 12

/-- Ticket states (R184). -/
def ticketStateNumber : TicketState → Nat
  | .entering => 0
  | .scanning => 1
  | .decided => 2

/-- Size flags (R184). -/
def sizeNumber : SizeFlag → Nat
  | .short => 0
  | .long => 1

/-- Classes (R184). -/
def classNumber : LetterClass → Nat
  | .fa => 0
  | .fb => 1
  | .ia => 2
  | .ib => 3
  | .meter => 4
  | .none => 5
  | .ambig => 6

/-- Required paths (R184). -/
def reqPathNumber : ReqPath → Nat
  | .straight => 0
  | .turn => 1
  | .any => 2

/-- The head field of the LETTER report: 0 none, 1 A, 2 B (R184). -/
def headNumber : HeadChoice → Nat
  | .none => 0
  | .on .a => 1
  | .on .b => 2

/-- The head field where R184 does not lay it out: R8 lists A, B, none (R181). -/
def headListed : HeadChoice → Nat
  | .on .a => 0
  | .on .b => 1
  | .none => 2

/-- Paths (R184). -/
def pathNumber : Path → Nat
  | .straight => 0
  | .turn => 1

/-- Postmark placements (R184). -/
def placementNumber : Placement → Nat
  | .before => 0
  | .after => 1

/-- Strike results (R184). -/
def strikeNumber : StrikeResult → Nat
  | .pending => 0
  | .struck => 1
  | .late => 2
  | .missed => 3
  | .notRequired => 4

/-- Sides, A first. -/
def sideNumber : Side → Nat
  | .a => 0
  | .b => 1

/-- Lamp states in the order of R28. -/
def lampStateNumber : LampState → Nat
  | .standby => 0
  | .warming _ => 1
  | .on => 2

/-- Lamp modes in the order of R28. -/
def lampModeNumber : LampMode → Nat
  | .auto => 0
  | .forceOn => 1
  | .forceStandby => 2

/-- LAMP reasons in the order of R32. -/
def lampReasonNumber : LampReason → Nat
  | .edge => 0
  | .warmDone => 1
  | .saver => 2
  | .request => 3

/-- RUNSTATE reasons in the order of R135. -/
def runReasonNumber : RunReason → Nat
  | .run => 0
  | .finish => 1
  | .halt => 2
  | .startDone => 3
  | .drainDone => 4
  | .cause => 5
  | .warmReset => 6

/-- STOP reasons in the order of R148. -/
def stopReasonNumber : StopReason → Nat
  | .request => 0
  | .unmask => 1
  | .mask => 2
  | .clear => 3
  | .level => 4

/-- CAL statuses in the order of R159. -/
def calStatusNumber : CalStatus → Nat
  | .ok => 0
  | .limit => 1
  | .noSignal => 2
  | .clipped => 3
  | .aborted => 4

/-- CAL abort reasons in the order of R159. -/
def calReasonNumber : CalAbortReason → Nat
  | .setTrim => 0
  | .setDetect => 1
  | .beltStop => 2
  | .halt => 3
  | .warmReset => 4

/-- Reactions in the order of R141. -/
def reactionNumber : Reaction → Nat
  | .beltStop => 0
  | .feedHold => 1

/-- Bin modes in the order of R105. -/
def binModeNumber : BinMode → Nat
  | .auto => 0
  | .hold => 1

/-- Bin states in the order of R105. -/
def binStateNumber : BinState → Nat
  | .opened => 0
  | .closed => 1

/-- Batch reasons in the order of R113. -/
def batchReasonNumber : BatchReason → Nat
  | .count => 0
  | .request => 1

/-- Window classes (R185). -/
def winClassNumber : WinClass → Nat
  | .none => 0
  | .stamp => 1
  | .meter => 2

/-- Cells, 0 E to 4 S (R181). -/
def cellNumber : Cell → Nat
  | .e => 0
  | .g => 1
  | .m => 2
  | .k => 3
  | .s => 4

/-- Jam kinds (R181). -/
def jamKindNumber : JamKind → Nat
  | .stuck => 0
  | .unexpected => 1
  | .missing => 2

/-- Stall phases (R181). -/
def stallPhaseNumber : StallPhase → Nat
  | .start => 0
  | .run => 1

/-- RESET_DONE kinds in the order of R179. -/
def resetKindNumber : ResetKind → Nat
  | .warm => 0
  | .powerOn => 1

/-! ### Records -/

/-- A geometry record in field order (R4). -/
def encGeometry (g : Geometry) : List Byte :=
  u16 g.scanLine ++ u16 g.cellG ++ u16 g.gate ++ u16 g.cellM ++ u16 g.cellK ++ u16 g.headLine ++
  u16 g.cellS ++ u16 g.flaps.f1 ++ u16 g.flaps.f2 ++ u16 g.flaps.f3 ++ u16 g.flaps.f4 ++ u16 g.flaps.f5 ++
  u8 g.jamTol ++ u8 g.filter ++ u16 g.minLen ++ u16 g.maxLen ++ u8 g.gateLead ++ u8 g.gateClear ++
  u8 g.flapLead ++ u8 g.flapClear ++ u8 g.gateConfirm ++ u16 g.stallTime ++ u16 g.startTime ++
  u16 g.startDistance ++ u8 g.holdMark

/-- A mark record in 8 bytes (R184). -/
def encMark (m : Mark) : List Byte :=
  u8 (channelNumber m.channel) ++ u8 (bits [decide (m.kind = .meter), m.clipped]) ++
  u16 m.start ++ u16 m.length ++ u16 m.score

/-- A ticket's cells seen: bit 0 G, bit 1 M, bit 2 K (R184). -/
def encSeen (t : Ticket) : List Byte := u8 (bits [t.seenG, t.seenM, t.seenK])

/-- A ticket's cold flags: bit 0 side A, bit 1 side B (R184). R8 lists them as one field, and TABLE_READ carries
them in the same one byte; R181 does not say so, and that reading is the model's choice (log 17). -/
def encCold (t : Ticket) : List Byte := u8 (bits [t.cold.a, t.cold.b])

/-- A band's parts in the order R8 lists them. -/
def encBand (b : Band) : List Byte :=
  u16 b.start ++ u16 b.stop ++ u8 (placementNumber b.placement) ++ u8 b.pmLength ++
  optional 1 (fun p => u8 (slotNumber p)) b.slot

/-- A ticket of TABLE_READ (R23): its state, then its fields in the order of R8. -/
def encTicket (t : Ticket) : List Byte :=
  u8 (ticketStateNumber t.state) ++ word16 t.number ++ word32 t.lead ++ optional 4 word32 t.trail ++
  optional 2 u16 t.length ++ optional 2 u16 t.gap ++ encSeen t ++ optional 1 (fun x => u8 (sizeNumber x)) t.size ++
  encCold t ++ u8 t.marks.length ++ t.marks.flatMap encMark ++
  optional 1 (fun x => u8 (classNumber x)) t.cls ++ optional 1 (fun x => u8 (reqPathNumber x)) t.required ++
  optional 1 (fun x => u8 (headListed x)) t.head ++ optional 1 (fun x => u8 (pathNumber x)) t.taken ++
  flag t.pathForced ++ optional 8 encBand t.band ++ optional 1 (fun x => u8 (strikeNumber x)) t.strike ++
  optional 1 (fun x => u8 (outcomeNumber x)) t.outcome ++ optional 1 (fun x => u8 (binNumber x)) t.bin ++
  flag t.binForced ++ flag t.gapShort ++ flag t.secondary ++ flag t.manyMarks ++ flag t.gateUnconfirmed ++
  flag t.pmShort ++ flag t.noPostmark

/-- A threshold record in field order (R40). -/
def encThreshold (h : Threshold) : List Byte :=
  u16 h.tagHigh ++ u16 h.tagLow ++ u8 h.transLow ++ u16 h.meterHigh ++ u8 h.transHigh ++ u8 h.transLevel ++
  u16 h.minMark

/-- The lamp record (R28). -/
def encLampRecord (r : LampRecord) : List Byte := u8 (lampModeNumber r.mode) ++ u32 r.saver ++ u16 r.warm

/-- The decide record (R54). -/
def encDecide (r : DecideRecord) : List Byte := u8 r.dom8 ++ u16 r.floor

/-- The cancel record (R83). -/
def encCancel (r : CancelRecord) : List Byte :=
  u8 r.leadMargin ++ u8 r.trailMargin ++ u8 r.postmark ++ u8 r.clearance ++ u8 r.recharge ++
  flag r.enable.a ++ flag r.enable.b

/-- A plate (R85): the office code with its count byte, then the other fields. -/
def encPlate (p : Plate) : List Byte :=
  u8 p.office.length ++ p.office ++ u8 p.day ++ u8 p.month ++ u16 p.year ++ [p.shift] ++ u8 p.slogan

/-- A plate slot of PLATE_READ (R88). R181 sends an absent field in its full width, all bytes 0, and a plate's width
varies with its office code: that an empty slot sends the 11 zero bytes of a plate with an office code of count 0 and
of its impressions is the model's reading (log 17, DEDUCED, unsafe). In use or free is numbered in that order, 0 in
use and 1 free (R181). -/
def encSlot (k : Cancel) (p : Slot) : List Byte :=
  optional 11 (fun q => encPlate q ++ word32 (k.slots.get p).impressions) (k.slots.get p).plate ++
  u8 (if slotInUse k p then 0 else 1) ++ u8 (slotReferences k p)

/-- The sort plan in row order (R104). -/
def encPlan (p : PerOutcome PlanRow) : List Byte :=
  p.toList.flatMap fun r => u8 (binNumber r.primary) ++ u8 ((r.alternate.map binNumber).getD 0)

/-- A bin record with the present level of its full input (R105), 0 active and 1 inactive. -/
def encBin (s : State) (b : Bin) : List Byte :=
  let r := s.stacker.bins.get b
  u16 r.base ++ optional 2 u16 r.pendingBase ++ u16 r.current ++ u8 (binModeNumber r.mode) ++
  u8 (binStateNumber r.state) ++ word16 r.batch ++ encLevel (s.pins.binFull.get b)

/-- A flap action of BIN_STATUS (R120); OPEN is 0 and CLOSE is 1, as R108 lists them. -/
def encFlapAction (a : FlapAction) : List Byte :=
  word32 a.due ++ u8 (flapNumber a.flap) ++ u8 (if a.opens then 0 else 1) ++ word16 a.ticket

/-- A bin of BIN_STATUS (R120): its record, the level of its full input, which R120 lists beside the record
that holds it (R105), whether it is usable, and whether its tray-swap line is active. A field that says whether
something holds is 1 where it does (log 17). -/
def encBinSeen (s : State) (b : Bin) : List Byte :=
  encBin s b ++ encLevel (s.pins.binFull.get b) ++ flag (usable s b) ++ flag (trayLine s b)

/-- The BIN_STATUS reply (R120). A flap's state and its output are 0 open and 1 closed: R107 numbers no values
of an output, and taking those of the flap state is the model's choice (log 17). -/
def encBinStatus (s : State) : List Byte :=
  ([Bin.b1, .b2, .b3, .b4, .b5, .b6].flatMap (encBinSeen s)) ++
  (allFlaps.flatMap fun f => u8 (if s.stacker.flaps.get f then 0 else 1) ++ u8 (if flapOutput s f then 0 else 1)) ++
  u8 (binNumber (route s.stacker)) ++ u8 s.stacker.queue.length ++ s.stacker.queue.flatMap encFlapAction

/-- A tally set in the order of R122. -/
def encTallies (t : TallySet) : List Byte :=
  word32 t.entered ++ word32 t.committed ++ word32 t.purged ++ t.outcome.toList.flatMap word32 ++
  t.bin.toList.flatMap word32 ++ word32 t.binForced ++ word32 t.overrun ++ t.batches.toList.flatMap word32 ++
  t.strikes.toList.flatMap word32 ++ t.late.toList.flatMap word32 ++ t.missed.toList.flatMap word32 ++
  t.impressions.toList.flatMap word32 ++ word32 t.pathForced ++ word32 t.specks ++ word32 t.manyMarks ++
  word32 t.jams ++ word32 t.strayEdges

/-- A snapshot in the order of R126; the shift set ends with BASE_OCC. -/
def encSnapshot (n : Snapshot) : List Byte :=
  word16 n.number ++ encTallies n.life ++ encTallies n.shift ++ u8 n.baseOcc ++ word32 n.belt ++
  word32 n.uptime ++ u8 n.occupancy

/-- A run state with its drain kind where it is DRAINING (R135). -/
def encRunState (r : RunState) : List Byte :=
  u8 (runStateNumber r) ++
  optional 1 (fun k => u8 (if k = DrainKind.finish then 0 else 1))
    (match r with
     | .draining k => some k
     | _ => none)

/-- A leading cause or its absence (R148). -/
def encLeading (c : Option Cause) : List Byte := optional 1 (fun x => u8 (causeNumber x)) c

/-- A source detail in 6 bytes (R181). -/
def encDetail : SourceDetail → List Byte
  | .none => u16 0 ++ u32 0
  | .jam cell kind edge => u8 (cellNumber cell) ++ u8 (jamKindNumber kind) ++ word32 (edge.getD 0)
  | .stall phase => u8 (stallPhaseNumber phase) ++ u8 0 ++ u32 0
  | .tableFull edge => u16 0 ++ word32 edge
  | .actuator (.gate target) => u8 0 ++ u8 (pathNumber target) ++ u32 0
  | .actuator (.head .a) => u8 1 ++ u8 0 ++ u32 0
  | .actuator (.head .b) => u8 2 ++ u8 0 ++ u32 0
  | .linkLoss timeout lastValid => u16 timeout ++ word32 lastValid

/-- The settings of SET_CAUSES in field order (R146). -/
def encCauses (r : RunControl) : List Byte :=
  r.causes.toList.flatMap (fun c => u8 (if c.masked then 0 else 1)) ++
  u8 (reactionNumber r.causes.actuator.reaction) ++ u8 (reactionNumber r.causes.stackFull.reaction) ++
  u8 (reactionNumber r.causes.linkLoss.reaction) ++ u16 r.linkTimeout

/-- A fault entry in the order of R149. -/
def encFault (e : FaultEntry) : List Byte :=
  u8 (causeNumber e.cause) ++ flag e.masked ++ encDetail e.detail ++ word32 e.belt ++ word32 e.uptime ++
  optional 2 word16 e.ticket

/-- The FAULT_READ reply (R150). -/
def encFaults (f : FaultRecord) : List Byte :=
  optional 19 encFault f.first ++ optional 19 encFault f.latest ++ u16 f.count

/-- The calibration state's number and, where one runs, its channel and counts (R152). -/
def encCal : Cal → List Byte
  | .off => u8 0 ++ List.replicate 4 0
  | .collecting r => u8 1 ++ [1] ++ u8 (channelNumber r.channel) ++ u8 r.valid ++ u8 r.clipped
  | .ready r _ => u8 2 ++ [1] ++ u8 (channelNumber r.channel) ++ u8 r.valid ++ u8 r.clipped

/-- The STATUS reply (R152). -/
def encStatus (s : State) : List Byte :=
  encRunState s.run.state ++ encLeading (leadingCause s) ++
  (allCauses.flatMap fun c =>
    flag (requestPresent s c) ++ flag (s.run.causes.get c).masked ++ flag (s.run.causes.get c).inService ++
    u8 (reactionNumber (s.run.causes.get c).reaction)) ++
  u8 (occupancy s) ++ flag s.tracker.throttle ++ word32 s.tracker.belt ++ word32 s.uptime ++
  u8 (lampStateNumber s.lamps.state.a) ++ u8 (lampStateNumber s.lamps.state.b) ++ encCal s.cal ++
  optional 2 word16 (s.tally.held.map Snapshot.number) ++ flag (beaconOutput s)

/-- The TABLE_READ reply (R23). -/
def encTable (s : State) : List Byte :=
  word32 s.tracker.belt ++ word32 s.uptime ++ u8 (occupancy s) ++ word16 s.tracker.nextTicket ++
  flag s.tracker.throttle ++ u8 s.tracker.table.length ++ s.tracker.table.flatMap encTicket

/-- The GET_DETECT reply (R42). -/
def encDetect (c : ScanChannel) : List Byte :=
  encThreshold c.inForce ++ optional 11 encThreshold c.pendingRecord ++ u8 c.trim.toNat ++ u16 c.bp ++
  u16 c.bf ++ u8 c.fast

/-- The LAMP_STATUS reply (R32). -/
def encLamps (l : Lamps) : List Byte :=
  encLampRecord l.record ++ u8 (lampStateNumber l.state.a) ++ u8 (lampStateNumber l.state.b) ++
  u16 l.wakeErrors.a ++ u16 l.wakeErrors.b

/-- The PLATE_READ reply (R88); the active plate is 0 for none, as in SELECT_PLATE. -/
def encPlates (k : Cancel) : List Byte :=
  u8 ((k.active.map slotNumber).getD 0) ++ encSlot k .p1 ++ encSlot k .p2 ++ encSlot k .p3 ++ encSlot k .p4

/-- A trace condition with its argument, as R185 lays it out. -/
def encCond : TraceCond → List Byte
  | .next => u8 0 ++ u16 0
  | .ticket n => u8 1 ++ word16 n
  | .outcome o => u8 2 ++ u16 (outcomeNumber o)

/-- The LINK_STATUS reply (R177). -/
def encLink (l : Link) : List Byte :=
  u16 l.oversize ++ u16 l.bad ++ u16 l.broken ++ u16 l.dropped ++ u16 l.reportsLost ++ u16 l.tracesLost ++
  u16 l.eventsLost ++ flag l.letterEnable ++ flag l.traceEnable ++ u8 l.inbound.length ++ u8 (sharedFree l)

/-! ### Notices -/

/-- The presence word of a LETTER report (R184). -/
def letterPresence (r : LetterReport) : Nat :=
  let t := r.ticket
  bits [r.purge.isSome, t.trail.isSome, t.length.isSome, t.gap.isSome, t.size.isSome, t.cls.isSome,
    t.required.isSome, t.head.isSome, t.taken.isSome, t.band.isSome, (t.band.bind Band.slot).isSome,
    t.strike.isSome, t.outcome.isSome, t.bin.isSome, r.batch.isSome, false]

/-- The flags word of a LETTER report (R184). -/
def letterFlags (t : Ticket) : Nat :=
  bits [t.secondary, t.manyMarks, t.gapShort, t.pmShort, t.noPostmark, t.gateUnconfirmed, t.pathForced,
    t.binForced]

/-- The payload of a LETTER notice (R184). -/
def encLetter (r : LetterReport) : List Byte :=
  let t := r.ticket
  u8 (if r.purge.isSome then 1 else 0) ++ u8 (ticketStateNumber t.state) ++ u16 (letterPresence r) ++
  word16 t.number ++ word32 r.pos ++ word32 r.uptime ++ word32 t.lead ++ word32 (t.trail.getD 0) ++
  u16 (t.length.getD 0) ++ u16 (t.gap.getD 0) ++ u8 (if r.purge = some .halt then 1 else 0) ++ encSeen t ++
  u8 ((t.size.map sizeNumber).getD 0) ++ encCold t ++ u8 ((t.cls.map classNumber).getD 0) ++
  u8 ((t.required.map reqPathNumber).getD 0) ++ u8 ((t.head.map headNumber).getD 0) ++
  u8 ((t.taken.map pathNumber).getD 0) ++ u16 ((t.band.map Band.start).getD 0) ++
  u16 ((t.band.map Band.stop).getD 0) ++ u8 ((t.band.map fun b => placementNumber b.placement).getD 0) ++
  u8 ((t.band.map Band.pmLength).getD 0) ++ u8 (((t.band.bind Band.slot).map slotNumber).getD 0) ++
  u8 ((t.strike.map strikeNumber).getD 0) ++ u8 ((t.outcome.map outcomeNumber).getD 0) ++
  u8 ((t.bin.map binNumber).getD 0) ++ u16 ((r.batch.map BitVec.toNat).getD 0) ++ u16 (letterFlags t) ++
  u8 t.marks.length ++ t.marks.flatMap encMark

/-- A window entry of a TRACE notice (R185). -/
def encWindow (w : Window) : List Byte :=
  word32 w.start ++ u16 w.ea ++ u16 w.ef ++ u8 w.t ++
  u8 (winClassNumber w.cls + bits [false, false, w.clipped, w.cold])

/-- The payload of a TRACE notice (R185). -/
def encTrace (r : TraceReport) : List Byte :=
  u8 (channelNumber r.channel) ++ encCond r.cond ++ word16 r.ticket ++ word32 r.lead ++
  flag r.length.isSome ++ u16 (r.length.getD 0) ++ u8 (classNumber r.cls) ++ u8 (outcomeNumber r.outcome) ++
  u8 r.windows.length ++ r.windows.flatMap encWindow

/-- The CODE of a notice (R183). -/
def noticeCode : Notice → Byte
  | .letter _ => 0xC0
  | .trace _ => 0xC1
  | .runState .. => 0xC8
  | .stop .. => 0xC9
  | .batch .. => 0xCA
  | .bin .. => 0xCB
  | .lamp .. => 0xCC
  | .cal .. => 0xCD
  | .lost .. => 0xCE
  | .resetDone .. => 0xCF

/-- The payload of a notice: its fields in list order, without a status byte (R183). -/
def noticePayload : Notice → List Byte
  | .letter r => encLetter r
  | .trace r => encTrace r
  | .runState left entered reason leading occ belt uptime =>
    encRunState left ++ encRunState entered ++ u8 (runReasonNumber reason) ++ encLeading leading ++ u8 occ ++
    word32 belt ++ word32 uptime
  | .stop cause entering reason detail leading state uptime =>
    u8 (causeNumber cause) ++ u8 (if entering then 0 else 1) ++ u8 (stopReasonNumber reason) ++
    encDetail detail ++ encLeading leading ++ u8 (runStateNumber state) ++ word32 uptime
  | .batch bin number count reason mode state base current uptime =>
    u8 (binNumber bin) ++ word16 number ++ u16 count ++ u8 (batchReasonNumber reason) ++
    u8 (binModeNumber mode) ++ u8 (binStateNumber state) ++ u16 base ++ u16 current ++ word32 uptime
  | .bin bin full state current uptime =>
    u8 (binNumber bin) ++ u8 (if full then 0 else 1) ++ u8 (binStateNumber state) ++ u16 current ++
    word32 uptime
  | .lamp side left entered reason uptime =>
    u8 (sideNumber side) ++ u8 (lampStateNumber left) ++ u8 (lampStateNumber entered) ++
    u8 (lampReasonNumber reason) ++ word32 uptime
  | .cal channel status reason target cards valid clipped average code trim uptime =>
    u8 (channelNumber channel) ++ u8 (calStatusNumber status) ++
    optional 1 (fun x => u8 (calReasonNumber x)) reason ++ u16 target ++ u8 cards ++ u8 valid ++ u8 clipped ++
    optional 2 u16 average ++ optional 1 (fun c => u8 c.toNat) code ++ u8 trim.toNat ++ word32 uptime
  | .lost reports traces events uptime => u16 reports ++ u16 traces ++ u16 events ++ word32 uptime
  | .resetDone kind purged belt uptime nextTicket nextSnapshot =>
    u8 (resetKindNumber kind) ++ u8 purged ++ word32 belt ++ word32 uptime ++ word16 nextTicket ++
    word16 nextSnapshot

/-! ### Replies and frames -/

/-- A refusal's reason byte and two-byte detail (R182). -/
def encReason : Reason → List Byte
  | .unknownCode => u8 0 ++ u16 0
  | .badLength => u8 1 ++ u16 0
  | .badValue field => u8 2 ++ u16 field
  | .wrongState detail => u8 3 ++ u16 detail
  | .inUse => u8 4 ++ u16 0
  | .stillActive cause => u8 5 ++ u16 (causeNumber cause)
  | .actuatorTimeout => u8 6 ++ u16 0

/-- A reply's payload: the status byte and what it carries (R182). -/
def replyPayload : ReplyBody → List Byte
  | .ok fields => u8 0 ++ fields
  | .held number => u8 1 ++ word16 number
  | .refused reason => u8 2 ++ encReason reason

/-- A frame on the line (R167): SYNC, LEN, BODY and CHECK over LEN and BODY. -/
def frameBytes (code tag : Byte) (payload : List Byte) : List Byte :=
  let covered := u16 (payload.length + 2) ++ code :: tag :: payload
  Config.sync :: (covered ++ word16 (crc covered))

/-- The bytes of a queued frame. A notice carries TAG 0 (R173). -/
def lineBytes : OutFrame → List Byte
  | .reply code tag body => frameBytes code tag (replyPayload body)
  | .notice n => frameBytes (noticeCode n) 0 (noticePayload n)

/-- The detail of a WRONG_STATE that the run state gives (R182). -/
def barredByRunState (s : State) : Reason := .wrongState (runStateNumber s.run.state)

/-- The detail of a WRONG_STATE that another state gives: FFFFh (R182). -/
def barredElsewhere : Reason := .wrongState 0xFFFF

end Sys2Proof.Machine
end

