-- ==== Sys2Proof/Machine/Ops.lean ====
section
/-! DEFINITION. The named operations that several commands share: tickets, tallies, the outbound queue and
its notices, the run state, the purge and the belt stop, stop causes, the passing of time, and the taking
and answering of requests. Raising a stop cause (`raiseCause`) is the controller's one way of stopping
itself; every belt stop goes through it or through `evaluate`. -/

namespace Sys2Proof.Machine

/-! ### Tickets and tallies -/

/-- A write to the fields of the ticket of a number. A result for a ticket no longer in the table is
discarded (R8). -/
def setTicket (n : U16) (f : Ticket → Ticket) (s : State) : State :=
  { s with tracker := { s.tracker with
      table := s.tracker.table.map fun t => if t.number = n then f t else t } }

/-- The removal of one ticket, which leaves the order of the rest unchanged (R7). The ticket is found by its number:
of two tickets of one number the older leaves, also where the younger was matched, the model's choice (log 34). -/
def removeTicket (n : U16) (s : State) : State :=
  { s with tracker := { s.tracker with table := s.tracker.table.eraseP fun t => t.number == n } }

/-- One counter of a tally set, raised by one modulo 2^32 (R122). -/
def bump (c : Counter) (t : TallySet) : TallySet :=
  match c with
  | .entered => { t with entered := t.entered + 1 }
  | .committed => { t with committed := t.committed + 1 }
  | .purged => { t with purged := t.purged + 1 }
  | .outcome o => { t with outcome := t.outcome.set o (t.outcome.get o + 1) }
  | .bin b => { t with bin := t.bin.set b (t.bin.get b + 1) }
  | .binForced => { t with binForced := t.binForced + 1 }
  | .overrun => { t with overrun := t.overrun + 1 }
  | .batches b => { t with batches := t.batches.set b (t.batches.get b + 1) }
  | .strikes h => { t with strikes := t.strikes.set h (t.strikes.get h + 1) }
  | .late h => { t with late := t.late.set h (t.late.get h + 1) }
  | .missed h => { t with missed := t.missed.set h (t.missed.get h + 1) }
  | .impressions p => { t with impressions := t.impressions.set p (t.impressions.get p + 1) }
  | .pathForced => { t with pathForced := t.pathForced + 1 }
  | .specks => { t with specks := t.specks + 1 }
  | .manyMarks => { t with manyMarks := t.manyMarks + 1 }
  | .jams => { t with jams := t.jams + 1 }
  | .strayEdges => { t with strayEdges := t.strayEdges + 1 }

/-- The value of a counter in a tally set (R122). -/
def counterOf (t : TallySet) : Counter → U32
  | .entered => t.entered
  | .committed => t.committed
  | .purged => t.purged
  | .outcome o => t.outcome.get o
  | .bin b => t.bin.get b
  | .binForced => t.binForced
  | .overrun => t.overrun
  | .batches b => t.batches.get b
  | .strikes h => t.strikes.get h
  | .late h => t.late.get h
  | .missed h => t.missed.get h
  | .impressions p => t.impressions.get p
  | .pathForced => t.pathForced
  | .specks => t.specks
  | .manyMarks => t.manyMarks
  | .jams => t.jams
  | .strayEdges => t.strayEdges

/-- A posting adds one to the named counter in both sets at once (R122). -/
def post (c : Counter) (s : State) : State :=
  { s with tally := { s.tally with life := bump c s.tally.life, shift := bump c s.tally.shift } }

/-- A posting made only where a condition holds. -/
def postIf (b : Bool) (c : Counter) (s : State) : State := if b then post c s else s

/-- A 16-bit count that saturates at 65535. -/
def satSucc (n : Nat) : Nat := min Config.saturation (n + 1)

/-! ### The outbound queue (R173 to R176) -/

/-- A frame placed at the young end of the outbound queue (R173). -/
def enqueue (f : OutFrame) (s : State) : State :=
  { s with link := { s.link with outbound := s.link.outbound ++ [f] } }

/-- Whether a LOST notice is due (R176). -/
def lostDue (l : Link) : Bool :=
  decide (0 < l.reportsLost ∨ 0 < l.tracesLost ∨ 0 < l.eventsLost) &&
    decide (Config.lostNoticeRoom ≤ sharedFree l)

/-- The test of R176: a LOST notice is queued where it is due, and the lost counts are set to 0. -/
def testLost (s : State) : State :=
  if lostDue s.link then
    { s with link := { s.link with
        outbound := s.link.outbound ++
          [.notice (.lost s.link.reportsLost s.link.tracesLost s.link.eventsLost s.uptime)]
        reportsLost := 0, tracesLost := 0, eventsLost := 0 } }
  else s

/-- A frame counted lost by its kind (R175). -/
def countLost (f : OutFrame) (l : Link) : Link :=
  match f with
  | .notice (.letter _) => { l with reportsLost := satSucc l.reportsLost }
  | .notice (.trace _) => { l with tracesLost := satSucc l.tracesLost }
  | _ => { l with eventsLost := satSucc l.eventsLost }

/-- The newest bulk notice of a list of frames and the list without it (R175). -/
def removeNewestBulk : List OutFrame → Option (OutFrame × List OutFrame)
  | [] => none
  | f :: rest =>
    match removeNewestBulk rest with
    | some (g, rest') => some (g, f :: rest')
    | none => if isBulk f then some (f, rest) else none

/-- How many frames at the old end of the queue are being sent: one or none. -/
def begun (l : Link) : Nat := if transmitting l then 1 else 0

/-- A notice dropped and counted lost, with the test of R176 that a rising lost count makes. -/
def dropNotice (n : Notice) (s : State) : State :=
  testLost { s with link := countLost (.notice n) s.link }

/-- An event notice in a full shared area (R175): the newest bulk notice not yet begun gives its place,
or the event notice is dropped. -/
def displace (n : Notice) (s : State) : State :=
  match removeNewestBulk (s.link.outbound.drop (begun s.link)) with
  | some (gone, rest) =>
    testLost { s with link :=
      { countLost gone s.link with
        outbound := s.link.outbound.take (begun s.link) ++ rest ++ [.notice n] } }
  | none => dropNotice n s

/-- A notice handed to the link: placed, dropped by its enable, or judged against a full shared area
(R174, R175). A LETTER notice handed while disabled is not counted. -/
def handNotice (n : Notice) (s : State) : State :=
  match n with
  | .letter _ =>
    if !s.link.letterEnable then s
    else if sharedFree s.link = 0 then dropNotice n s
    else enqueue (.notice n) s
  | .trace _ =>
    if !s.link.traceEnable then dropNotice n s
    else if sharedFree s.link = 0 then dropNotice n s
    else enqueue (.notice n) s
  | _ => if sharedFree s.link = 0 then displace n s else enqueue (.notice n) s

/-! ### Requests (R171, R172) -/

/-- A request command takes the oldest frame of the inbound buffer if the link can take a request and
that frame is this row's (R171); otherwise it does not take place (log 2). -/
def takeRequest (c : Instr) (s : State) (k : InFrame → State → State) : State :=
  if nextRequest s = some c then
    match s.link.inbound with
    | f :: rest => k f { s with link := { s.link with inbound := rest } }
    | [] => s
  else s

/-- The reply to a request, with its CODE and TAG (R171). A reply always finds room (R173). -/
def reply (f : InFrame) (b : ReplyBody) (s : State) : State := enqueue (.reply f.code f.tag b) s

/-- A refusal changes nothing but queues its reply (R172). -/
def refuse (f : InFrame) (r : Reason) (s : State) : State := reply f (.refused r) s

/-- A request whose fields have been read: refused by the first failing check, else carried out. -/
def answer {α : Type} (f : InFrame) (fields : Except Reason α) (k : α → State → State) (s : State) : State :=
  match fields with
  | .error r => refuse f r s
  | .ok v => k v s

/-! ### The feed throttle, the beacon and the run state -/

/-- The throttle after an evaluation (R21). -/
def throttleAfter (g : Geometry) (occ : Nat) (was : Bool) : Bool :=
  if g.holdMark ≤ occ then true else if occ + 4 ≤ g.holdMark then false else was

/-- The evaluation of the throttle (R21). -/
def evalThrottle (s : State) : State :=
  { s with tracker := { s.tracker with
      throttle := throttleAfter s.tracker.geometry (occupancy s) s.tracker.throttle } }

/-- The beacon judged by its conditions (R151): a flash begins with the on-phase when its condition
starts, and goes on while it holds. -/
def beaconAfter (s : State) : Beacon :=
  if s.run.state = .stopped then .steady
  else if flashWanted s then
    match s.run.beacon with
    | .flashOn n => .flashOn n
    | .flashOff n => .flashOff n
    | _ => .flashOn Config.beaconOnMs
  else .off

/-- The beacon is re-judged at each change of run state and of either group (R151). -/
def judgeBeacon (s : State) : State := { s with run := { s.run with beacon := beaconAfter s } }

/-- A change of run state with its RUNSTATE notice (R135). Entering IDLE makes the previous-trail record
absent (R10); leaving STARTING stops the start timer (R139). -/
def enterRunState (new : RunState) (why : RunReason) (s : State) : State :=
  let s1 : State := { s with
    tracker := { s.tracker with
      prevTrail := if new = .idle then none else s.tracker.prevTrail
      firstTicket := if new = .idle then true else s.tracker.firstTicket }
    run := { s.run with
      state := new
      startTimer := if new = .starting then s.run.startTimer else none
      startPos := if new = .starting then s.run.startPos else none } }
  let s2 := judgeBeacon s1
  handNotice (.runState s.run.state new why (leadingCause s2) (occupancy s2) s2.tracker.belt s2.uptime) s2

/-- The end of a drain when the occupancy is 0 (R140). -/
def endDrain (s : State) : State :=
  if occupancy s = 0 then
    match s.run.state with
    | .draining .finish => enterRunState .idle .drainDone s
    | .draining .hold => enterRunState .held .drainDone s
    | _ => s
  else s

/-! ### Calibration's end, the purge and the belt stop -/

/-- The CAL notice of a calibration that ends or proposes (R159). -/
def calNotice (r : CalRecord) (status : CalStatus) (why : Option CalAbortReason) (avg : Option Nat)
    (code : Option (BitVec 4)) (s : State) : State :=
  handNotice (.cal r.channel status why r.target r.cards r.valid r.clipped avg code
    (s.channels.get r.channel).trim s.uptime) s

/-- The record of a running calibration. -/
def calRunning : Cal → Option CalRecord
  | .off => none
  | .collecting r => some r
  | .ready r _ => some r

/-- A deviation ends a running calibration as ABORTED (R161); in OFF it does nothing. -/
def abortCal (why : CalAbortReason) (s : State) : State :=
  match calRunning s.cal with
  | none => s
  | some r => calNotice r .aborted (some why) none none { s with cal := .off }

/-- A deviation of one channel: it ends a calibration running on that channel alone (R161). -/
def abortCalOf (c : Channel) (why : CalAbortReason) (s : State) : State :=
  if (calRunning s.cal).map CalRecord.channel = some c then abortCal why s else s

/-- What starts a purge (R20). -/
inductive Purge where
  | beltStop | halt | warmReset
  deriving DecidableEq, Repr

/-- The purge reason its LETTER notices carry; a warm reset queues none (R20, R132). -/
def purgeReason : Purge → Option PurgeReason
  | .beltStop => some .beltStop
  | .halt => some .halt
  | .warmReset => none

/-- The reason of the calibration's ABORTED notice at a purge (R161). -/
def purgeCalReason : Purge → CalAbortReason
  | .beltStop => .beltStop
  | .halt => .halt
  | .warmReset => .warmReset

/-- The removal of the oldest ticket by a purge: PURGED is counted and, but at a warm reset, its LETTER
notice is handed to the link (R20, R124, R131). -/
def purgeTicket (how : Purge) (t : Ticket) (s : State) : State :=
  let s1 := post .purged { s with tracker := { s.tracker with table := s.tracker.table.tail } }
  match purgeReason how with
  | none => s1
  | some r => handNotice (.letter ⟨some r, s1.tracker.belt, s1.uptime, t, none⟩) s1

/-- The tickets removed oldest first (R20). -/
def purgeTickets (how : Purge) : List Ticket → State → State
  | [], s => s
  | t :: rest, s => purgeTickets how rest (purgeTicket how t s)

/-- The samples of the latest steps, the belt now at the last of them, added to the gap window in progress,
which begins at its first step (R34). -/
def GapWindow.join (belt : Pos) (xs : List Sample) (g : GapWindow) : GapWindow :=
  if xs = [] then g
  else ⟨if g.samples = [] then stepsOn (stepsBack belt xs.length) 1 else g.start, g.samples ++ xs⟩

/-- A channel at a purge: its spans go, with windows in progress and mark-finding states (R34). Samples held
back for a window 1 that will not start are gap steps after all. At a warm reset a gap window begins at the
next step (R49; log 19). -/
def purgeChannel (how : Purge) (belt : Pos) (c : ScanChannel) : ScanChannel :=
  { c with
    spans := []
    leadIn := []
    gap := if how = .warmReset then ⟨c.gap.start, []⟩ else c.gap.join belt c.leadIn }

/-- A head at a purge (R100): its queue is emptied, a strike of a ticket is cut, and at a warm reset a test
strike too. -/
def purgeHead (how : Purge) (recharge : Nat) (u : HeadUnit) : HeadUnit :=
  { u with
    queue := []
    waiting := false
    state :=
      match u.state with
      | .striking (.letter _ _ _) => .recharging recharge
      | .striking (.test n) => if how = .warmReset then .recharging recharge else .striking (.test n)
      | h => h }

/-- The exercise in progress at a purge: a test strike cut by a warm reset ends it (R81). -/
def purgeExercise (how : Purge) (e : Option Exercise) : Option Exercise :=
  match e with
  | some (.head h) => if how = .warmReset then none else some (.head h)
  | e => e

/-- What each block drops with the purged tickets (R34, R66, R76, R100, R121); the throttle is off (R20). -/
def dropWork (how : Purge) (s : State) : State :=
  { s with
    tracker := { s.tracker with throttle := false }
    channels := s.channels.map (purgeChannel how s.tracker.belt)
    facing := { s.facing with waiting := [] }
    gate := { s.gate with queue := [], exercise := purgeExercise how s.gate.exercise }
    cancel := { s.cancel with heads := s.cancel.heads.map (purgeHead how s.cancel.record.recharge) }
    stacker := { s.stacker with queue := [] } }

/-- The purge (R20): every ticket leaves, the blocks drop their work, and a running calibration is aborted
after the LETTER notices (R144, R161). -/
def purge (how : Purge) (s : State) : State :=
  abortCal (purgeCalReason how) (dropWork how (purgeTickets how s.tracker.table s))

/-- The belt stop (R144). -/
def beltStop (s : State) : State := enterRunState .stopped .cause (purge .beltStop s)

/-! ### Stop causes (R141 to R149) -/

/-- Whether a belt stop acts on a run state: in STARTING, RUNNING, DRAINING and HELD (R143 step 1). -/
def canStop : RunState → Bool
  | .idle => false
  | .stopped => false
  | _ => true

/-- Step 1 of R143: the BELT_STOP group stops the belt. -/
def evalStop (s : State) : State :=
  if beltStopGroup s && canStop s.run.state then beltStop s else s

/-- Step 2 of R143: STOPPED ends when the BELT_STOP group is empty. -/
def evalIdle (s : State) : State :=
  if !beltStopGroup s && decide (s.run.state = .stopped) then enterRunState .idle .cause s else s

/-- Step 3 of R143: the FEED_HOLD group drains RUNNING, at once to HELD with an empty table (R140). -/
def evalHold (s : State) : State :=
  if feedHoldGroup s && decide (s.run.state = .running) then
    endDrain (enterRunState (.draining .hold) .cause s)
  else s

/-- Step 4 of R143: without a FEED_HOLD group, DRAINING (hold) and HELD return to RUNNING. -/
def evalResume (s : State) : State :=
  if !feedHoldGroup s && (decide (s.run.state = .draining .hold) || decide (s.run.state = .held)) then
    enterRunState .running .cause s
  else s

/-- The evaluation of the cause table, its steps in order (R143). -/
def evaluate (s : State) : State := evalResume (evalHold (evalIdle (evalStop s)))

/-- A change to one entry of the cause table. -/
def setCause (c : Cause) (f : CauseEntry → CauseEntry) (s : State) : State :=
  { s with run := { s.run with causes := s.run.causes.set c (f (s.run.causes.get c)) } }

/-- The STOP notice of a cause entering or leaving service, formed before the evaluation (R148). -/
def stopNotice (c : Cause) (entering : Bool) (why : StopReason) (s : State) : State :=
  handNotice (.stop c entering why (s.run.causes.get c).detail (leadingCause s) s.run.state s.uptime) s

/-- A cause's in-service flag changed, with its STOP notice (R142, R146). -/
def setService (c : Cause) (on : Bool) (why : StopReason) (s : State) : State :=
  stopNotice c on why (setCause c (fun e => { e with inService := on }) s)

/-- A cause enters service, with its STOP notice (R142), and the beacon is judged. -/
def enterService (c : Cause) (why : StopReason) (s : State) : State := judgeBeacon (setService c true why s)

/-- A cause leaves service, with its STOP notice (R147), and the beacon is judged. -/
def leaveService (c : Cause) (why : StopReason) (s : State) : State := judgeBeacon (setService c false why s)

/-- A request entered in the fault record (R149). -/
def recordFault (e : FaultEntry) (r : FaultRecord) : FaultRecord :=
  { first := some (r.first.getD e), latest := some e, count := satSucc r.count }

/-- The arrival of a request at run control, before its cause acts: the fault record's entry, the latch of
an event cause, and the source detail of the latest request (R142, R148, R149). -/
def noteRequest (c : Cause) (d : SourceDetail) (n : Option U16) (s : State) : State :=
  let e := s.run.causes.get c
  { s with run := { s.run with
      faults := recordFault ⟨c, e.masked, d, s.tracker.belt, s.uptime, n⟩ s.run.faults
      causes := s.run.causes.set c { e with latch := e.latch || !isLevel c, detail := d } } }

/-- A request of a cause (R142): recorded whatever its mask; unmasked and not in service, the cause enters
service and the table is evaluated. -/
def raiseCause (c : Cause) (d : SourceDetail) (n : Option U16) (why : StopReason) (s : State) : State :=
  let s1 := noteRequest c d n s
  let e := s.run.causes.get c
  if e.masked || e.inService then s1 else evaluate (enterService c why s1)

/-- A JAM raised by the tracker: JAMS is counted at each (R18). -/
def raiseJam (x : Cell) (kind : JamKind) (edge : Option Pos) (n : Option U16) (s : State) : State :=
  raiseCause .jam (.jam x kind edge) n .request (post .jams s)

/-! ### Channels -/

/-- A change to one scan channel. -/
def setChannel (c : Channel) (f : ScanChannel → ScanChannel) (s : State) : State :=
  { s with channels := s.channels.set c (f (s.channels.get c)) }

/-- The install of a trim code (R27): the baselines restart from 0 with a fast-acquire count of 8. -/
def installTrim (c : Channel) (code : BitVec 4) (s : State) : State :=
  setChannel c (fun k => { k with trim := code, bp := 0, bf := 0, fast := 8 }) s

/-! ### Time -/

/-- The ms left of a timer after dt ms. -/
def timerAfter (dt : Nat) (t : Option Nat) : Option Nat := t.map (· - dt)

/-- A lamp after dt ms of its warm timer. -/
def lampAfter (dt : Nat) : LampState → LampState
  | .warming n => .warming (n - dt)
  | l => l

/-- A head after dt ms of its recharge timer or test strike. -/
def headAfter (dt : Nat) (u : HeadUnit) : HeadUnit :=
  { u with state :=
      match u.state with
      | .recharging n => .recharging (n - dt)
      | .striking (.test n) => .striking (.test (n - dt))
      | h => h }

/-- An exercise after dt ms of its timer. -/
def exerciseAfter (dt : Nat) : Exercise → Exercise
  | .gate target n started tag => .gate target (n - dt) started tag
  | .flap f n => .flap f (n - dt)
  | .head h => .head h

/-- The beacon after dt ms of its phase. -/
def beaconLeft (dt : Nat) : Beacon → Beacon
  | .flashOn n => .flashOn (n - dt)
  | .flashOff n => .flashOff (n - dt)
  | b => b

/-- The receiver after dt ms of its 5 ms. -/
def receiverAfter (dt : Nat) : Receiver → Receiver
  | .hunting => .hunting
  | .inFrame held n => .inFrame held (n - dt)

/-- dt milliseconds of uptime pass: every running timer counts down to 0, where it has expired and its
expiry step is due; the stall and link-loss timers count up (00_scope.md, Time). -/
def advance (dt : Nat) (s : State) : State :=
  { s with
    uptime := s.uptime + BitVec.ofNat 32 dt
    tracker := { s.tracker with sincePulse := s.tracker.sincePulse + dt }
    lamps := { s.lamps with state := s.lamps.state.map (lampAfter dt), saver := timerAfter dt s.lamps.saver }
    gate := { s.gate with
      confirm := s.gate.confirm.map fun c => { c with left := c.left - dt }
      exercise := s.gate.exercise.map (exerciseAfter dt) }
    cancel := { s.cancel with heads := s.cancel.heads.map (headAfter dt) }
    stacker := { s.stacker with trays := s.stacker.trays.map (timerAfter dt) }
    run := { s.run with
      startTimer := timerAfter dt s.run.startTimer
      sinceLink := s.run.sinceLink + dt
      beacon := beaconLeft dt s.run.beacon }
    link := { s.link with receiver := receiverAfter dt s.link.receiver } }

end Sys2Proof.Machine
end

