-- ==== Sys2Proof/Machine/Calibration.lean ====
section
/-! DEFINITION. Calibration and the scan trace (09_calibration_and_scan_trace.md): what a decided ticket
gives them, and their requests. -/

namespace Sys2Proof.Machine

/-! ### Collecting and the proposal (R156 to R158) -/

/-- The proposed signed trim before the clamp (R157), for the signed trim c in force. -/
def proposedTrim (code : BitVec 4) (target avg : Nat) : Int :=
  ((2 * gain32 code * target + avg) / (2 * avg) : Nat) - 32

/-- The clamp of R157 to −8 to 7. -/
def clampTrim (c : Int) : Int := max (-8) (min 7 c)

/-- The proposal for an average above 0 (R157). -/
def proposal (code : BitVec 4) (target avg : Nat) : Proposal :=
  let c := proposedTrim code target avg
  ⟨avg, BitVec.ofInt 4 (clampTrim c), decide (c ≠ clampTrim c)⟩

/-- The end of collection at N valid peaks (R157): READY with a proposal, or OFF with NO_SIGNAL. -/
def propose (r : CalRecord) (s : State) : State :=
  let avg := r.sum / r.cards
  if avg = 0 then calNotice r .noSignal none (some avg) none { s with cal := .off }
  else
    let p := proposal (s.channels.get r.channel).trim r.target avg
    calNotice r (if p.limit then .limit else .ok) none (some avg) (some p.code) { s with cal := .ready r p }

/-- The record after a clipped mark (R156). -/
def countClipped (r : CalRecord) : CalRecord := { r with clipped := r.clipped + 1 }

/-- The record after a valid peak (R156). -/
def countPeak (peak : Nat) (r : CalRecord) : CalRecord := { r with sum := r.sum + peak, valid := r.valid + 1 }

/-- One STAMP mark of the calibrated channel (R156 to R158). -/
def takeMark (r : CalRecord) (m : Mark) (s : State) : State :=
  if m.clipped then
    let r1 := countClipped r
    if Config.clippedLimit ≤ r1.clipped then calNotice r1 .clipped none none none { s with cal := .off }
    else { s with cal := .collecting r1 }
  else
    let r1 := countPeak m.peak r
    if r1.cards ≤ r1.valid then propose r1 s else { s with cal := .collecting r1 }

/-- The marks of a ticket in list order; once the state has left COLLECTING the rest are passed over (R156). -/
def takeMarks : List Mark → State → State
  | [], s => s
  | m :: rest, s =>
    match s.cal with
    | .collecting r =>
      if m.channel = r.channel ∧ m.kind = .stamp then takeMarks rest (takeMark r m s) else takeMarks rest s
    | _ => s

/-- A decided ticket's contribution (R156): none from a cold or a LONG ticket. -/
def contribute (t : Ticket) (s : State) : State :=
  if t.cold.a || t.cold.b || isLong t then s else takeMarks t.marks s

/-! ### The trace (R162 to R164) -/

/-- Whether a decision meets a condition; the outcome is that of the decision (R163). -/
def condMet (n : U16) (o : LetterOutcome) : TraceCond → Bool
  | .next => true
  | .ticket m => decide (m = n)
  | .outcome p => decide (p = o)

/-- A channel's TRACE notice: the ring entries that carry the ticket's number, in ring order (R163, R164). -/
def traceReport (cond : TraceCond) (t : Ticket) (cls : LetterClass) (o : LetterOutcome) (s : State)
    (c : Channel) : TraceReport :=
  ⟨c, t.number, cond, t.lead, t.length, cls, o,
    ((s.channels.get c).ring.filter fun e => decide (e.ticket = some t.number)).map RingEntry.window⟩

/-- A decided ticket tested against the arm (R163): a met condition is spent, and four notices are handed to
the link in channel order. -/
def testTrace (t : Ticket) (cls : LetterClass) (o : LetterOutcome) (s : State) : State :=
  match s.trace with
  | none => s
  | some cond =>
    if condMet t.number o cond then
      allChannels.foldl (fun a c => handNotice (.trace (traceReport cond t cls o s c)) a)
        { s with trace := none }
    else s

/-! ### Requests -/

/-- CAL_START (R155): a running calibration is discarded without a notice, and a new one starts. -/
def calStartStep (f : InFrame) (s : State) : State :=
  answer f (readCalStart f.payload)
    (fun v s =>
      reply f (.ok (u8 (channelNumber v.1) ++ u16 v.2.1 ++ u8 v.2.2 ++ u8 (s.channels.get v.1).trim.toNat))
        { s with cal := .collecting ⟨v.1, v.2.1, v.2.2, 0, 0, 0⟩ }) s

/-- Meaning of CAL_START. -/
def execCalStart (s : State) : Host.Outcome State Fault Refusal :=
  .next (takeRequest .calStart s calStartStep)

/-- CAL_APPLY (R160): in READY the calibration ends and the proposed code is installed; the install finds
no calibration to abort. -/
def calApplyStep (f : InFrame) (s : State) : State :=
  answer f (noFields f.payload)
    (fun _ s =>
      match s.cal with
      | .ready r p =>
        reply f (.ok (u8 (channelNumber r.channel) ++ u8 p.code.toNat ++
            u8 (s.channels.get r.channel).trim.toNat))
          (installTrim r.channel p.code { s with cal := .off })
      | _ => refuse f barredElsewhere s) s

/-- Meaning of CAL_APPLY. -/
def execCalApply (s : State) : Host.Outcome State Fault Refusal :=
  .next (takeRequest .calApply s calApplyStep)

/-- CAL_ABORT (R160): a running calibration ends without a notice; the reply carries the state left. -/
def calAbortStep (f : InFrame) (s : State) : State :=
  answer f (noFields f.payload) (fun _ s => reply f (.ok (encCal s.cal)) { s with cal := .off }) s

/-- Meaning of CAL_ABORT. -/
def execCalAbort (s : State) : Host.Outcome State Fault Refusal :=
  .next (takeRequest .calAbort s calAbortStep)

/-- TRACE_ARM (R162): the arm is replaced. -/
def traceArmStep (f : InFrame) (s : State) : State :=
  answer f (readTraceArm f.payload) (fun c s => reply f (.ok (encCond c)) { s with trace := some c }) s

/-- Meaning of TRACE_ARM. -/
def execTraceArm (s : State) : Host.Outcome State Fault Refusal :=
  .next (takeRequest .traceArm s traceArmStep)

/-- TRACE_DISARM (R162): the reply carries the condition cleared, or its absence. -/
def traceDisarmStep (f : InFrame) (s : State) : State :=
  answer f (noFields f.payload)
    (fun _ s => reply f (.ok (optional 3 encCond s.trace)) { s with trace := none }) s

/-- Meaning of TRACE_DISARM. -/
def execTraceDisarm (s : State) : Host.Outcome State Fault Refusal :=
  .next (takeRequest .traceDisarm s traceDisarmStep)

end Sys2Proof.Machine
end

