-- ==== Sys2Proof/Machine/Cancel.lean ====
section
/-! DEFINITION. The cancel unit (05_cancelling.md): the strike plan, the strikes at the head line, the
head states, and the cancel record and plate requests. -/

namespace Sys2Proof.Machine

/-! ### The plan (R89 to R93) -/

/-- The lines, the postmark and the flags of a plan (R90, R91): `band` is absent where the cut leaves the
lines empty. -/
structure StrikePlan where
  band : Option Band
  pmShort : Bool
  noPostmark : Bool
  deriving DecidableEq, Repr

/-- The plan's arithmetic (R90, R91), in steps from the leading edge, for a mark [ms, me) on a letter of
length len. `room` is how many steps the bound leaves the postmark on its outer side. -/
def planStrike (r : CancelRecord) (active : Option Slot) (ms me len : Nat) : StrikePlan :=
  let e : Int := r.clearance
  let hi : Int := len - r.clearance
  let lineStart : Int := ms - r.leadMargin
  let lineEnd : Int := me + r.trailMargin
  let pm : Nat := if active.isNone then 0 else r.postmark
  let after : Bool := decide (ms + me < len)
  let room : Int := if after then hi - lineEnd else lineStart - e
  let pmLen : Nat := min pm room.toNat
  let cutStart : Int := max lineStart e
  let cutEnd : Int := min lineEnd hi
  let start : Int := if !after && decide (0 < pmLen) then lineStart - pmLen else cutStart
  let stop : Int := if after && decide (0 < pmLen) then lineEnd + pmLen else cutEnd
  { band :=
      if cutEnd ≤ cutStart then none
      else some
        { start := start.toNat, stop := stop.toNat, placement := if after then .after else .before
          pmLength := pmLen, slot := if 0 < pmLen then active else none }
    pmShort := decide (pmLen < pm)
    noPostmark := active.isNone }

/-- A stamped outcome changed to HAND_CANCEL; no other outcome is changed (R64, R93). -/
def handCancelled : LetterOutcome → LetterOutcome
  | .facedA => .handCancel
  | .facedB => .handCancel
  | .turnedToA => .handCancel
  | .turnedToB => .handCancel
  | o => o

/-- A ticket's strike result becomes MISSED, if the ticket is still in the table (R93). -/
def missStrike (n : U16) (h : Head) (s : State) : State :=
  if (ticketOf s n).isSome then
    post (.missed h) (setTicket n
      (fun t => { t with strike := some .missed, outcome := t.outcome.map handCancelled }) s)
  else s

/-- A head unit replaced. -/
def setHead (h : Head) (f : HeadUnit → HeadUnit) (s : State) : State :=
  { s with cancel := { s.cancel with heads := s.cancel.heads.set h (f (s.cancel.heads.get h)) } }

/-- An entry joins a strike queue behind every entry of earlier start (R92). -/
def insertStrike (e : StrikeEntry) : List StrikeEntry → List StrikeEntry
  | [] => [e]
  | x :: rest => if after x.start e.start then e :: x :: rest else x :: insertStrike e rest

/-- The strike queue entry of a band (R92). That it keeps the placement and length of the postmark its driver will
be handed (R96), which R92 does not list, is the model's choice (log 37). -/
def strikeEntryFor (g : Geometry) (t : Ticket) (b : Band) (ms : Nat) : StrikeEntry :=
  ⟨t.number, stepsOn t.lead (g.headLine + b.start), stepsOn t.lead (g.headLine + b.stop),
    stepsOn t.lead (g.headLine + ms), b.slot, b.placement, b.pmLength⟩

/-- The strike plan of a ticket with a head (R89 to R92): the flags, the band, and PENDING with an entry
queued, or MISSED where the lines are empty or the queue is full. -/
def planFor (t : Ticket) (h : Head) (ms len : Nat) (letter : Nat) (s : State) : State :=
  let p := planStrike s.cancel.record s.cancel.active ms (ms + len) letter
  let s1 := setTicket t.number
    (fun u => { u with band := p.band, pmShort := p.pmShort, noPostmark := p.noPostmark }) s
  match p.band with
  | none => missStrike t.number h s1
  | some b =>
    if Config.strikeQueueSize ≤ (s.cancel.heads.get h).queue.length then missStrike t.number h s1
    else
      setHead h (fun u => { u with queue := insertStrike (strikeEntryFor s.tracker.geometry t b ms) u.queue })
        (setTicket t.number (fun u => { u with strike := some .pending }) s1)

/-! ### Strikes (R96 to R99) -/

/-- What the head driver is handed at a strike start (R96), also for a ticket no longer in the table: the
postmark's placement and length and, where the strike has a plate slot, that slot's plate. -/
def printOf (k : Cancel) (e : StrikeEntry) : Print :=
  ⟨e.placement, e.pmLength, e.slot.bind fun p => (k.slots.get p).plate⟩

/-- The impression of a slot (R85, R96): its count and its tally rise by one. -/
def impress (slot : Option Slot) (s : State) : State :=
  match slot with
  | none => s
  | some p =>
    let q := s.cancel.slots.get p
    post (.impressions p)
      { s with cancel := { s.cancel with
          slots := s.cancel.slots.set p { q with impressions := q.impressions + 1 } } }

/-- The oldest entry of a head leaves its queue. -/
def dropEntry (h : Head) (s : State) : State :=
  setHead h (fun u => { u with queue := u.queue.tail, waiting := false }) s

/-- A strike begins with an entry of a head's queue (R96), LATE where the entry waited (R98). -/
def beginStrike (h : Head) (e : StrikeEntry) (late : Bool) (s : State) : State :=
  let s1 := setHead h (fun u => { u with
    state := .striking (.letter e.ticket e.stop e.slot)
    handed := some (printOf s.cancel e) }) (dropEntry h s)
  let s2 := setTicket e.ticket (fun t => { t with strike := some (if late then .late else .struck) }) s1
  impress e.slot (postIf late (.late h) (post (.strikes h) s2))

/-- STRIKE_START (R96, R97): the start of the oldest entry is reached, and the entry does not wait yet. -/
def strikeStartStep (h : Head) (s : State) : State :=
  let u := s.cancel.heads.get h
  match u.queue with
  | [] => s
  | e :: _ =>
    if u.waiting || !reached s.tracker.belt e.start then s
    else
      match u.state with
      | .ready => beginStrike h e false s
      | .disabled => missStrike e.ticket h (dropEntry h s)
      | _ =>
        if after e.deadline e.start then setHead h (fun u => { u with waiting := true }) s
        else missStrike e.ticket h (dropEntry h s)

/-- Meaning of STRIKE_START. -/
def execStrikeStart (h : Head) (s : State) : Host.Outcome State Fault Refusal := .next (strikeStartStep h s)

/-- STRIKE_DEADLINE (R98): the waiting entry's deadline is reached with the head not READY. -/
def strikeDeadlineStep (h : Head) (s : State) : State :=
  let u := s.cancel.heads.get h
  match u.queue with
  | [] => s
  | e :: _ =>
    if u.waiting && reached s.tracker.belt e.deadline && decide (u.state ≠ .ready) then
      missStrike e.ticket h (dropEntry h s)
    else s

/-- Meaning of STRIKE_DEADLINE. -/
def execStrikeDeadline (h : Head) (s : State) : Host.Outcome State Fault Refusal :=
  .next (strikeDeadlineStep h s)

/-- A head enters RECHARGING with the recharge time in force (R94). -/
def recharge (h : Head) (s : State) : State :=
  setHead h (fun u => { u with state := .recharging s.cancel.record.recharge }) s

/-- STRIKE_END (R99): the end position of a ticket's strike is reached. -/
def strikeEndStep (h : Head) (s : State) : State :=
  match (s.cancel.heads.get h).state with
  | .striking (.letter _ stop _) => if reached s.tracker.belt stop then recharge h s else s
  | _ => s

/-- Meaning of STRIKE_END. -/
def execStrikeEnd (h : Head) (s : State) : Host.Outcome State Fault Refusal := .next (strikeEndStep h s)

/-- A head becomes READY, and its waiting entry, if any, begins LATE (R94, R98). -/
def becomeReady (h : Head) (s : State) : State :=
  let s1 := setHead h (fun u => { u with state := .ready }) s
  let u := s1.cancel.heads.get h
  match u.queue with
  | e :: _ => if u.waiting then beginStrike h e true s1 else s1
  | [] => s1

/-- Meaning of RECHARGE_EXPIRY (R94): the time passes to the recharge timer's expiry (log 5). -/
def execRechargeExpiry (h : Head) (s : State) : Host.Outcome State Fault Refusal :=
  .next
    (match (s.cancel.heads.get h).state with
     | .recharging left => becomeReady h (advance left s)
     | _ => s)

/-- Meaning of TEST_STRIKE_END (R80, R99): after its 20 ms the test strike ends, and with it the exercise. -/
def execTestStrikeEnd (s : State) : Host.Outcome State Fault Refusal :=
  .next
    (match s.gate.exercise with
     | some (.head h) =>
       match (s.cancel.heads.get h).state with
       | .striking (.test left) =>
         let s1 := recharge h (advance left s)
         { s1 with gate := { s1.gate with exercise := none } }
       | _ => s
     | _ => s)

/-! ### DISABLED (R95) -/

/-- The ticket of a strike in progress. -/
def strikeTicket : HeadState → Option U16
  | .striking (.letter n _ _) => some n
  | _ => none

/-- The exercise after a head is disabled: a test strike cut ends it (R80). -/
def exerciseCut (h : Head) (u : HeadState) (e : Option Exercise) : Option Exercise :=
  match u with
  | .striking (.test _) => if e = some (.head h) then none else e
  | _ => e

/-- A head goes DISABLED from whatever state it is in (R95): its strike is cut, its recharge abandoned and
its waiting entry dropped as MISSED (R98). -/
def disableHead (h : Head) (s : State) : State :=
  let u := s.cancel.heads.get h
  let s1 : State := { s with gate := { s.gate with exercise := exerciseCut h u.state s.gate.exercise } }
  let s2 := setHead h (fun u => { u with state := .disabled }) s1
  match u.queue with
  | e :: _ => if u.waiting then missStrike e.ticket h (dropEntry h s2) else s2
  | [] => s2

/-- A head brought in line with its fault input and its enable (R95): DISABLED while either bars it; out
of DISABLED into RECHARGING when both have ended. -/
def judgeHead (h : Head) (s : State) : State :=
  if headBarred s h then
    if (s.cancel.heads.get h).state = .disabled then s else disableHead h s
  else if (s.cancel.heads.get h).state = .disabled then recharge h s
  else s

/-- A head fault input changes (R95): going active disables the head and raises ACTUATOR with the ticket of
the strike cut; going inactive lets an enabled head recharge. -/
def headFaultChange (h : Head) (level : Bool) (s : State) : State :=
  let s1 := judgeHead h { s with pins := { s.pins with headFault := s.pins.headFault.set h level } }
  if level then
    raiseCause .actuator (.actuator (.head h)) (strikeTicket (s.cancel.heads.get h).state) .request s1
  else s1

/-- Meaning of HEAD_FAULT_INPUT: an event is a change of the level (log 2). -/
def execHeadFaultInput (h : Head) (level : Bool) (s : State) : Host.Outcome State Fault Refusal :=
  .next (if s.pins.headFault.get h = level then s else headFaultChange h level s)

/-! ### The cancel record and the plates (R83 to R88) -/

/-- SET_CANCEL (R84): with fields it installs the record and acts on each head's enable at once; either way
the reply carries the record in force. -/
def setCancelStep (f : InFrame) (s : State) : State :=
  answer f (readCancel f.payload)
    (fun r s =>
      let s1 :=
        match r with
        | none => s
        | some rec => judgeHead .b (judgeHead .a { s with cancel := { s.cancel with record := rec } })
      reply f (.ok (encCancel s1.cancel.record)) s1) s

/-- Meaning of SET_CANCEL. -/
def execSetCancel (s : State) : Host.Outcome State Fault Refusal :=
  .next (takeRequest .setCancel s setCancelStep)

/-- LOAD_PLATE (R86): refused IN_USE for a slot in use; otherwise the plate is written and the slot's
impression count set to 0. -/
def loadPlateStep (f : InFrame) (s : State) : State :=
  answer f (readPlate f.payload)
    (fun v s =>
      match slotOf v.1 with
      | none => refuse f (.badValue 1) s
      | some p =>
        if slotInUse s.cancel p then refuse f .inUse s
        else reply f (.ok []) { s with cancel := { s.cancel with
          slots := s.cancel.slots.set p ⟨some v.2, 0⟩ } }) s

/-- Meaning of LOAD_PLATE. -/
def execLoadPlate (s : State) : Host.Outcome State Fault Refusal :=
  .next (takeRequest .loadPlate s loadPlateStep)

/-- SELECT_PLATE (R87): an empty slot fails field 1; 0 selects none. -/
def selectPlateStep (f : InFrame) (s : State) : State :=
  answer f (readByte 0 4 f.payload)
    (fun v s =>
      match slotOf v with
      | none => reply f (.ok []) { s with cancel := { s.cancel with active := none } }
      | some p =>
        if (s.cancel.slots.get p).plate.isNone then refuse f (.badValue 1) s
        else reply f (.ok []) { s with cancel := { s.cancel with active := some p } }) s

/-- Meaning of SELECT_PLATE. -/
def execSelectPlate (s : State) : Host.Outcome State Fault Refusal :=
  .next (takeRequest .selectPlate s selectPlateStep)

/-- PLATE_READ (R88). -/
def plateReadStep (f : InFrame) (s : State) : State :=
  answer f (noFields f.payload) (fun _ s => reply f (.ok (encPlates s.cancel)) s) s

/-- Meaning of PLATE_READ. -/
def execPlateRead (s : State) : Host.Outcome State Fault Refusal :=
  .next (takeRequest .plateRead s plateReadStep)

end Sys2Proof.Machine
end

