-- ==== Sys2Proof/Machine/Gate.lean ====
section
/-! DEFINITION. The gate controller (04_turnover_gate_and_actuator_queues.md): the path request, the
switch at its due position, the confirm, and the EXERCISE request. -/

namespace Sys2Proof.Machine

/-! ### The path request (R69 to R71) -/

/-- The path a required path asks for; ANY asks for none. -/
def pathWanted : ReqPath → Option Path
  | .straight => some .straight
  | .turn => some .turn
  | .any => none

/-- The gap condition of a switch (R70): the gap is absent, or at least gate_clear + gate_lead. -/
def gateGapOk (g : Geometry) (gap : Option Nat) : Bool :=
  match gap with
  | none => true
  | some n => decide (g.gateClear + g.gateLead ≤ n)

/-- Whether a switch for a ticket is feasible (R70): the gap, and room in the gate queue. -/
def switchFeasible (s : State) (t : Ticket) : Bool :=
  gateGapOk s.tracker.geometry t.gap && decide (s.gate.queue.length < Config.gateQueueSize)

/-- The gate entry a feasible switch adds (R70). -/
def gateEntryFor (g : Geometry) (t : Ticket) (target : Path) : GateEntry :=
  ⟨stepsBack (stepsOn t.lead g.gate) g.gateLead, target, t.number⟩

/-- The path taken and whether it is forced, for a ticket of a required path (R69, R71). -/
def pathAnswer (s : State) (t : Ticket) (required : ReqPath) : Path × Bool :=
  match pathWanted required with
  | none => (plannedGate s.gate, false)
  | some p =>
    if p = plannedGate s.gate ∨ switchFeasible s t then (p, false) else (plannedGate s.gate, true)

/-- Whether the path request queues a switch (R70). -/
def switchQueued (s : State) (t : Ticket) (required : ReqPath) : Option Path :=
  match pathWanted required with
  | none => none
  | some p => if p ≠ plannedGate s.gate ∧ switchFeasible s t then some p else none

/-- The path request's effect (R69 to R71): path taken and PATH_FORCED are written, a feasible switch
joins the queue at the young end, and a forced ticket is counted. -/
def pathRequest (t : Ticket) (required : ReqPath) (s : State) : State :=
  let a := pathAnswer s t required
  let q :=
    match switchQueued s t required with
    | some p => s.gate.queue ++ [gateEntryFor s.tracker.geometry t p]
    | none => s.gate.queue
  postIf a.2 .pathForced
    (setTicket t.number (fun u => { u with taken := some a.1, pathForced := a.2 })
      { s with gate := { s.gate with queue := q } })

/-! ### Switching and confirming (R72 to R75) -/

/-- A switch not confirmed in time (R73, R75): GATE_UNCONFIRMED on its ticket if still in the table, and
the ACTUATOR request with its target and ticket number. -/
def unconfirmed (c : Confirm) (s : State) : State :=
  raiseCause .actuator (.actuator (.gate c.target)) (some c.ticket) .request
    (setTicket c.ticket (fun t => { t with gateUnconfirmed := true }) s)

/-- The confirm in progress ends (R73): as done where the input reads its target, else unconfirmed. -/
def endConfirm (s : State) : State :=
  match s.gate.confirm with
  | none => s
  | some c =>
    let s1 : State := { s with gate := { s.gate with confirm := none } }
    if gateReads s.pins c.target then s1 else unconfirmed c s1

/-- The reply of a gate exercise, with the CODE of EXERCISE and the TAG of its request (R78, R171). -/
def exerciseReply (tag : Byte) (b : ReplyBody) (s : State) : State := enqueue (.reply 0x38 tag b) s

/-- The gate exercise in progress ends with its reply (R78): OK with the target and the ms since its start
where the input reads the target, else REFUSED ACTUATOR_TIMEOUT. No cause is raised. -/
def endGateExercise (s : State) : State :=
  match s.gate.exercise with
  | some (.gate target _ started tag) =>
    let s1 : State := { s with gate := { s.gate with exercise := none } }
    if gateReads s.pins target then
      exerciseReply tag (.ok (u8 (pathNumber target) ++ u8 (s.uptime - started).toNat)) s1
    else exerciseReply tag (.refused .actuatorTimeout) s1
  | _ => s

/-- The switch of an entry (R72): the output is set and a confirm is started, which ends at once where the
input already reads the target (R73). -/
def switchGate (e : GateEntry) (s : State) : State :=
  { s with gate := { s.gate with
      output := e.target
      confirm := if gateReads s.pins e.target then none
        else some ⟨e.target, e.ticket, s.tracker.geometry.gateConfirm⟩ } }

/-- GATE_DUE (R72, R74): the oldest entry, its due reached, leaves the queue. A confirm or gate exercise
still in progress is ended first; then the entry is switched, also where that end stopped the belt
(log 16). -/
def gateDueStep (s : State) : State :=
  match s.gate.queue with
  | e :: rest =>
    if reached s.tracker.belt e.due then
      switchGate e (endGateExercise (endConfirm { s with gate := { s.gate with queue := rest } }))
    else s
  | [] => s

/-- Meaning of GATE_DUE. -/
def execGateDue (s : State) : Host.Outcome State Fault Refusal := .next (gateDueStep s)

/-- A change of the gate confirm input (R73, R78): a confirm or gate exercise whose target it now reads is
done. A confirm that does not read its target goes on. -/
def gateConfirmChange (level : Bool) (s : State) : State :=
  let s1 : State := { s with pins := { s.pins with gateConfirm := level } }
  let s2 : State :=
    match s1.gate.confirm with
    | some c => if gateReads s1.pins c.target then endConfirm s1 else s1
    | none => s1
  match s2.gate.exercise with
  | some (.gate target _ _ _) => if gateReads s2.pins target then endGateExercise s2 else s2
  | _ => s2

/-- Meaning of GATE_CONFIRM_INPUT: an event is a change of the level (log 2). -/
def execGateConfirmInput (level : Bool) (s : State) : Host.Outcome State Fault Refusal :=
  .next (if s.pins.gateConfirm = level then s else gateConfirmChange level s)

/-- Meaning of GATE_CONFIRM_TIMEOUT (R73): the time passes to the confirm timer's expiry (log 5). -/
def execGateConfirmTimeout (s : State) : Host.Outcome State Fault Refusal :=
  .next
    (match s.gate.confirm with
     | some c => endConfirm (advance c.left s)
     | none => s)

/-- Meaning of GATE_EXERCISE_TIMEOUT (R78): the time passes to the exercise confirm's expiry (log 5). -/
def execGateExerciseTimeout (s : State) : Host.Outcome State Fault Refusal :=
  .next
    (match s.gate.exercise with
     | some (.gate _ left _ _) => endGateExercise (advance left s)
     | _ => s)

/-! ### EXERCISE (R77 to R81) -/

/-- The argument of an EXERCISE request, judged in the order of R77: length, run state, actuator, argument,
exercise in progress. -/
def exerciseArg (lo hi : Nat) (f : InFrame) (s : State) : Except Reason Nat :=
  match f.payload with
  | [a, x] =>
    if s.run.state ≠ .idle then .error (barredByRunState s)
    else if 2 < a.toNat then .error (.badValue 1)
    else if x.toNat < lo ∨ hi < x.toNat then .error (.badValue 2)
    else if s.gate.exercise.isSome then .error .inUse
    else .ok x.toNat
  | _ => .error .badLength

/-- A path numbered as R77 lists its targets. -/
def pathOf (n : Nat) : Path := if n = 0 then .straight else .turn

/-- A head numbered as R77 lists them. -/
def headOf (n : Nat) : Head := if n = 0 then .a else .b

/-- The start of a gate exercise (R78): the output is set; an input that already reads the target is
answered OK with 0 ms at once. -/
def startGateExercise (target : Path) (f : InFrame) (s : State) : State :=
  endIfRead target { s with gate := { s.gate with
      output := target
      exercise := some (.gate target s.tracker.geometry.gateConfirm s.uptime f.tag) } }
where
  endIfRead (target : Path) (s : State) : State :=
    if gateReads s.pins target then endGateExercise s else s

/-- EXERCISE of the gate (R77, R78); refused IN_USE while a switch's confirm is in progress. -/
def exerciseGateStep (f : InFrame) (s : State) : State :=
  answer f (exerciseArg 0 1 f s)
    (fun x => if s.gate.confirm.isSome then refuse f .inUse else startGateExercise (pathOf x) f) s

/-- Meaning of EXERCISE_GATE. -/
def execExerciseGate (s : State) : Host.Outcome State Fault Refusal :=
  .next (takeRequest .exerciseGate s exerciseGateStep)

/-- EXERCISE of a flap (R79): refused IN_USE for a flap whose state is OPEN; the reply is queued when the
flap is opened. -/
def exerciseFlapStep (f : InFrame) (s : State) : State :=
  answer f (exerciseArg 1 5 f s)
    (fun x s =>
      if s.stacker.flaps.get (flapOf x) then refuse f .inUse s
      else reply f (.ok []) { s with gate := { s.gate with
        exercise := some (.flap (flapOf x) Config.flapExerciseMs) } }) s

/-- Meaning of EXERCISE_FLAP. -/
def execExerciseFlap (s : State) : Host.Outcome State Fault Refusal :=
  .next (takeRequest .exerciseFlap s exerciseFlapStep)

/-- EXERCISE of a head (R80): a READY head fires a test strike; another is refused by its state. -/
def exerciseHeadStep (f : InFrame) (s : State) : State :=
  answer f (exerciseArg 0 1 f s)
    (fun x s =>
      let h := headOf x
      let u := s.cancel.heads.get h
      match u.state with
      | .ready =>
        reply f (.ok []) { s with
          gate := { s.gate with exercise := some (.head h) }
          cancel := { s.cancel with
            heads := s.cancel.heads.set h { u with state := .striking (.test Config.testStrikeMs) } } }
      | .disabled => refuse f barredElsewhere s
      | _ => refuse f .inUse s) s

/-- Meaning of EXERCISE_HEAD. -/
def execExerciseHead (s : State) : Host.Outcome State Fault Refusal :=
  .next (takeRequest .exerciseHead s exerciseHeadStep)

/-- Meaning of FLAP_EXERCISE_END (R79): after its 100 ms the flap exercise ends, and the flap's output
returns to its flap state. -/
def execFlapExerciseEnd (s : State) : Host.Outcome State Fault Refusal :=
  .next
    (match s.gate.exercise with
     | some (.flap _ left) =>
       let s1 := advance left s
       { s1 with gate := { s1.gate with exercise := none } }
     | _ => s)

end Sys2Proof.Machine
end

