-- ==== Sys2Proof/Machine/RunControl.lean ====
section
/-! DEFINITION. Run control (08_run_control_and_stop_causes.md): the stop inputs, the start, the link-loss
timer, the beacon, and the requests that run, drain, halt and clear. -/

namespace Sys2Proof.Machine

/-! ### Inputs and timers -/

/-- A level cause's request where its input went active (R142). -/
def raiseIf (level : Bool) (c : Cause) (s : State) : State :=
  if level then raiseCause c .none none .request s else s

/-- Meaning of DOOR_INPUT (R142): an event is a change of the level (log 2). -/
def execDoorInput (level : Bool) (s : State) : Host.Outcome State Fault Refusal :=
  .next
    (if s.pins.door = level then s
    else raiseIf level .door { s with pins := { s.pins with door := level } })

/-- Meaning of EXT_STOP_INPUT (R142): an event is a change of the level (log 2). -/
def execExtStopInput (level : Bool) (s : State) : Host.Outcome State Fault Refusal :=
  .next
    (if s.pins.extStop = level then s
    else raiseIf level .extStop { s with pins := { s.pins with extStop := level } })

/-- The link-loss timer restarted (R145). -/
def restartLinkTimer (s : State) : State := { s with run := { s.run with sinceLink := 0, linkRaised := false } }

/-- Whether STARTING's end is due (R139): the belt has reached the start position. -/
def startDue (s : State) : Bool :=
  decide (s.run.state = .starting) &&
    (match s.run.startPos with
     | some p => reached s.tracker.belt p
     | none => false)

/-- Meaning of START_DONE (R139): the link-loss timer restarts, the state becomes RUNNING, the start timer
stops, and the cause table is evaluated. -/
def execStartDone (s : State) : Host.Outcome State Fault Refusal :=
  .next (if startDue s then evaluate (enterRunState .running .startDone (restartLinkTimer s)) else s)

/-- Meaning of START_TIMER_EXPIRY (R139): the time passes to the start timer's expiry (log 5), and
BELT_STALL of phase START is raised. The timer is not started again. -/
def execStartTimerExpiry (s : State) : Host.Outcome State Fault Refusal :=
  .next
    (match s.run.startTimer with
     | some left =>
       let s1 := advance left s
       raiseCause .beltStall (.stall .start) none .request { s1 with run := { s1.run with startTimer := none } }
     | none => s)

/-- Meaning of LINK_LOSS (R145): in RUNNING, DRAINING or HELD the time passes to the link timeout (log 5), and
LINK_LOSS is raised, once until the timer is restarted. -/
def execLinkLoss (s : State) : Host.Outcome State Fault Refusal :=
  .next
    (if tracks s.run.state && !s.run.linkRaised then
      let s1 := advance (s.run.linkTimeout - s.run.sinceLink) s
      raiseCause .linkLoss (.linkLoss s1.run.linkTimeout s1.run.lastValid) none .request
        { s1 with run := { s1.run with linkRaised := true } }
    else s)

/-- Meaning of BEACON_FLASH (R151): the time passes to the end of the flashing phase (log 5), and the other
phase begins. -/
def execBeaconFlash (s : State) : Host.Outcome State Fault Refusal :=
  .next
    (match s.run.beacon with
     | .flashOn left =>
       let s1 := advance left s
       { s1 with run := { s1.run with beacon := .flashOff Config.beaconOffMs } }
     | .flashOff left =>
       let s1 := advance left s
       { s1 with run := { s1.run with beacon := .flashOn Config.beaconOnMs } }
     | _ => s)

/-! ### RUN, FINISH, HALT (R136 to R138) -/

/-- The start of the belt (R136, R139): start position and start timer set, state STARTING. -/
def startBelt (s : State) : State :=
  enterRunState .starting .run
    { s with run := { s.run with
        startTimer := some s.tracker.geometry.startTime
        startPos := some (stepsOn s.tracker.belt s.tracker.geometry.startDistance) } }

/-- The effect of a RUN in a run state that may take it; none bars it (R136). -/
def runEffect (r : RunState) : Option (State → State) :=
  match r with
  | .idle => some startBelt
  | .held => some (enterRunState .running .run)
  | .draining .finish => some (enterRunState .running .run)
  | _ => none

/-- RUN (R136). -/
def runStep (f : InFrame) (s : State) : State :=
  answer f (noFields f.payload)
    (fun _ s =>
      match runEffect s.run.state with
      | none => refuse f (barredByRunState s) s
      | some act =>
        match leadingCause s with
        | some c => refuse f (.stillActive c) s
        | none => reply f (.ok []) (act s)) s

/-- Meaning of RUN. -/
def execRun (s : State) : Host.Outcome State Fault Refusal := .next (takeRequest .run s runStep)

/-- The effect of a FINISH in RUNNING or HELD (R137). -/
def finishDrain (s : State) : State :=
  if occupancy s = 0 then enterRunState .idle .drainDone s else enterRunState (.draining .finish) .finish s

/-- FINISH (R137). -/
def finishStep (f : InFrame) (s : State) : State :=
  answer f (noFields f.payload)
    (fun _ s =>
      match s.run.state with
      | .running => reply f (.ok []) (finishDrain s)
      | .held => reply f (.ok []) (finishDrain s)
      | _ => refuse f (barredByRunState s) s) s

/-- Meaning of FINISH. -/
def execFinish (s : State) : Host.Outcome State Fault Refusal := .next (takeRequest .finish s finishStep)

/-- HALT (R138): the purge, the state IDLE, the reply, in this order; refused in IDLE. -/
def haltStep (f : InFrame) (s : State) : State :=
  answer f (noFields f.payload)
    (fun _ s =>
      if s.run.state = .idle then refuse f (barredByRunState s) s
      else reply f (.ok []) (enterRunState .idle .halt (purge .halt s))) s

/-- Meaning of HALT. -/
def execHalt (s : State) : Host.Outcome State Fault Refusal := .next (takeRequest .halt s haltStep)

/-! ### CAUSE_CLEAR (R147) -/

/-- The clearing of one cause (R147): its latch and, with a STOP notice and an evaluation, its service. -/
def clearCause (c : Cause) (s : State) : State :=
  let s1 := setCause c (fun e => { e with latch := false }) s
  if (s.run.causes.get c).inService then evaluate (leaveService c .clear s1) else s1

/-- CAUSE_CLEAR of a named cause: STILL_ACTIVE, WRONG_STATE or cleared (R147). -/
def clearNamed (f : InFrame) (c : Cause) (s : State) : State :=
  if heldActive s.pins c then refuse f (.stillActive c) s
  else if !(s.run.causes.get c).inService && !requestPresent s c then refuse f barredElsewhere s
  else
    let s1 := clearCause c s
    reply f (.ok (u8 (causeNumber c) ++ encLeading (leadingCause s1) ++ u8 (runStateNumber s1.run.state))) s1

/-- CAUSE_CLEAR (R147): 0 names the leading cause at this moment. -/
def causeClearStep (f : InFrame) (s : State) : State :=
  answer f (readByte 0 8 f.payload)
    (fun v s =>
      if v = 0 then
        match leadingCause s with
        | none => refuse f barredElsewhere s
        | some c => clearNamed f c s
      else clearNamed f (causeOf v) s) s

/-- Meaning of CAUSE_CLEAR. -/
def execCauseClear (s : State) : Host.Outcome State Fault Refusal :=
  .next (takeRequest .causeClear s causeClearStep)

/-! ### SET_CAUSES (R146) -/

/-- The settings installed at once (R146). -/
def installCauses (v : CauseSettings) (r : RunControl) : RunControl :=
  let c := r.causes
  let m := v.masked
  { r with
    linkTimeout := v.linkTimeout
    causes :=
      { door := { c.door with masked := m.door }
        extStop := { c.extStop with masked := m.extStop }
        jam := { c.jam with masked := m.jam }
        beltStall := { c.beltStall with masked := m.beltStall }
        tableFull := { c.tableFull with masked := m.tableFull }
        actuator := { c.actuator with masked := m.actuator, reaction := v.actuator }
        stackFull := { c.stackFull with masked := m.stackFull, reaction := v.stackFull }
        linkLoss := { c.linkLoss with masked := m.linkLoss, reaction := v.linkLoss } } }

/-- The change of one cause's service that its new mask brings, with its STOP notice (R146). The beacon is not
judged yet: the groups change in the one evaluation that follows. -/
def applyMask (was : PerCause CauseEntry) (s : State) (c : Cause) : State :=
  let e := s.run.causes.get c
  if (was.get c).masked && !e.masked && requestPresent s c && !e.inService then
    setService c true .unmask s
  else if !(was.get c).masked && e.masked && e.inService then setService c false .mask s
  else s

/-- SET_CAUSES with its twelve fields (R146): install, link-loss timer, masks in priority order, and then, with
every change of mask and reaction in place, the beacon and the evaluation. -/
def applyCauses (v : CauseSettings) (s : State) : State :=
  evaluate (judgeBeacon (allCauses.foldl (applyMask s.run.causes)
    (restartLinkTimer { s with run := installCauses v s.run })))

/-- SET_CAUSES (R146): installs the settings or reads them; the reply carries those in force. -/
def setCausesStep (f : InFrame) (s : State) : State :=
  answer f (readCauses f.payload)
    (fun v s =>
      let s1 :=
        match v with
        | none => s
        | some settings => applyCauses settings s
      reply f (.ok (encCauses s1.run)) s1) s

/-- Meaning of SET_CAUSES. -/
def execSetCauses (s : State) : Host.Outcome State Fault Refusal :=
  .next (takeRequest .setCauses s setCausesStep)

/-! ### STATUS and FAULT_READ (R150, R152) -/

/-- STATUS (R152). -/
def statusStep (f : InFrame) (s : State) : State :=
  answer f (noFields f.payload) (fun _ s => reply f (.ok (encStatus s)) s) s

/-- Meaning of STATUS. -/
def execStatus (s : State) : Host.Outcome State Fault Refusal :=
  .next (takeRequest .status s statusStep)

/-- FAULT_READ (R150): the reply carries the record; with clear 1 it is then emptied. -/
def faultReadStep (f : InFrame) (s : State) : State :=
  answer f (readByte 0 1 f.payload)
    (fun v s =>
      reply f (.ok (encFaults s.run.faults))
        (if v = 1 then { s with run := { s.run with faults := ⟨none, none, 0⟩ } } else s)) s

/-- Meaning of FAULT_READ. -/
def execFaultRead (s : State) : Host.Outcome State Fault Refusal :=
  .next (takeRequest .faultRead s faultReadStep)

end Sys2Proof.Machine
end

