-- ==== Sys2Proof/Machine/Supervisory.lean ====
section
/-! DEFINITION. The supervisory link (10_supervisory_link.md): the receiver, the transmitter, the link's own
requests, and the two resets. -/

namespace Sys2Proof.Machine

/-! ### The receiver (R168 to R170) -/

/-- A valid frame (R170): the link-loss timer restarts, and the frame is buffered or counted dropped. -/
def validFrame (f : InFrame) (s : State) : State :=
  let s1 := restartLinkTimer { s with run := { s.run with lastValid := s.uptime } }
  if s1.link.inbound.length < Config.inboundSize then
    { s1 with link := { s1.link with inbound := s1.link.inbound ++ [f] } }
  else { s1 with link := { s1.link with dropped := satSucc s1.link.dropped } }

/-- One thing the receiver found (R168 to R170). -/
def hear (s : State) (h : Heard) : State :=
  match h with
  | .oversize => { s with link := { s.link with oversize := satSucc s.link.oversize } }
  | .bad => { s with link := { s.link with bad := satSucc s.link.bad } }
  | .frame f => validFrame f s

/-- The receiver with the bytes of a candidate still in reception, its 5 ms begun anew (R169). -/
def receiverOf (held : Option (List Byte)) : Receiver :=
  match held with
  | none => .hunting
  | some bs => .inFrame bs Config.interByteMs

/-- The bytes the receiver examines when a byte arrives: those of the candidate, its SYNC first, and the new
byte. -/
def bytesToHunt (r : Receiver) (b : Byte) : List Byte :=
  match r with
  | .hunting => [b]
  | .inFrame held _ => Config.sync :: (held ++ [b])

/-- BYTE_RECEIVED (R168). -/
def byteStep (b : Byte) (s : State) : State :=
  let found := hunt 0 (bytesToHunt s.link.receiver b)
  let s1 := found.1.foldl hear s
  { s1 with link := { s1.link with receiver := receiverOf found.2 } }

/-- Meaning of BYTE_RECEIVED. -/
def execByteReceived (b : Byte) (s : State) : Host.Outcome State Fault Refusal := .next (byteStep b s)

/-- A broken frame (R169): counted, its bytes discarded without rescan. -/
def breakFrame (s : State) : State :=
  { s with link := { s.link with broken := satSucc s.link.broken, receiver := .hunting } }

/-- Meaning of INTER_BYTE_TIMEOUT (R169): the time passes to the end of the 5 ms (log 5). -/
def execInterByteTimeout (s : State) : Host.Outcome State Fault Refusal :=
  .next
    (match s.link.receiver with
     | .inFrame _ left => breakFrame (advance left s)
     | .hunting => s)

/-- Meaning of LINE_BREAK (R169): a break, or a byte with its stop bit low; nothing while hunting. -/
def execLineBreak (s : State) : Host.Outcome State Fault Refusal :=
  .next
    (match s.link.receiver with
     | .inFrame _ _ => breakFrame s
     | .hunting => s)

/-! ### The transmitter (R173, R178) -/

/-- Whether a frame is the OK reply of a RESET (R178). -/
def isResetReply : OutFrame → Bool
  | .reply code _ (.ok _) => code == 0x92
  | _ => false

/-- The RESET's progress at the end of a frame's sending (R178 step 3). -/
def phaseAfter (f : OutFrame) (p : ResetPhase) : ResetPhase :=
  if p = .waiting ∧ isResetReply f then .acting else p

/-- FRAME_SENT (R173, R176): the oldest frame has been sent whole and leaves the queue; `line` keeps its
bytes (log 28). -/
def frameSentStep (s : State) : State :=
  match s.link.outbound with
  | f :: rest =>
    if transmitting s.link then
      testLost { s with link := { s.link with
        outbound := rest, line := lineBytes f, reset := phaseAfter f s.link.reset } }
    else s
  | [] => s

/-- Meaning of FRAME_SENT. -/
def execFrameSent (s : State) : Host.Outcome State Fault Refusal := .next (frameSentStep s)

/-! ### The link's own requests (R172, R174, R177, R178) -/

/-- UNKNOWN_CODE (R172). -/
def unknownCodeStep (f : InFrame) (s : State) : State := refuse f .unknownCode s

/-- Meaning of UNKNOWN_CODE. -/
def execUnknownCode (s : State) : Host.Outcome State Fault Refusal :=
  .next (takeRequest .unknownCode s unknownCodeStep)

/-- SET_NOTICES (R174). -/
def setNoticesStep (f : InFrame) (s : State) : State :=
  answer f (readNotices f.payload)
    (fun v s =>
      let s1 : State :=
        match v with
        | none => s
        | some e => { s with link := { s.link with letterEnable := e.1, traceEnable := e.2 } }
      reply f (.ok (flag s1.link.letterEnable ++ flag s1.link.traceEnable)) s1) s

/-- Meaning of SET_NOTICES. -/
def execSetNotices (s : State) : Host.Outcome State Fault Refusal :=
  .next (takeRequest .setNotices s setNoticesStep)

/-- The frame counters and lost counts set to 0 (R177). -/
def Link.cleared (l : Link) : Link :=
  { l with oversize := 0, bad := 0, broken := 0, dropped := 0, reportsLost := 0, tracesLost := 0, eventsLost := 0 }

/-- LINK_STATUS (R177). -/
def linkStatusStep (f : InFrame) (s : State) : State :=
  answer f (noFields f.payload)
    (fun _ s => reply f (.ok (encLink s.link)) { s with link := s.link.cleared }) s

/-- Meaning of LINK_STATUS. -/
def execLinkStatus (s : State) : Host.Outcome State Fault Refusal :=
  .next (takeRequest .linkStatus s linkStatusStep)

/-- RESET (R178 step 1): the reply is queued, and no further request is taken. -/
def resetStep (f : InFrame) (s : State) : State :=
  answer f (noFields f.payload)
    (fun _ s => reply f (.ok []) { s with link := { s.link with reset := .waiting } }) s

/-- Meaning of RESET. -/
def execReset (s : State) : Host.Outcome State Fault Refusal := .next (takeRequest .reset s resetStep)

/-! ### The warm reset (R178 to R180) -/

/-- One level cause with its input active requests, with a STOP notice of reason LEVEL (R153). -/
def raiseLevel (s : State) (c : Cause) : State :=
  if levelActive s.pins c then raiseCause c .none none .level s else s

/-- One head with its fault input active raises ACTUATOR (R101). -/
def raiseHead (s : State) (h : Head) : State :=
  if s.pins.headFault.get h then raiseCause .actuator (.actuator (.head h)) none .request s else s

/-- What follows RESET_DONE when a reset is complete (R101, R153; log 15). -/
def requestLevels (s : State) : State :=
  [Head.a, .b].foldl raiseHead ([Cause.door, .extStop, .stackFull].foldl raiseLevel s)

/-- Run control in a warm reset, after the purge (R153): latches and in-service flags clear, the link-loss
timer restarted, the beacon off, the state IDLE. -/
def idleControl (r : RunControl) : RunControl :=
  { r with
    causes := r.causes.map fun e => { e with latch := false, inService := false }
    sinceLink := 0
    linkRaised := false
    beacon := .off }

/-- Every block's warm reset (R24, R49, R66, R82, R101, R121, R130, R153, R165): the purge, the state IDLE,
the snapshot released, the trace disarmed. Its notices are emptied with the queue and never counted lost,
so the link is left as it stood (log 32). -/
def warmBlocks (s : State) : State :=
  let s1 := purge .warmReset s
  let s2 := if s1.run.state = .idle then s1 else enterRunState .idle .warmReset s1
  { s2 with
    tracker := { s2.tracker with prevTrail := none, firstTicket := true }
    run := idleControl s2.run
    tally := { s2.tally with held := none }
    trace := none
    link := s.link }

/-- RESET_DONE of a warm reset (R179). -/
def resetDoneNow (purged : Nat) (s : State) : Notice :=
  .resetDone .warm purged s.tracker.belt s.uptime s.tracker.nextTicket s.tally.nextSnapshot

/-- Steps 4 and 5 of R178: every notice leaves the queue, RESET_DONE is queued with the test of R176, then any
reply set aside, and sending and taking resume. -/
def restartLink (purged : Nat) (s : State) : State :=
  let aside := s.link.outbound.filter isReply
  let s1 := testLost { s with link := { s.link with
    outbound := [.notice (resetDoneNow purged s)], reset := .none } }
  { s1 with link := { s1.link with outbound := s1.link.outbound ++ aside } }

/-- WARM_RESET (R178 steps 3 to 5): due when the RESET's reply has been sent. -/
def warmResetStep (s : State) : State :=
  if s.link.reset = .acting then requestLevels (restartLink (occupancy s) (warmBlocks s)) else s

/-- Meaning of WARM_RESET. -/
def execWarmReset (s : State) : Host.Outcome State Fault Refusal := .next (warmResetStep s)

/-! ### The power-on reset -/

/-- The line rate the straps give (R166). -/
def rateOf (strap1 strap2 : Bool) : LineRate :=
  match strap1, strap2 with
  | false, true => .r460800
  | true, false => .r921600
  | _, _ => .r115200

/-- A head after power-on reset (R101): DISABLED where its fault input is active. -/
def headAtReset (fault : Bool) : HeadUnit := { resetHead with state := if fault then .disabled else .ready }

/-- The state after power-on reset before the level causes request (R24, R49, R66, R82, R101, R121, R130,
R153, R165, R180). -/
def powerOnState (pins : Pins) : State :=
  { State.reset with
    pins := pins
    cancel := { resetCancel with heads := pins.headFault.map headAtReset }
    link := { resetLink with rate := rateOf pins.strap1 pins.strap2 } }

/-- Meaning of POWER_ON_RESET: every block returns to its power-on state, whatever it held, and the level
causes and head faults request (R101, R153). The queue of commands is the sender's, and stays. -/
def execPowerOnReset (pins : Pins) (s : State) : Host.Outcome State Fault Refusal :=
  .next { requestLevels (powerOnState pins) with pending := s.pending }

end Sys2Proof.Machine
end

