-- ==== Sys2Proof/Machine/Tallies.lean ====
section
/-! DEFINITION. The tally unit's requests (07_tallies_and_letter_reports.md): the snapshot, its reading, and
the shift clear. Postings are made where the counted things happen (R123), through `post`. -/

namespace Sys2Proof.Machine

/-- The snapshot taken now (R126). -/
def snapshotNow (s : State) : Snapshot :=
  ⟨s.tally.nextSnapshot, s.tally.life, s.tally.shift, s.tally.baseOcc, s.tracker.belt, s.uptime, occupancy s⟩

/-- The taking of a snapshot: it is held, and the next snapshot number advances (R126). -/
def takeSnapshot (s : State) : State :=
  { s with tally := { s.tally with
      held := some (snapshotNow s), nextSnapshot := s.tally.nextSnapshot + 1 } }

/-- TALLY_LATCH (R127). -/
def tallyLatchStep (f : InFrame) (s : State) : State :=
  answer f (noFields f.payload)
    (fun _ s =>
      match s.tally.held with
      | some n => reply f (.held n.number) s
      | none => reply f (.ok (word16 s.tally.nextSnapshot ++ word32 s.uptime)) (takeSnapshot s)) s

/-- Meaning of TALLY_LATCH. -/
def execTallyLatch (s : State) : Host.Outcome State Fault Refusal :=
  .next (takeRequest .tallyLatch s tallyLatchStep)

/-- One tally set less another, counter by counter modulo 2^32 (R129). -/
def TallySet.minus (a b : TallySet) : TallySet where
  entered := a.entered - b.entered
  committed := a.committed - b.committed
  purged := a.purged - b.purged
  outcome := a.outcome.zip (· - ·) b.outcome
  bin := a.bin.zip (· - ·) b.bin
  binForced := a.binForced - b.binForced
  overrun := a.overrun - b.overrun
  batches := a.batches.zip (· - ·) b.batches
  strikes := a.strikes.zip (· - ·) b.strikes
  late := a.late.zip (· - ·) b.late
  missed := a.missed.zip (· - ·) b.missed
  impressions := a.impressions.zip (· - ·) b.impressions
  pathForced := a.pathForced - b.pathForced
  specks := a.specks - b.specks
  manyMarks := a.manyMarks - b.manyMarks
  jams := a.jams - b.jams
  strayEdges := a.strayEdges - b.strayEdges

/-- The shift clear by a snapshot (R129). -/
def clearShift (n : Snapshot) (s : State) : State :=
  { s with tally := { s.tally with shift := s.tally.shift.minus n.shift, baseOcc := n.occupancy } }

/-- The release of the held snapshot (R128, R130). -/
def releaseSnapshot (s : State) : State := { s with tally := { s.tally with held := none } }

/-- The read of a snapshot (R128): the reply with its two marks, the shift clear, the release. `earlier` says
the snapshot was taken by an earlier latch (log 17). -/
def readSnapshot (f : InFrame) (n : Snapshot) (earlier clear : Bool) (s : State) : State :=
  reply f (.ok (encSnapshot n ++ flag earlier ++ flag clear))
    (releaseSnapshot (if clear then clearShift n s else s))

/-- TALLY_READ (R128). -/
def tallyReadStep (f : InFrame) (s : State) : State :=
  answer f (readByte 0 1 f.payload)
    (fun v s =>
      match s.tally.held with
      | some n => readSnapshot f n true (v == 1) s
      | none => readSnapshot f (snapshotNow s) false (v == 1) (takeSnapshot s)) s

/-- Meaning of TALLY_READ. -/
def execTallyRead (s : State) : Host.Outcome State Fault Refusal :=
  .next (takeRequest .tallyRead s tallyReadStep)

end Sys2Proof.Machine
end

