-- ==== Sys2Proof/Machine/Facing.lean ====
section
/-! DEFINITION. The facing decision unit (03_facing_decision.md): the class of a ticket, the chain at its
decision point, the waiting list, and SET_DECIDE. -/

namespace Sys2Proof.Machine

/-! ### Class (R56 to R60) -/

/-- What the class tests give a ticket: class, required path, head, SECONDARY and the cancel mark. -/
structure Verdict where
  cls : LetterClass
  required : ReqPath
  head : HeadChoice
  secondary : Bool
  mark : Option Mark
  deriving DecidableEq, Repr

/-- The verdict of every test that classes no channel: path ANY, head none, SECONDARY clear. -/
def noChannel (c : LetterClass) : Verdict := ⟨c, .any, .none, false, none⟩

/-- Whether a mark counts toward its channel's score (R57): a STAMP mark of at least the floor. -/
def counts (floor : Nat) (c : Channel) (m : Mark) : Bool :=
  decide (m.channel = c ∧ m.kind = .stamp ∧ floor ≤ m.score)

/-- The channel score CS (R57). -/
def channelScore (floor : Nat) (marks : List Mark) (c : Channel) : Nat :=
  ((marks.filter (counts floor c)).map Mark.score).sum

/-- The larger of two scored channels, the first where they tie (R58 takes either). -/
def better (cs : Channel → Nat) (a b : Channel) : Channel := if cs a < cs b then b else a

/-- A channel with the largest score (R58). -/
def bestChannel (cs : Channel → Nat) : Channel := allChannels.foldl (better cs) .au

/-- The largest score among the channels other than b (R58). -/
def secondScore (cs : Channel → Nat) (b : Channel) : Nat :=
  ((allChannels.filter fun c => decide (c ≠ b)).map cs).foldl max 0

/-- The class, path and head of a channel (R59). -/
def channelVerdict : Channel → LetterClass × ReqPath × Head
  | .au => (.fa, .straight, .a)
  | .bu => (.fb, .straight, .b)
  | .al => (.ia, .turn, .b)
  | .bl => (.ib, .turn, .a)

/-- The higher-scoring of two marks, the earlier in the list where they tie (R60). -/
def higherMark (a : Option Mark) (m : Mark) : Option Mark :=
  match a with
  | none => some m
  | some x => if x.score < m.score then some m else some x

/-- The cancel mark (R60): the STAMP mark of the channel with the highest score, the earliest on a tie. -/
def cancelMark (marks : List Mark) (b : Channel) : Option Mark :=
  (marks.filter fun m => decide (m.channel = b ∧ m.kind = .stamp)).foldl higherMark none

/-- The dominance tests over the channel scores (R58, R59). -/
def scoreVerdict (r : DecideRecord) (marks : List Mark) : Verdict :=
  let cs := channelScore r.floor marks
  let b := bestChannel cs
  let s := secondScore cs b
  if cs b = 0 then
    if marks.any fun m => decide (m.kind = .meter) then noChannel .meter else noChannel .none
  else if r.dom8 * s ≤ 8 * cs b then
    let v := channelVerdict b
    ⟨v.1, v.2.1, .on v.2.2, decide (0 < s), cancelMark marks b⟩
  else noChannel .ambig

/-- The verdict on a ticket: the size test, the cold test, then the scores (R56 to R60). -/
def verdict (r : DecideRecord) (t : Ticket) : Verdict :=
  if t.size.isSome then noChannel .none
  else if t.cold.a || t.cold.b then noChannel .none
  else scoreVerdict r t.marks

/-- The provisional outcome (R63): the first row that applies. -/
def decisionOutcome (t : Ticket) (forced : Bool) (c : LetterClass) : LetterOutcome :=
  match t.size with
  | some .short => .short
  | some .long => .long
  | none =>
    if t.cold.a || t.cold.b then .lampCold
    else if forced then .reface
    else
      match c with
      | .fa => .facedA
      | .fb => .facedB
      | .ia => .turnedToB
      | .ib => .turnedToA
      | .meter => .meter
      | .none => .noMark
      | .ambig => .ambiguous

/-! ### The chain (R61 to R65) -/

/-- The strike of a decided ticket (R63, R89): planned for a head, NOT_REQUIRED without one. -/
def strikeFor (t : Ticket) (v : Verdict) (forced : Bool) (s : State) : State :=
  match v.head, v.mark, forced with
  | .on h, some m, false => planFor t h m.start m.length (t.length.getD 0) s
  | _, _, _ => setTicket t.number (fun u => { u with strike := some .notRequired }) s

/-- The decision of a ticket as one piece of work (R61 to R65): verdict, path, outcome, strike, DECIDED,
calibration, trace. R65 orders calibration and trace neither way; that a CAL notice stands before the TRACE
notices of the same decision is the model's choice (log 35). -/
def decideTicket (t : Ticket) (s : State) : State :=
  let v := verdict s.facing.record t
  let forced := (pathAnswer s t v.required).2
  let o := decisionOutcome t forced v.cls
  let s1 := pathRequest t v.required s
  let s2 := setTicket t.number (fun u => { u with
    cls := some v.cls
    required := some v.required
    head := some (if forced then .none else v.head)
    secondary := v.secondary
    outcome := some o }) s1
  let s3 := strikeFor t v forced s2
  let s4 := setTicket t.number (fun u => { u with state := .decided }) s3
  testTrace t v.cls o (contribute t s4)

/-- The decision of the ticket of a number, if it is in the table (R8). -/
def decideNumber (n : U16) (s : State) : State :=
  match ticketOf s n with
  | some t => decideTicket t s
  | none => s

/-- The waiting list without one ticket. -/
def unwait (n : U16) (s : State) : State :=
  { s with facing := { s.facing with waiting := s.facing.waiting.filter fun m => m != n } }

/-- After a decision, every waiting ticket without an undecided elder is decided, in ticket order (R52). -/
def releaseWaiting : List U16 → State → State
  | [], s => s
  | n :: rest, s =>
    if elderUndecided s n then releaseWaiting rest s
    else releaseWaiting rest (decideNumber n (unwait n s))

/-- A ticket in the waiting list, which stays in ticket order without duplicates (R52). -/
def joinWaiting (n : U16) (s : State) : State :=
  { s with facing := { s.facing with
      waiting := (s.tracker.table.map Ticket.number).filter fun m =>
        s.facing.waiting.contains m || m == n } }

/-- A ticket's decision point (R50 to R52). -/
def decisionPoint (n : U16) (s : State) : State :=
  if elderUndecided s n then joinWaiting n s
  else
    let s1 := decideNumber n s
    releaseWaiting s1.facing.waiting s1

/-! ### SET_DECIDE (R55) -/

/-- SET_DECIDE: installs the record or reads it; either way the reply carries the record in force. -/
def setDecideStep (f : InFrame) (s : State) : State :=
  answer f (readDecide f.payload)
    (fun r s =>
      let s1 : State :=
        match r with
        | none => s
        | some rec => { s with facing := { s.facing with record := rec } }
      reply f (.ok (encDecide s1.facing.record)) s1) s

/-- Meaning of SET_DECIDE. -/
def execSetDecide (s : State) : Host.Outcome State Fault Refusal :=
  .next (takeRequest .setDecide s setDecideStep)

end Sys2Proof.Machine
end

