-- ==== Sys2Proof/Machine/Detection.lean ====
section
/-! DEFINITION. Stamp detection (02_stamp_detection.md): the sample pairs of a pulse, windows and their
classes, baselines, mark finding, the lamps, and their requests. -/

namespace Sys2Proof.Machine

/-! ### Sample pairs (R25, R26) -/

/-- A gained reading before the min of R26. -/
def gained (code : BitVec 4) (raw : Byte) : Nat := raw.toNat * gain32 code / 32

/-- A gained sample (R26). -/
def sampleOf (code : BitVec 4) (raw : Byte) : Nat := min 255 (gained code raw)

/-- Whether a sample is clipped (R26). -/
def clips (code : BitVec 4) (raw : Byte) : Bool := decide (raw.toNat = 255 ∨ 255 ≤ gained code raw)

/-- One gained pair of a step (R25, R26, R31). -/
def gainPair (code : BitVec 4) (cold : Bool) (r : RawPair) : Sample :=
  ⟨sampleOf code r.f, sampleOf code r.p, clips code r.f || clips code r.p, cold⟩

/-- A sample added to a span's window in progress (R33). -/
def Span.take (x : Sample) (sp : Span) : Span := { sp with samples := sp.samples ++ [x] }

/-- The samples a channel keeps of its latest steps: sixteen, and more while a window 1 is due to start. -/
def keepRecent (starting : Bool) (xs : List Sample) : List Sample :=
  if starting then xs else xs.drop (xs.length - Config.recentSteps)

/-- A channel at a pulse (R25, R33, R34): the pair joins the window of every span in progress. With none it
joins the gap window, or is held back from it while a window 1 is due to start at this step. -/
def ScanChannel.take (belt : Pos) (starting : Bool) (x : Sample) (c : ScanChannel) : ScanChannel :=
  { c with
    spans := c.spans.map (Span.take x)
    recent := keepRecent starting (c.recent ++ [x])
    leadIn := if c.spans = [] ∧ starting then c.leadIn ++ [x] else []
    gap := if c.spans = [] ∧ !starting then c.gap.join belt (c.leadIn ++ [x]) else c.gap }

/-- Whether some ticket's window 1 starts at this pulse: its position is reached and its step not taken. -/
def spanStarting (s : State) : Bool := s.tracker.table.any (windowDue s)

/-- One channel at a pulse, with the raw pair the scan port delivers for it. -/
def channelPulse (s : State) (pairs : PerChannel RawPair) (c : Channel) : ScanChannel :=
  let k := s.channels.get c
  k.take s.tracker.belt (spanStarting s)
    (gainPair k.trim (!lampOn (s.lamps.state.get (channelSide c))) (pairs.get c))

/-- The four channels at a pulse, the belt position already advanced (R25). -/
def samplePulse (pairs : PerChannel RawPair) (s : State) : State :=
  { s with channels := ⟨channelPulse s pairs .au, channelPulse s pairs .al, channelPulse s pairs .bu,
      channelPulse s pairs .bl⟩ }

/-! ### Window 1 (R33, R34, R41) -/

/-- The samples a channel has taken at the latest n steps, as far as it keeps them. -/
def ScanChannel.latest (n : Nat) (c : ScanChannel) : List Sample := c.recent.drop (c.recent.length - n)

/-- How many steps the belt has taken from a reached position on, that position's step included. -/
def stepsFrom (belt start : Pos) : Nat := (belt - start).toNat + 1

/-- The start of a ticket's span on a channel (R41): a pending record comes into force, a copy of the
record in force is bound, and a gap window in progress is discarded (R34). The span holds the samples of every
step from its start to the belt's position (R33). -/
def startSpan (t : Ticket) (belt start : Pos) (c : ScanChannel) : ScanChannel :=
  let bound := c.pendingRecord.getD c.inForce
  { c with
    inForce := bound
    pendingRecord := none
    spans := c.spans ++ [⟨t.number, bound, [], start, c.latest (stepsFrom belt start), none⟩]
    leadIn := []
    gap := ⟨c.gap.start, []⟩ }

/-- WINDOW_1_START: the oldest ticket whose lead + scan line is reached starts its span on every channel. With
a scan line below the filter that position is passed when the ticket is created (log 13). -/
def window1Step (s : State) : State :=
  match s.tracker.table.find? (windowDue s) with
  | some t =>
    let start := stepsOn t.lead s.tracker.geometry.scanLine
    setTicket t.number (fun u => { u with spanStarted := true })
      { s with channels := s.channels.map (startSpan t s.tracker.belt start) }
  | none => s

/-- Meaning of WINDOW_1_START. -/
def execWindow1Start (s : State) : Host.Outcome State Fault Refusal := .next (window1Step s)

/-! ### Quantities and class (R35, R36) -/

/-- The transition level L (R35). -/
def transitionLevel (bf level : Nat) : Nat := min 255 (bf / 16 + level)

/-- T (R35): adjacent pairs of readings on opposite sides of the level. -/
def transitions (level : Nat) : List Nat → Nat
  | a :: b :: rest => (if decide (level ≤ a) != decide (level ≤ b) then 1 else 0) + transitions level (b :: rest)
  | _ => 0

/-- SP (R35). -/
def sumP (xs : List Sample) : Nat := (xs.map Sample.p).sum

/-- SF (R35). -/
def sumF (xs : List Sample) : Nat := (xs.map Sample.f).sum

/-- The class of a window (R36). -/
def classOf (h : Threshold) (ea ef t : Nat) : WinClass :=
  if h.tagHigh ≤ ea ∨ (h.tagLow ≤ ea ∧ t ≤ h.transLow) then .stamp
  else if h.meterHigh ≤ ef ∧ ea < h.tagLow ∧ t ≤ h.transHigh then .meter
  else .none

/-- A completed window from its samples and the baselines as they stand (R35, R36, R26, R31). -/
def windowOf (h : Threshold) (bp bf : Nat) (start : Pos) (xs : List Sample) : Window :=
  let ea := sumP xs - bp / 2
  let ef := sumF xs - bf / 2
  let t := transitions (transitionLevel bf h.transLevel) (xs.map Sample.f)
  ⟨start, ea, ef, t, classOf h ea ef t, xs.any Sample.clipped, xs.any Sample.cold⟩

/-- A window entered in the ring (R48). -/
def ringPush (e : RingEntry) (ring : List RingEntry) : List RingEntry :=
  (ring ++ [e]).drop (ring.length + 1 - Config.ringSize)

/-! ### Baselines (R38) -/

/-- A baseline moved toward twice a window sum, the change truncated toward zero (R38). -/
def moveBaseline (b sum d : Nat) : Nat := ((b : Int) + Int.tdiv (2 * (sum : Int) - b) d).toNat

/-- The update of both baselines by a gap window (R38). -/
def updateBaselines (sp sf : Nat) (c : ScanChannel) : ScanChannel :=
  let d := if 0 < c.fast then 2 else 16
  { c with bp := moveBaseline c.bp sp d, bf := moveBaseline c.bf sf d, fast := c.fast - 1 }

/-- The completion of a gap window (R37): ring, then baselines where it is neither cold nor clipped. The
next gap window continues its alignment. -/
def completeGap (c : ScanChannel) : ScanChannel :=
  let xs := c.gap.samples.take Config.windowSteps
  let w := windowOf c.inForce c.bp c.bf c.gap.start xs
  let c1 : ScanChannel := { c with
    ring := ringPush ⟨w, none⟩ c.ring
    gap := ⟨stepsOn c.gap.start Config.windowSteps, c.gap.samples.drop Config.windowSteps⟩ }
  if w.cold || w.clipped then c1 else updateBaselines (sumP xs) (sumF xs) c1

/-! ### Mark finding (R43 to R46) -/

/-- The class of the windows of a mark's kind. -/
def classOfKind : MarkKind → WinClass
  | .stamp => .stamp
  | .meter => .meter

/-- How many of some windows are of a class. -/
def countClass (c : WinClass) (ws : List Window) : Nat := (ws.filter fun w => decide (w.cls = c)).length

/-- The last up to three of a ticket's completed letter windows (R43). -/
def considered (done : List Window) : List Window := done.drop (done.length - 3)

/-- The number of the earliest window of a class among those considered, where window k is the last. -/
def earliest (c : WinClass) (done : List Window) : Nat :=
  done.length - (considered done).length + (considered done).findIdx (fun w => decide (w.cls = c)) + 1

/-- The number of the last window of a class at or before the last completed one; 0 if there is none. -/
def lastOf (c : WinClass) (done : List Window) : Nat :=
  done.length - done.reverse.findIdx fun w => decide (w.cls = c)

/-- The kind that opens (R43 step 2). -/
def opening (done : List Window) : Option MarkKind :=
  if 2 ≤ countClass .stamp (considered done) then some .stamp
  else if 2 ≤ countClass .meter (considered done) then some .meter
  else none

/-- The clamp of a mark's end (R44): the ticket's length; max_len for a LONG ticket without a trail; none
while the length is not known (log 30). -/
def clampEnd (g : Geometry) (t : Ticket) (e : Nat) : Nat :=
  match t.length with
  | some n => min e n
  | none => if isLong t then min e g.maxLen else e

/-- A window's contribution to a mark of a kind (R45). -/
def strength (k : MarkKind) (w : Window) : Nat :=
  match k with
  | .stamp => w.ea
  | .meter => w.ef

/-- The mark that closes (R44, R45), from its ticket's windows. -/
def closedMark (g : Geometry) (t : Ticket) (c : Channel) (o : OpenMark) (done : List Window) : Mark :=
  let last := lastOf (classOfKind o.kind) done
  let start := 8 * (o.first - 1)
  let ws := (done.take last).drop (o.first - 1)
  let own := (ws.filter fun w => decide (w.cls = classOfKind o.kind)).map (strength o.kind)
  { channel := c, kind := o.kind, start := start, length := clampEnd g t (8 * last) - start
    score := min Config.saturation own.sum, clipped := ws.any Window.clipped, peak := own.foldl max 0 }

/-- The lowest score in a mark list. -/
def lowestScore (ms : List Mark) : Nat := (ms.map Mark.score).foldl min Config.saturation

/-- The list without the last mark of a score: of several, the one that closed last (R46). -/
def eraseLastScore (n : Nat) (ms : List Mark) : List Mark :=
  (ms.reverse.eraseP fun m => m.score == n).reverse

/-- A mark joining a mark list (R46). -/
def joinMarks (m : Mark) (ms : List Mark) : List Mark :=
  if ms.length < Config.markListSize then ms ++ [m]
  else if lowestScore ms < m.score then eraseLastScore (lowestScore ms) ms ++ [m]
  else ms

/-- A closing mark reaching its ticket (R45, R46): a speck is counted, any other joins the list, and a full
list sets MANY_MARKS, counted once. -/
def deliverMark (n : U16) (minMark : Nat) (m : Mark) (s : State) : State :=
  match ticketOf s n with
  | none => s
  | some t =>
    if m.length < minMark then post .specks s
    else
      let full := decide (Config.markListSize ≤ t.marks.length)
      postIf (full && !t.manyMarks) .manyMarks
        (setTicket n (fun u => { u with marks := joinMarks m u.marks, manyMarks := u.manyMarks || full }) s)

/-- A mark-finding state after one window, and the marks it closes in order (R43). -/
def findMarks (g : Geometry) (t : Ticket) (c : Channel) (ends : Bool) (done : List Window)
    (o : Option OpenMark) : Option OpenMark × List Mark :=
  let closes :=
    match o with
    | some x => decide (countClass (classOfKind x.kind) (considered done) < 2)
    | none => false
  let closed := if closes then (o.map fun x => closedMark g t c x done).toList else []
  let idle := if closes then none else o
  let opened :=
    match idle with
    | some x => some x
    | none => (opening done).map fun k => ⟨k, earliest (classOfKind k) done⟩
  if ends then (none, closed ++ (opened.map fun x => closedMark g t c x done).toList)
  else (opened, closed)

/-! ### Completion of a letter window (R37) -/

/-- The ticket's cold flag of a side set by a cold window, with the side's wake-error count (R31). -/
def flagCold (n : U16) (d : Side) (s : State) : State :=
  match ticketOf s n with
  | none => s
  | some t =>
    if t.cold.get d then s
    else
      setTicket n (fun u => { u with cold := u.cold.set d true })
        { s with lamps := { s.lamps with
            wakeErrors := s.lamps.wakeErrors.set d (satSucc (s.lamps.wakeErrors.get d)) } }

/-- The first span of a channel that holds eight samples, the spans before it and those behind it. -/
def readySpan : List Span → Option (List Span × Span × List Span)
  | [] => none
  | sp :: rest =>
    if Config.windowSteps ≤ sp.samples.length then some ([], sp, rest)
    else (readySpan rest).map fun r => (sp :: r.1, r.2.1, r.2.2)

/-- The span after a window: its completed windows, the next window's start and samples, its state. -/
def Span.next (w : Window) (o : Option OpenMark) (sp : Span) : Span :=
  { sp with
    done := sp.done ++ [w]
    start := stepsOn sp.start Config.windowSteps
    samples := sp.samples.drop Config.windowSteps
    mark := o }

/-- Whether the window just completed, the k-th, is the last of its ticket's span (R33). -/
def spanEnds (g : Geometry) (t : Ticket) (k : Nat) : Bool :=
  match spanEnd g t with
  | some w => decide (w ≤ k)
  | none => false

/-- The decision point of a ticket whose span is now complete on all four channels (R50); a LONG ticket's
report is of its span running on. The ticket is found by its number: of two tickets of one number the older is
judged, the model's choice (log 34). -/
def judgeComplete (n : U16) (s : State) : State :=
  match ticketOf s n with
  | none => s
  | some t =>
    if spanComplete s t && !isLong t && decide (t.state ≠ .decided) then decisionPoint n s else s

/-- The end of one span on one channel: the next gap window begins at the following step (R34). -/
def endSpan (c : Channel) (before behind : List Span) (next : Pos) (s : State) : State :=
  setChannel c (fun k => { k with spans := before ++ behind, gap := ⟨next, []⟩ }) s

/-- The completion of a letter window (R37): quantities and class, ring, cold flag, mark finding, and at the
span's last window the report to the facing decision unit. A span without its ticket ends (R8). -/
def completeLetter (c : Channel) (before : List Span) (sp : Span) (behind : List Span) (s : State) : State :=
  let k := s.channels.get c
  let w := windowOf sp.bound k.bp k.bf sp.start (sp.samples.take Config.windowSteps)
  let done := sp.done ++ [w]
  let next := stepsOn sp.start Config.windowSteps
  let s1 := setChannel c (fun k => { k with ring := ringPush ⟨w, some sp.ticket⟩ k.ring }) s
  match ticketOf s1 sp.ticket with
  | none => endSpan c before behind next s1
  | some t =>
    let ends := spanEnds s1.tracker.geometry t done.length
    let s2 := if w.cold then flagCold sp.ticket (channelSide c) s1 else s1
    let found := findMarks s2.tracker.geometry t c ends done sp.mark
    let s3 := found.2.foldl (fun a m => deliverMark sp.ticket sp.bound.minMark m a) s2
    if ends then judgeComplete sp.ticket (endSpan c before behind next s3)
    else setChannel c (fun k => { k with spans := before ++ sp.next w found.1 :: behind }) s3

/-- The completion of one channel's oldest completed window. -/
def completeOn (c : Channel) (s : State) : State :=
  match readySpan (s.channels.get c).spans with
  | some (before, sp, behind) => completeLetter c before sp behind s
  | none =>
    if Config.windowSteps ≤ (s.channels.get c).gap.samples.length then setChannel c completeGap s else s

/-- WINDOW_COMPLETION: the first channel, in channel order, that holds a completed window (R47; log 11). -/
def windowCompletionStep (s : State) : State :=
  match allChannels.find? fun c => windowReady (s.channels.get c) with
  | some c => completeOn c s
  | none => s

/-- Meaning of WINDOW_COMPLETION. -/
def execWindowCompletion (s : State) : Host.Outcome State Fault Refusal := .next (windowCompletionStep s)

/-! ### Lamps (R28 to R32) -/

/-- A change of a lamp's state, with its LAMP notice (R32). -/
def changeLamp (d : Side) (new : LampState) (why : LampReason) (s : State) : State :=
  handNotice (.lamp d (s.lamps.state.get d) new why s.uptime)
    { s with lamps := { s.lamps with state := s.lamps.state.set d new } }

/-- A lamp in STANDBY goes to WARMING with its timer at the warm time in force (R28). -/
def wakeLamp (why : LampReason) (d : Side) (s : State) : State :=
  match s.lamps.state.get d with
  | .standby => changeLamp d (.warming s.lamps.record.warm) why s
  | _ => s

/-- A lamp in WARMING or ON goes to STANDBY (R29, R30). -/
def restLamp (why : LampReason) (d : Side) (s : State) : State :=
  match s.lamps.state.get d with
  | .standby => s
  | _ => changeLamp d .standby why s

/-- The saver timer at a restart (R29): kept in mode AUTO, and never expiring at saver time 0 (log 23). -/
def saverRestart (r : LampRecord) : Option Nat :=
  if r.mode = .auto ∧ 0 < r.saver then some r.saver else none

/-- The restart of the saver timer. -/
def restartSaver (s : State) : State := { s with lamps := { s.lamps with saver := saverRestart s.lamps.record } }

/-- A leading edge at E handed to lamp control (R3, R29). -/
def lampEdge (s : State) : State :=
  if s.lamps.record.mode = .auto then wakeLamp .edge .b (wakeLamp .edge .a (restartSaver s)) else s

/-- Meaning of WARM_DONE (R28): the time passes to the warm timer's expiry (log 5), and the lamp goes ON. -/
def execWarmDone (d : Side) (s : State) : Host.Outcome State Fault Refusal :=
  .next
    (match s.lamps.state.get d with
     | .warming left => changeLamp d .on .warmDone (advance left s)
     | _ => s)

/-- Meaning of SAVER_EXPIRY (R29): the time passes to the saver timer's expiry (log 5); each lit lamp goes to
STANDBY and the timer stands until its next restart. -/
def execSaverExpiry (s : State) : Host.Outcome State Fault Refusal :=
  .next
    (match s.lamps.saver with
     | some left =>
       let s1 := advance left s
       restLamp .saver .b (restLamp .saver .a { s1 with lamps := { s1.lamps with saver := none } })
     | none => s)

/-! ### Requests -/

/-- SET_DETECT (R41): the record becomes the channel's pending record, and a calibration running on the
channel is aborted (R161). -/
def setDetectStep (f : InFrame) (s : State) : State :=
  answer f (readDetect f.payload)
    (fun v s =>
      reply f (.ok [])
        (abortCalOf v.1 .setDetect (setChannel v.1 (fun k => { k with pendingRecord := some v.2 }) s))) s

/-- Meaning of SET_DETECT. -/
def execSetDetect (s : State) : Host.Outcome State Fault Refusal :=
  .next (takeRequest .setDetect s setDetectStep)

/-- GET_DETECT (R42). -/
def getDetectStep (f : InFrame) (s : State) : State :=
  answer f (readByte 0 3 f.payload) (fun c s => reply f (.ok (encDetect (s.channels.get (channelOf c)))) s) s

/-- Meaning of GET_DETECT. -/
def execGetDetect (s : State) : Host.Outcome State Fault Refusal :=
  .next (takeRequest .getDetect s getDetectStep)

/-- SET_TRIM (R27): the code is installed and a calibration running on the channel is aborted (R161). Both happen
at once; that the ABORTED notice carries the new code (R159) is the model's choice (log 36). -/
def setTrimStep (f : InFrame) (s : State) : State :=
  answer f (readTrim f.payload)
    (fun v s => reply f (.ok []) (abortCalOf v.1 .setTrim (installTrim v.1 v.2 s))) s

/-- Meaning of SET_TRIM. -/
def execSetTrim (s : State) : Host.Outcome State Fault Refusal :=
  .next (takeRequest .setTrim s setTrimStep)

/-- The new mode acting on both lamps, side A's first (R30, R32). -/
def applyLampMode (m : LampMode) (s : State) : State :=
  match m with
  | .auto => s
  | .forceOn => wakeLamp .request .b (wakeLamp .request .a s)
  | .forceStandby => restLamp .request .b (restLamp .request .a s)

/-- SET_LAMP (R30): the record is installed, the saver timer restarted, and the mode acts on each lamp. -/
def setLampStep (f : InFrame) (s : State) : State :=
  answer f (readLamp f.payload)
    (fun r s =>
      reply f (.ok []) (applyLampMode r.mode (restartSaver { s with lamps := { s.lamps with record := r } }))) s

/-- Meaning of SET_LAMP. -/
def execSetLamp (s : State) : Host.Outcome State Fault Refusal :=
  .next (takeRequest .setLamp s setLampStep)

/-- LAMP_STATUS (R32): once the reply is formed, both wake-error counts are set to 0. -/
def lampStatusStep (f : InFrame) (s : State) : State :=
  answer f (noFields f.payload)
    (fun _ s =>
      reply f (.ok (encLamps s.lamps)) { s with lamps := { s.lamps with wakeErrors := PerSide.all 0 } }) s

/-- Meaning of LAMP_STATUS. -/
def execLampStatus (s : State) : Host.Outcome State Fault Refusal :=
  .next (takeRequest .lampStatus s lampStatusStep)

end Sys2Proof.Machine
end

