-- ==== Sys2Proof/Machine/Stacking.lean ====
section
/-! DEFINITION. The stacker controller (06_stacking_and_batches.md): its part of the commit, the flap
actions, the bins' batches and full inputs, and the plan and bin requests. -/

namespace Sys2Proof.Machine

/-! ### Bins and batches (R112 to R115) -/

/-- A change to one bin record. -/
def setBinRecord (b : Bin) (f : BinRecord → BinRecord) (s : State) : State :=
  { s with stacker := { s.stacker with bins := s.stacker.bins.set b (f (s.stacker.bins.get b)) } }

/-- A reload (R114, R119): a pending base comes into force, and current becomes the base in force. -/
def BinRecord.reload (r : BinRecord) : BinRecord :=
  { r with base := r.pendingBase.getD r.base, pendingBase := none, current := r.pendingBase.getD r.base }

/-- A bin at a terminal count, its mode read (R113 to R115): reloaded in AUTO, closed in HOLD. -/
def BinRecord.close (r : BinRecord) : BinRecord :=
  match r.mode with
  | .auto => { r.reload with batch := r.batch + 1, state := .opened }
  | .hold => { r with batch := r.batch + 1, state := .closed, current := 0 }

/-- The tray-swap pulse of a terminal count in AUTO, a full 50 ms from now (R114). -/
def pulseTray (b : Bin) (m : BinMode) (s : State) : State :=
  match m with
  | .auto => { s with stacker := { s.stacker with trays := s.stacker.trays.set b (some Config.traySwapMs) } }
  | .hold => s

/-- A terminal count of a bin (R113), with the count of letters in the batch and the reason. -/
def terminalCount (b : Bin) (count : Nat) (why : BatchReason) (s : State) : State :=
  let m := (s.stacker.bins.get b).mode
  let s1 := post (.batches b) (pulseTray b m (setBinRecord b BinRecord.close s))
  let r := s1.stacker.bins.get b
  handNotice (.batch b r.batch count why m r.state r.base r.current s1.uptime) s1

/-- A letter counted into the bin it goes to (R112). -/
def countLetter (b : Bin) (s : State) : State :=
  let r := s.stacker.bins.get b
  match r.state with
  | .closed => s
  | .opened =>
    let s1 := setBinRecord b (fun r => { r with current := r.current - 1 }) s
    if r.current ≤ 1 then terminalCount b r.base .count s1 else s1

/-! ### Bin and route (R109 to R111) -/

/-- The wanted bin of a plan row (R109). -/
def wantedBin (s : State) (r : PlanRow) : Bin :=
  if usable s r.primary then r.primary
  else
    match r.alternate with
    | some b => if usable s b then b else .b6
    | none => .b6

/-- A flap's place along the belt. -/
def flapPlace (g : Geometry) (f : Flap) : Nat := g.flaps.get f

/-- The due of a close of flap x for a letter bound for bin b (R110). -/
def closeDueAt (g : Geometry) (t : Ticket) (b : Bin) (belt : Pos) (x : Flap) : Pos :=
  if flapNumber x < binNumber b then stepsBack (stepsOn t.lead (flapPlace g x)) g.flapLead
  else
    match t.gap with
    | some n => stepsOn (stepsBack t.lead n) (flapPlace g x + g.flapClear)
    | none => belt

/-- The open a route change to bin b needs (R110). -/
def openNeeded (g : Geometry) (k : Stacker) (t : Ticket) (b : Bin) : List FlapAction :=
  match flapOfBin b with
  | some f =>
    if plannedFlap k f then []
    else [⟨stepsBack (stepsOn t.lead (flapPlace g f)) g.flapLead, f, true, t.number⟩]
  | none => []

/-- The closes a route change to bin b needs (R110): every other flap planned OPEN. -/
def closesNeeded (g : Geometry) (k : Stacker) (t : Ticket) (b : Bin) (belt : Pos) : List FlapAction :=
  (allFlaps.filter fun x => plannedFlap k x && decide (flapOfBin b ≠ some x)).map fun x =>
    ⟨closeDueAt g t b belt x, x, false, t.number⟩

/-- The actions a route change needs (R110). -/
def actionsNeeded (g : Geometry) (k : Stacker) (t : Ticket) (b : Bin) (belt : Pos) : List FlapAction :=
  openNeeded g k t b ++ closesNeeded g k t b belt

/-- The gap condition of R110. -/
def flapGapOk (g : Geometry) (gap : Option Nat) : Bool :=
  match gap with
  | none => true
  | some n => decide (g.flapClear + g.flapLead ≤ n)

/-- An action joins the flap queue behind every action whose due is not after its own (R108). -/
def insertAction (a : FlapAction) : List FlapAction → List FlapAction
  | [] => [a]
  | x :: rest => if after x.due a.due then a :: x :: rest else x :: insertAction a rest

/-- An action made (R116). -/
def makeAction (a : FlapAction) (s : State) : State :=
  { s with stacker := { s.stacker with flaps := s.stacker.flaps.set a.flap a.opens } }

/-- An action queued, or made at once where its due has already been reached (R116). R108 says that the dues of one flap
ascend, and R110 dues a higher close of a ticket without a gap at the commit itself, which may lie before the due of an
OPEN of that flap still queued since a FINISH drain: that the close is then made at once and the OPEN stays queued is a
DESIGN CHOICE (log 41, unsafe). -/
def queueAction (a : FlapAction) (s : State) : State :=
  if reached s.tracker.belt a.due then makeAction a s
  else { s with stacker := { s.stacker with queue := insertAction a s.stacker.queue } }

/-- What the stacker controller resolves for a ticket: its bin, whether it is forced, the actions. -/
structure Resolution where
  bin : Bin
  forced : Bool
  actions : List FlapAction
  deriving DecidableEq, Repr

/-- The resolution of a ticket of a final outcome (R109 to R111). -/
def resolve (s : State) (t : Ticket) (o : LetterOutcome) : Resolution :=
  let b := wantedBin s (s.stacker.plan.get o)
  let a := route s.stacker
  if b = a then ⟨a, false, []⟩
  else
    let acts := actionsNeeded s.tracker.geometry s.stacker t b s.tracker.belt
    if flapGapOk s.tracker.geometry t.gap ∧ s.stacker.queue.length + acts.length ≤ Config.flapQueueSize then
      ⟨b, false, acts⟩
    else ⟨a, true, []⟩

/-- The stacker controller's part of a commit (R109 to R115): bin and BIN_FORCED written, actions queued,
the letter counted into its bin. -/
def stackLetter (t : Ticket) (r : Resolution) (s : State) : State :=
  countLetter r.bin
    (r.actions.foldl (fun a x => queueAction x a)
      (setTicket t.number (fun u => { u with bin := some r.bin, binForced := r.forced }) s))

/-! ### FLAP_DUE, TRAY_SWAP_PULSE_END, BIN_FULL_INPUT -/

/-- FLAP_DUE (R116): the oldest action, its due reached, leaves the queue and is made. -/
def flapDueStep (s : State) : State :=
  match s.stacker.queue with
  | a :: rest =>
    if reached s.tracker.belt a.due then makeAction a { s with stacker := { s.stacker with queue := rest } }
    else s
  | [] => s

/-- Meaning of FLAP_DUE. -/
def execFlapDue (s : State) : Host.Outcome State Fault Refusal := .next (flapDueStep s)

/-- Meaning of TRAY_SWAP_PULSE_END (R114): the time passes to the pulse's end (log 5), and the line goes
inactive. -/
def execTraySwapPulseEnd (b : Bin) (s : State) : Host.Outcome State Fault Refusal :=
  .next
    (match s.stacker.trays.get b with
     | some left =>
       let s1 := advance left s
       { s1 with stacker := { s1.stacker with trays := s1.stacker.trays.set b none } }
     | none => s)

/-- A change of a full input (R106): its BIN notice, and for bin 6 the request of STACK_FULL where it goes
active (R142). -/
def binFullChange (b : Bin) (level : Bool) (s : State) : State :=
  let s1 : State := { s with pins := { s.pins with binFull := s.pins.binFull.set b level } }
  let r := s1.stacker.bins.get b
  let s2 := handNotice (.bin b level r.state r.current s1.uptime) s1
  if b = .b6 ∧ level then raiseCause .stackFull .none none .request s2 else s2

/-- Meaning of BIN_FULL_INPUT: an event is a change of the level (log 2). -/
def execBinFullInput (b : Bin) (level : Bool) (s : State) : Host.Outcome State Fault Refusal :=
  .next (if s.pins.binFull.get b = level then s else binFullChange b level s)

/-! ### Requests (R104, R117 to R120) -/

/-- SET_PLAN (R104): installs the plan or reads it; either way the reply carries the plan in force. -/
def setPlanStep (f : InFrame) (s : State) : State :=
  answer f (readPlan f.payload)
    (fun p s =>
      let s1 : State :=
        match p with
        | none => s
        | some plan => { s with stacker := { s.stacker with plan := plan } }
      reply f (.ok (encPlan s1.stacker.plan)) s1) s

/-- Meaning of SET_PLAN. -/
def execSetPlan (s : State) : Host.Outcome State Fault Refusal :=
  .next (takeRequest .setPlan s setPlanStep)

/-- SET_BIN (R117): a pending base and a mode. -/
def setBinStep (f : InFrame) (s : State) : State :=
  answer f (readBin f.payload)
    (fun v s =>
      let s1 := setBinRecord v.1 (fun r => { r with pendingBase := some v.2.1, mode := v.2.2 }) s
      reply f (.ok (encBin s1 v.1)) s1) s

/-- Meaning of SET_BIN. -/
def execSetBin (s : State) : Host.Outcome State Fault Refusal :=
  .next (takeRequest .setBin s setBinStep)

/-- BIN_CLOSE (R118): an OPEN bin's terminal count with reason REQUEST, whose BATCH notice stands before the
reply with the new batch number and the count. -/
def binCloseStep (f : InFrame) (s : State) : State :=
  answer f (readByte 1 6 f.payload)
    (fun v s =>
      let b := binOf v
      let r := s.stacker.bins.get b
      match r.state with
      | .closed => refuse f barredElsewhere s
      | .opened =>
        reply f (.ok (word16 (r.batch + 1) ++ u16 (r.base - r.current)))
          (terminalCount b (r.base - r.current) .request s)) s

/-- Meaning of BIN_CLOSE. -/
def execBinClose (s : State) : Host.Outcome State Fault Refusal :=
  .next (takeRequest .binClose s binCloseStep)

/-- BIN_RELEASE (R119): a CLOSED bin is reloaded and opened. -/
def binReleaseStep (f : InFrame) (s : State) : State :=
  answer f (readByte 1 6 f.payload)
    (fun v s =>
      let b := binOf v
      match (s.stacker.bins.get b).state with
      | .opened => refuse f barredElsewhere s
      | .closed =>
        let s1 := setBinRecord b (fun r => { r.reload with state := .opened }) s
        reply f (.ok (encBin s1 b)) s1) s

/-- Meaning of BIN_RELEASE. -/
def execBinRelease (s : State) : Host.Outcome State Fault Refusal :=
  .next (takeRequest .binRelease s binReleaseStep)

/-- BIN_STATUS (R120). -/
def binStatusStep (f : InFrame) (s : State) : State :=
  answer f (noFields f.payload) (fun _ s => reply f (.ok (encBinStatus s)) s) s

/-- Meaning of BIN_STATUS. -/
def execBinStatus (s : State) : Host.Outcome State Fault Refusal :=
  .next (takeRequest .binStatus s binStatusStep)

end Sys2Proof.Machine
end

