-- ==== Sys2Proof/Machine/Tracking.lean ====
section
/-! DEFINITION. The tracker (01_letter_tracking.md): the encoder pulse, the edges at the cells, the position
checks, the commit, the stall timer, and the geometry and table requests. -/

namespace Sys2Proof.Machine

/-! ### ENCODER_PULSE (R1, R2, R22, R25) -/

/-- A filter after one sample (R2). -/
def Filter.sample (limit : Nat) (dark : Bool) (f : Filter) : Filter :=
  if dark = f.dark then ⟨f.dark, 0⟩
  else if limit ≤ f.run + 1 then ⟨dark, 0⟩
  else ⟨f.dark, f.run + 1⟩

/-- Whether a sample makes a filter accept an edge (R2). -/
def Filter.accepts (limit : Nat) (dark : Bool) (f : Filter) : Bool :=
  decide (dark ≠ f.dark) && decide (limit ≤ f.run + 1)

/-- Whether an edge of a cell is used or counted at all (R3): trailing edges matter at E alone. -/
def edgeUsed (c : Cell) (leading : Bool) : Bool := leading || decide (c = .e)

/-- The edge a cell gives at this pulse, if any, at the first step of its run (R2, R3). -/
def cellEdge (s : State) (inputs : PulseInputs) (c : Cell) : List Edge :=
  let limit := s.tracker.geometry.filter
  let dark := inputs.dark.get c
  if (s.tracker.filters.get c).accepts limit dark && edgeUsed c dark then
    [⟨c, dark, stepsOn (stepsBack s.tracker.belt limit) 1⟩]
  else []

/-- The filters and accepted edges of a pulse, the belt position already advanced (R2). -/
def filterPulse (inputs : PulseInputs) (s : State) : State :=
  { s with tracker := { s.tracker with
      filters := ⟨s.tracker.filters.e.sample s.tracker.geometry.filter inputs.dark.e,
        s.tracker.filters.g.sample s.tracker.geometry.filter inputs.dark.g,
        s.tracker.filters.m.sample s.tracker.geometry.filter inputs.dark.m,
        s.tracker.filters.k.sample s.tracker.geometry.filter inputs.dark.k,
        s.tracker.filters.s.sample s.tracker.geometry.filter inputs.dark.s⟩
      edges := s.tracker.edges ++
        [Cell.e, .g, .m, .k, .s].flatMap (cellEdge s inputs) } }

/-- The belt counter and the stall timer at a pulse (R1, R22). -/
def countPulse (s : State) : State :=
  { s with tracker := { s.tracker with belt := s.tracker.belt + 1, sincePulse := 0, stallRaised := false } }

/-- Meaning of ENCODER_PULSE. -/
def execEncoderPulse (inputs : PulseInputs) (s : State) : Host.Outcome State Fault Refusal :=
  .next (samplePulse inputs.pairs (filterPulse inputs (countPulse s)))

/-! ### Edges at E (R3, R10 to R12) -/

/-- The state with the oldest waiting edge of a kind taken, handed on with its position; unchanged without
one (log 2). -/
def takeEdge (c : Cell) (leading : Bool) (s : State) (k : Pos → State → State) : State :=
  match s.tracker.edges.find? (isEdge c leading) with
  | some e => k e.pos { s with tracker := { s.tracker with edges := s.tracker.edges.eraseP (isEdge c leading) } }
  | none => s

/-- GAP_SHORT at creation (R11). -/
def gapShort (g : Geometry) (gap : Option Nat) : Bool :=
  match gap with
  | some n => decide (n < g.gateClear + g.gateLead)
  | none => false

/-- The gap of a ticket created now (R11): the distance from the previous trail, where that is present. The first ticket
after IDLE has none (R10, R134, R187), also where the trailing edge of a letter left at E has set the record before it
(log 40). -/
def gapNow (s : State) (lead : Pos) : Option Nat :=
  if s.tracker.firstTicket then none else s.tracker.prevTrail.map (distance lead)

/-- A new ticket (R8, R11). -/
def newTicket (s : State) (lead : Pos) : Ticket where
  number := s.tracker.nextTicket
  state := .entering
  lead := lead
  trail := none
  length := none
  gap := gapNow s lead
  seenG := false
  seenM := false
  seenK := false
  size := none
  cold := PerSide.all false
  marks := []
  cls := none
  required := none
  head := none
  taken := none
  pathForced := false
  band := none
  strike := none
  outcome := none
  bin := none
  binForced := false
  gapShort := gapShort s.tracker.geometry (gapNow s lead)
  secondary := false
  manyMarks := false
  gateUnconfirmed := false
  pmShort := false
  noPostmark := false
  spanStarted := false
  longChecked := false
  stuckChecked := false
  missed := false

/-- The creation of a ticket (R11): it joins the table, ENTERED is counted, the throttle evaluated. A ticket that
stays in the table while 65,536 more are created has its number given again, against R7; the model's choice is
to give the number (log 34). -/
def createTicket (lead : Pos) (s : State) : State :=
  evalThrottle (post .entered
    { s with tracker := { s.tracker with
        table := s.tracker.table ++ [newTicket s lead]
        nextTicket := s.tracker.nextTicket + 1
        firstTicket := false } })

/-- The tracker's part of a leading edge at E (R3, R11). -/
def trackLeading (pos : Pos) (s : State) : State :=
  if tracks s.run.state then
    if occupancy s < Config.tableSize then createTicket pos s
    else raiseCause .tableFull (.tableFull pos) none .request s
  else post .strayEdges s

/-- ENTRY_LEADING_EDGE (R3, R11, R29): the tracker's part, then lamp control's (log 20). -/
def entryLeadingStep (s : State) : State := takeEdge .e true s fun pos s => lampEdge (trackLeading pos s)

/-- Meaning of ENTRY_LEADING_EDGE. -/
def execEntryLeadingEdge (s : State) : Host.Outcome State Fault Refusal := .next (entryLeadingStep s)

/-- A ticket with its trail recorded (R12). -/
def Ticket.withTrail (minLen : Nat) (pos : Pos) (t : Ticket) : Ticket :=
  { t with
    trail := some pos
    length := some (distance pos t.lead)
    size := if !isLong t && decide (distance pos t.lead < minLen) then some .short else t.size
    state := if t.state = .entering then .scanning else t.state }

/-- The trail of the youngest ticket, if its trail is absent (R12). -/
def recordTrail (pos : Pos) (s : State) : State :=
  match s.tracker.table.getLast? with
  | some t =>
    if t.trail.isNone then setTicket t.number (Ticket.withTrail s.tracker.geometry.minLen pos) s else s
  | none => s

/-- ENTRY_TRAILING_EDGE (R3, R10, R12). -/
def entryTrailingStep (s : State) : State :=
  takeEdge .e false s fun pos s =>
    if tracks s.run.state then
      let s1 := recordTrail pos s
      { s1 with tracker := { s1.tracker with prevTrail := some pos } }
    else s

/-- Meaning of ENTRY_TRAILING_EDGE. -/
def execEntryTrailingEdge (s : State) : Host.Outcome State Fault Refusal := .next (entryTrailingStep s)

/-! ### LONG_CHECK and STUCK_LETTER_CHECK (R13, R14) -/

/-- LONG_CHECK: the check of the oldest ticket at lead + max_len, made once; without a trail the ticket is
LONG, which is its decision point (R13, R51). -/
def longCheckStep (s : State) : State :=
  match s.tracker.table.find? (longDue s) with
  | some t =>
    let s1 := setTicket t.number (fun u => { u with longChecked := true }) s
    if trailAbsent s t then
      decisionPoint t.number (setTicket t.number (fun u => { u with size := some .long }) s1)
    else s1
  | none => s

/-- Meaning of LONG_CHECK. -/
def execLongCheck (s : State) : Host.Outcome State Fault Refusal := .next (longCheckStep s)

/-- STUCK_LETTER_CHECK: the check of the oldest ticket at lead + 4 × max_len, made once (R14). -/
def stuckCheckStep (s : State) : State :=
  match s.tracker.table.find? (stuckDue s) with
  | some t =>
    let s1 := setTicket t.number (fun u => { u with stuckChecked := true }) s
    if trailAbsent s t then raiseJam .e .stuck none (some t.number) s1 else s1
  | none => s

/-- Meaning of STUCK_LETTER_CHECK. -/
def execStuckLetterCheck (s : State) : Host.Outcome State Fault Refusal := .next (stuckCheckStep s)

/-! ### Arrival (R15 to R17) and commit (R19) -/

/-- A ticket matched at G, M or K (R16); a match at S needs no entry. -/
def Ticket.seen (x : ArrivalCell) (t : Ticket) : Ticket :=
  match x with
  | .g => { t with seenG := true }
  | .m => { t with seenM := true }
  | .k => { t with seenK := true }
  | .s => t

/-- The batch a letter counted into a bin belongs to (R133): none for a CLOSED bin. -/
def batchOf (r : BinRecord) : Option U16 :=
  match r.state with
  | .opened => some (r.batch + 1)
  | .closed => none

/-- The tallies of a commit (R19, R125). -/
def countCommit (o : LetterOutcome) (b : Bin) (forced overrun : Bool) (s : State) : State :=
  postIf overrun .overrun (postIf forced .binForced (post (.bin b) (post (.outcome o) (post .committed s))))

/-- The commit of a ticket of a final outcome (R19): the stacker controller's part, the tallies, the LETTER
notice, the removal, the throttle, and the end of a drain (R140). `pos` is the edge's position. R19, R102 and R134 say
that the strike result is final by then, which R5's strike margin gives for a jam tolerance of up to 40 steps; that with
a greater one a ticket matched before its strike begins commits with its result PENDING and its outcome as it stands
is a DESIGN CHOICE (log 39, unsafe). -/
def commitTicket (t : Ticket) (o : LetterOutcome) (pos : Pos) (s : State) : State :=
  let r := resolve s t o
  let k := s.stacker.bins.get r.bin
  let s1 := stackLetter t r s
  let s2 := countCommit o r.bin r.forced (batchOf k).isNone s1
  let s3 := handNotice (.letter ⟨none, pos, s2.uptime, { t with bin := some r.bin, binForced := r.forced },
    batchOf k⟩) s2
  endDrain (evalThrottle (removeTicket t.number s3))

/-- The oldest ticket an edge at a cell matches (R16). -/
def matchedTicket (s : State) (x : ArrivalCell) (pos : Pos) : Option Ticket :=
  s.tracker.table.find? (matchesEdge s.tracker.geometry x pos)

/-- An edge that is not a commit (R16): cells seen, or JAM as an unexpected letter. -/
def passEdge (x : ArrivalCell) (pos : Pos) (s : State) : State :=
  match matchedTicket s x pos with
  | some t => setTicket t.number (Ticket.seen x) s
  | none => raiseJam (arrivalCell x) .unexpected (some pos) none s

/-- The ticket an edge at S commits. -/
def committing (s : State) (x : ArrivalCell) (pos : Pos) : Option Ticket :=
  if x = .s then matchedTicket s x pos else none

/-- An edge at an arrival cell (R3, R16): a commit at S, cells seen, JAM, or ignored. A commit needs the
outcome that R19 says every committed ticket has (log 12); the younger of two tickets of one number is not
decided unless it is LONG, nor are the tickets behind it, the model's choice (log 34). -/
def arrive (x : ArrivalCell) (pos : Pos) (s : State) : Host.Outcome State Fault Refusal :=
  if !tracks s.run.state then .next s
  else
    match committing s x pos with
    | none => .next (passEdge x pos s)
    | some t =>
      match t.outcome with
      | some o => .next (commitTicket t o pos s)
      | none => .fault .undecidedCommit

/-- Meaning of ARRIVAL_MATCH: the oldest waiting leading edge of the cell is taken. -/
def execArrivalMatch (x : ArrivalCell) (s : State) : Host.Outcome State Fault Refusal :=
  match s.tracker.edges.find? (isEdge (arrivalCell x) true) with
  | some e =>
    arrive x e.pos { s with tracker := { s.tracker with
      edges := s.tracker.edges.eraseP (isEdge (arrivalCell x) true) } }
  | none => .next s

/-- ARRIVAL_WINDOW_CLOSE: the oldest ticket whose window at the cell is due to close unmatched raises JAM as a
missing letter, once (R17). -/
def windowCloseStep (x : ArrivalCell) (s : State) : State :=
  match s.tracker.table.find? (closeDue s x) with
  | some t =>
    raiseJam (arrivalCell x) .missing none (some t.number)
      (setTicket t.number (fun u => { u with missed := true }) s)
  | none => s

/-- Meaning of ARRIVAL_WINDOW_CLOSE. -/
def execArrivalWindowClose (x : ArrivalCell) (s : State) : Host.Outcome State Fault Refusal :=
  .next (windowCloseStep x s)

/-! ### BELT_STALL (R22) -/

/-- Meaning of BELT_STALL: in a tracking run state the time passes to the stall time since the last pulse
(log 5), and BELT_STALL is raised, once until a new pulse. -/
def execBeltStall (s : State) : Host.Outcome State Fault Refusal :=
  .next
    (if tracks s.run.state && !s.tracker.stallRaised then
      let s1 := advance (s.tracker.geometry.stallTime - s.tracker.sincePulse) s
      raiseCause .beltStall (.stall .run) none .request
        { s1 with tracker := { s1.tracker with stallRaised := true } }
    else s)

/-! ### Requests (R5, R6, R23) -/

/-- The fields of a SET_GEOMETRY, judged in the order of R172 and R5: length, run state, values. -/
def geometryArg (f : InFrame) (s : State) : Except Reason Geometry :=
  match readGeometry f.payload with
  | none => .error .badLength
  | some g =>
    if s.run.state ≠ .idle then .error (barredByRunState s)
    else
      match g.badField with
      | some n => .error (.badValue n)
      | none => .ok g

/-- A record in force (R5): every filter's run count is set to 0 (R2) and the throttle re-evaluated (R21). -/
def installGeometry (g : Geometry) (s : State) : State :=
  evalThrottle { s with tracker := { s.tracker with
    geometry := g, filters := s.tracker.filters.map fun f => { f with run := 0 } } }

/-- SET_GEOMETRY (R5). -/
def setGeometryStep (f : InFrame) (s : State) : State :=
  answer f (geometryArg f s) (fun g s => reply f (.ok []) (installGeometry g s)) s

/-- Meaning of SET_GEOMETRY. -/
def execSetGeometry (s : State) : Host.Outcome State Fault Refusal :=
  .next (takeRequest .setGeometry s setGeometryStep)

/-- GET_GEOMETRY (R6). -/
def getGeometryStep (f : InFrame) (s : State) : State :=
  answer f (noFields f.payload) (fun _ s => reply f (.ok (encGeometry s.tracker.geometry)) s) s

/-- Meaning of GET_GEOMETRY. -/
def execGetGeometry (s : State) : Host.Outcome State Fault Refusal :=
  .next (takeRequest .getGeometry s getGeometryStep)

/-- TABLE_READ (R23). -/
def tableReadStep (f : InFrame) (s : State) : State :=
  answer f (noFields f.payload) (fun _ s => reply f (.ok (encTable s)) s) s

/-- Meaning of TABLE_READ. -/
def execTableRead (s : State) : Host.Outcome State Fault Refusal :=
  .next (takeRequest .tableRead s tableReadStep)

end Sys2Proof.Machine
end

