-- ==== Sys2Proof/Machine/Schedule.lean ====
section
/-! DEFINITION. Which of the controller's own steps is due: what a pulse, an expired timer or a buffered
request makes it do without a further event from outside (R1; 00_scope.md, Time; R171). Where several are
due the spec lets either be taken first; the order here is the model's (log 4). -/

namespace Sys2Proof.Machine

/-- The step an accepted edge makes (R3). -/
def edgeStep (e : Edge) : Instr :=
  match e.cell with
  | .e => if e.leading then .entryLeadingEdge else .entryTrailingEdge
  | .g => .arrivalMatch .g
  | .m => .arrivalMatch .m
  | .k => .arrivalMatch .k
  | .s => .arrivalMatch .s

/-- A step where its condition holds. -/
def dueIf (b : Bool) (c : Instr) : Option Instr := if b then some c else none

/-- Whether the oldest gate entry's due is reached (R72). -/
def gateDueNow (s : State) : Bool :=
  match s.gate.queue with
  | e :: _ => reached s.tracker.belt e.due
  | [] => false

/-- Whether the oldest flap action's due is reached (R116). -/
def flapDueNow (s : State) : Bool :=
  match s.stacker.queue with
  | a :: _ => reached s.tracker.belt a.due
  | [] => false

/-- Whether a head's strike has reached its end (R99). -/
def strikeEndNow (s : State) (h : Head) : Bool :=
  match (s.cancel.heads.get h).state with
  | .striking (.letter _ stop _) => reached s.tracker.belt stop
  | _ => false

/-- Whether the start of a head's oldest entry is reached and it does not wait yet (R96, R97). -/
def strikeStartNow (s : State) (h : Head) : Bool :=
  match (s.cancel.heads.get h).queue with
  | e :: _ => !(s.cancel.heads.get h).waiting && reached s.tracker.belt e.start
  | [] => false

/-- Whether the deadline of a head's waiting entry is reached (R98). -/
def deadlineNow (s : State) (h : Head) : Bool :=
  match (s.cancel.heads.get h).queue with
  | e :: _ =>
    (s.cancel.heads.get h).waiting && reached s.tracker.belt e.deadline &&
      decide ((s.cancel.heads.get h).state ≠ .ready)
  | [] => false

/-- The steps positions bring (R1), in the model's order. -/
def positionSteps (s : State) : List (Option Instr) :=
  [s.tracker.edges.head?.map edgeStep,
   dueIf (s.tracker.table.any (windowDue s)) .window1Start,
   dueIf (s.channels.toList.any windowReady) .windowCompletion,
   dueIf (s.tracker.table.any (longDue s)) .longCheck,
   dueIf (s.tracker.table.any (stuckDue s)) .stuckLetterCheck,
   dueIf (s.tracker.table.any (closeDue s .g)) (.arrivalWindowClose .g),
   dueIf (s.tracker.table.any (closeDue s .m)) (.arrivalWindowClose .m),
   dueIf (s.tracker.table.any (closeDue s .k)) (.arrivalWindowClose .k),
   dueIf (s.tracker.table.any (closeDue s .s)) (.arrivalWindowClose .s),
   dueIf (gateDueNow s) .gateDue,
   dueIf (strikeEndNow s .a) (.strikeEnd .a),
   dueIf (strikeEndNow s .b) (.strikeEnd .b),
   dueIf (strikeStartNow s .a) (.strikeStart .a),
   dueIf (strikeStartNow s .b) (.strikeStart .b),
   dueIf (deadlineNow s .a) (.strikeDeadline .a),
   dueIf (deadlineNow s .b) (.strikeDeadline .b),
   dueIf (flapDueNow s) .flapDue,
   dueIf (startDue s) .startDone]

/-- Whether a head's recharge has run out (R94). -/
def rechargeOver (s : State) (h : Head) : Bool := decide ((s.cancel.heads.get h).state = .recharging 0)

/-- The exercise whose timer has run out, as the step that ends it (R78 to R80). -/
def exerciseOver (s : State) : Option Instr :=
  match s.gate.exercise with
  | some (.gate _ 0 _ _) => some .gateExerciseTimeout
  | some (.flap _ 0) => some .flapExerciseEnd
  | some (.head h) => dueIf (decide ((s.cancel.heads.get h).state = .striking (.test 0))) .testStrikeEnd
  | _ => none

/-- Whether a confirm's timer has run out (R73). -/
def confirmOver (s : State) : Bool :=
  match s.gate.confirm with
  | some c => decide (c.left = 0)
  | none => false

/-- Whether a flashing phase of the beacon has run out (R151). -/
def phaseOver (s : State) : Bool := decide (s.run.beacon = .flashOn 0 ∨ s.run.beacon = .flashOff 0)

/-- Whether a candidate's 5 ms have run out (R169). -/
def candidateOver (s : State) : Bool :=
  match s.link.receiver with
  | .inFrame _ left => decide (left = 0)
  | .hunting => false

/-- Whether the stall time has passed since the last pulse (R22). -/
def stallOver (s : State) : Bool :=
  tracks s.run.state && !s.tracker.stallRaised &&
    decide (s.tracker.geometry.stallTime ≤ s.tracker.sincePulse)

/-- Whether the link timeout has passed (R145). -/
def linkOver (s : State) : Bool :=
  tracks s.run.state && !s.run.linkRaised && decide (s.run.linkTimeout ≤ s.run.sinceLink)

/-- The tray-swap pulse that has run out, of one bin (R114). -/
def trayOver (s : State) (b : Bin) : Option Instr :=
  dueIf (decide (s.stacker.trays.get b = some 0)) (.traySwapPulseEnd b)

/-- The steps the clock brings: timers that have run out, in the model's order. -/
def timerSteps (s : State) : List (Option Instr) :=
  [dueIf (confirmOver s) .gateConfirmTimeout,
   exerciseOver s,
   dueIf (rechargeOver s .a) (.rechargeExpiry .a),
   dueIf (rechargeOver s .b) (.rechargeExpiry .b),
   trayOver s .b1, trayOver s .b2, trayOver s .b3, trayOver s .b4, trayOver s .b5, trayOver s .b6,
   dueIf (decide (s.lamps.state.a = .warming 0)) (.warmDone .a),
   dueIf (decide (s.lamps.state.b = .warming 0)) (.warmDone .b),
   dueIf (decide (s.lamps.saver = some 0)) .saverExpiry,
   dueIf (phaseOver s) .beaconFlash,
   dueIf (candidateOver s) .interByteTimeout,
   dueIf (decide (s.run.startTimer = some 0)) .startTimerExpiry,
   dueIf (stallOver s) .beltStall,
   dueIf (linkOver s) .linkLoss]

/-- The steps the link brings: a warm reset, else the next request (R171, R178). -/
def linkSteps (s : State) : List (Option Instr) :=
  [dueIf (decide (s.link.reset = .acting)) .warmReset, nextRequest s]

/-- The controller's own step that is due, if any. -/
def nextDue (s : State) : Option Instr :=
  (positionSteps s ++ timerSteps s ++ linkSteps s).findSome? id

end Sys2Proof.Machine
end

