-- ==== Sys2Proof/Machine/Dispatch.lean ====
section
/-! DEFINITION. The dispatch: one arm for each command of the table, each a call of its meaning. -/

namespace Sys2Proof.Machine

def exec (i : Instr) (s : State) : Host.Outcome State Fault Refusal :=
  match i with
  | .powerOnReset pins => Sys2Proof.Machine.execPowerOnReset pins s
  | .encoderPulse inputs => Sys2Proof.Machine.execEncoderPulse inputs s
  | .entryLeadingEdge => Sys2Proof.Machine.execEntryLeadingEdge s
  | .entryTrailingEdge => Sys2Proof.Machine.execEntryTrailingEdge s
  | .window1Start => Sys2Proof.Machine.execWindow1Start s
  | .windowCompletion => Sys2Proof.Machine.execWindowCompletion s
  | .longCheck => Sys2Proof.Machine.execLongCheck s
  | .stuckLetterCheck => Sys2Proof.Machine.execStuckLetterCheck s
  | .arrivalMatch cell => Sys2Proof.Machine.execArrivalMatch cell s
  | .arrivalWindowClose cell => Sys2Proof.Machine.execArrivalWindowClose cell s
  | .gateDue => Sys2Proof.Machine.execGateDue s
  | .gateConfirmInput level => Sys2Proof.Machine.execGateConfirmInput level s
  | .gateConfirmTimeout => Sys2Proof.Machine.execGateConfirmTimeout s
  | .gateExerciseTimeout => Sys2Proof.Machine.execGateExerciseTimeout s
  | .strikeStart head => Sys2Proof.Machine.execStrikeStart head s
  | .strikeDeadline head => Sys2Proof.Machine.execStrikeDeadline head s
  | .strikeEnd head => Sys2Proof.Machine.execStrikeEnd head s
  | .rechargeExpiry head => Sys2Proof.Machine.execRechargeExpiry head s
  | .headFaultInput head level => Sys2Proof.Machine.execHeadFaultInput head level s
  | .testStrikeEnd => Sys2Proof.Machine.execTestStrikeEnd s
  | .flapDue => Sys2Proof.Machine.execFlapDue s
  | .flapExerciseEnd => Sys2Proof.Machine.execFlapExerciseEnd s
  | .traySwapPulseEnd bin => Sys2Proof.Machine.execTraySwapPulseEnd bin s
  | .binFullInput bin level => Sys2Proof.Machine.execBinFullInput bin level s
  | .doorInput level => Sys2Proof.Machine.execDoorInput level s
  | .extStopInput level => Sys2Proof.Machine.execExtStopInput level s
  | .beltStall => Sys2Proof.Machine.execBeltStall s
  | .startDone => Sys2Proof.Machine.execStartDone s
  | .startTimerExpiry => Sys2Proof.Machine.execStartTimerExpiry s
  | .linkLoss => Sys2Proof.Machine.execLinkLoss s
  | .warmDone side => Sys2Proof.Machine.execWarmDone side s
  | .saverExpiry => Sys2Proof.Machine.execSaverExpiry s
  | .beaconFlash => Sys2Proof.Machine.execBeaconFlash s
  | .byteReceived byte => Sys2Proof.Machine.execByteReceived byte s
  | .interByteTimeout => Sys2Proof.Machine.execInterByteTimeout s
  | .lineBreak => Sys2Proof.Machine.execLineBreak s
  | .frameSent => Sys2Proof.Machine.execFrameSent s
  | .unknownCode => Sys2Proof.Machine.execUnknownCode s
  | .setGeometry => Sys2Proof.Machine.execSetGeometry s
  | .getGeometry => Sys2Proof.Machine.execGetGeometry s
  | .tableRead => Sys2Proof.Machine.execTableRead s
  | .setDetect => Sys2Proof.Machine.execSetDetect s
  | .getDetect => Sys2Proof.Machine.execGetDetect s
  | .setTrim => Sys2Proof.Machine.execSetTrim s
  | .setLamp => Sys2Proof.Machine.execSetLamp s
  | .lampStatus => Sys2Proof.Machine.execLampStatus s
  | .setDecide => Sys2Proof.Machine.execSetDecide s
  | .exerciseGate => Sys2Proof.Machine.execExerciseGate s
  | .exerciseFlap => Sys2Proof.Machine.execExerciseFlap s
  | .exerciseHead => Sys2Proof.Machine.execExerciseHead s
  | .setCancel => Sys2Proof.Machine.execSetCancel s
  | .loadPlate => Sys2Proof.Machine.execLoadPlate s
  | .selectPlate => Sys2Proof.Machine.execSelectPlate s
  | .plateRead => Sys2Proof.Machine.execPlateRead s
  | .setPlan => Sys2Proof.Machine.execSetPlan s
  | .setBin => Sys2Proof.Machine.execSetBin s
  | .binClose => Sys2Proof.Machine.execBinClose s
  | .binRelease => Sys2Proof.Machine.execBinRelease s
  | .binStatus => Sys2Proof.Machine.execBinStatus s
  | .tallyLatch => Sys2Proof.Machine.execTallyLatch s
  | .tallyRead => Sys2Proof.Machine.execTallyRead s
  | .run => Sys2Proof.Machine.execRun s
  | .finish => Sys2Proof.Machine.execFinish s
  | .halt => Sys2Proof.Machine.execHalt s
  | .causeClear => Sys2Proof.Machine.execCauseClear s
  | .setCauses => Sys2Proof.Machine.execSetCauses s
  | .status => Sys2Proof.Machine.execStatus s
  | .faultRead => Sys2Proof.Machine.execFaultRead s
  | .calStart => Sys2Proof.Machine.execCalStart s
  | .calApply => Sys2Proof.Machine.execCalApply s
  | .calAbort => Sys2Proof.Machine.execCalAbort s
  | .traceArm => Sys2Proof.Machine.execTraceArm s
  | .traceDisarm => Sys2Proof.Machine.execTraceDisarm s
  | .setNotices => Sys2Proof.Machine.execSetNotices s
  | .linkStatus => Sys2Proof.Machine.execLinkStatus s
  | .reset => Sys2Proof.Machine.execReset s
  | .warmReset => Sys2Proof.Machine.execWarmReset s

end Sys2Proof.Machine
end

