-- ==== Sys2Proof/Machine/Step.lean ====
section
/-! DEFINITION. One step of the machine: the command at the front of the queue, or, on an empty queue, the
controller's own next step that is due, or else the passing of one millisecond (log 4). -/

namespace Sys2Proof.Machine

/-- A step on an empty queue (log 4): what is due is taken; with nothing due, one millisecond passes. -/
def idleStep (s : State) : Host.Outcome State Fault Refusal :=
  match nextDue s with
  | some c => exec c s
  | none => .next (advance 1 s)

/-- One step: the front command is executed on the state with the queue's rest. -/
def step (s : State) : Host.Outcome State Fault Refusal :=
  match s.pending with
  | [] => idleStep s
  | c :: rest => exec c { s with pending := rest }

/-- The command that a word spells put at the front of the queue. No row of the table gives bits, so no word
spells one, and the state is unchanged. -/
def State.withFetchWord (s : State) (nbits w : Nat) : State :=
  match decodeTableWord nbits w with
  | some c => { s with pending := c :: s.pending }
  | none => s

end Sys2Proof.Machine
end

