-- ==== Sys2Proof/Safety.lean ====
section
/-! DEFINITION. What counts as a legal state: the invariants the spec states of the whole controller, each a
property of State that every step keeps, and the words the statements use. -/

namespace Sys2Proof.Safety

open Sys2Proof.Machine

/-! ### Tallies (R124, R125, R129) -/

/-- The relation of R124 in one tally set: ENTERED − COMMITTED − PURGED is the occupancy less BASE_OCC. -/
def EntriesBalance (t : TallySet) (occ base : Nat) : Prop :=
  t.entered - t.committed - t.purged = BitVec.ofNat 32 occ - BitVec.ofNat 32 base

/-- The relation of R125 in one tally set: COMMITTED is the sum of the OUTCOME counters and of the BIN
counters. -/
def CommitsAdd (t : TallySet) : Prop :=
  t.committed = t.outcome.toList.sum ∧ t.committed = t.bin.toList.sum

/-- What R124 and R125 give a held snapshot; its BASE_OCC is the one in force (R129). -/
def SnapshotAgrees (base : Nat) (n : Snapshot) : Prop :=
  n.baseOcc = base ∧ EntriesBalance n.life n.occupancy 0 ∧ EntriesBalance n.shift n.occupancy n.baseOcc ∧
    CommitsAdd n.life ∧ CommitsAdd n.shift

/-- The relations of R124 and R125 in both sets and in the held snapshot. -/
def TalliesAgree (s : State) : Prop :=
  EntriesBalance s.tally.life (occupancy s) 0 ∧ EntriesBalance s.tally.shift (occupancy s) s.tally.baseOcc ∧
    CommitsAdd s.tally.life ∧ CommitsAdd s.tally.shift ∧
    ∀ n ∈ s.tally.held, SnapshotAgrees s.tally.baseOcc n

/-! ### Capacities (R7, R46, R48, R68, R92, R108, R170, R173) -/

/-- The letter table holds at most 32 tickets, each with at most 6 marks (R7, R46). -/
def TableFits (s : State) : Prop :=
  s.tracker.table.length ≤ Config.tableSize ∧
    ∀ t ∈ s.tracker.table, t.marks.length ≤ Config.markListSize

/-- Each window ring holds at most 128 windows (R48). -/
def RingsFit (s : State) : Prop := ∀ c ∈ s.channels.toList, c.ring.length ≤ Config.ringSize

/-- The gate, strike and flap queues hold at most 8, 8 each and 16 entries (R68, R92, R108). -/
def QueuesFit (s : State) : Prop :=
  s.gate.queue.length ≤ Config.gateQueueSize ∧
    (∀ u ∈ s.cancel.heads.toList, u.queue.length ≤ Config.strikeQueueSize) ∧
    s.stacker.queue.length ≤ Config.flapQueueSize

/-- The inbound buffer holds at most 4 frames, the outbound queue at most 60 notices, and at most 4 reply
slots are held (R170, R171, R173). -/
def LinkFits (s : State) : Prop :=
  s.link.inbound.length ≤ Config.inboundSize ∧ sharedUsed s.link ≤ Config.sharedSlots ∧
    slotsHeld s ≤ Config.replySlots

/-! ### Run state, causes and beacon (R7, R139, R141, R151) -/

/-- In IDLE, STARTING and STOPPED the letter table is empty (R7). -/
def TableMatchesRun (s : State) : Prop := tracks s.run.state = false → s.tracker.table = []

/-- The start timer and the start position belong to STARTING alone (R139). -/
def StartMatchesRun (s : State) : Prop :=
  s.run.state ≠ .starting → s.run.startTimer = none ∧ s.run.startPos = none

/-- A cause is in service only while it is unmasked (R141). -/
def ServiceUnmasked (s : State) : Prop :=
  ∀ c ∈ s.run.causes.toList, c.inService = true → c.masked = false

/-- The beacon follows the table of R151: steady in STOPPED, flashing on its condition, else off. -/
def BeaconFollows (s : State) : Prop :=
  match s.run.beacon with
  | .steady => s.run.state = .stopped
  | .flashOn _ => flashWanted s = true
  | .flashOff _ => flashWanted s = true
  | .off => s.run.state ≠ .stopped ∧ flashWanted s = false

/-! ### Throttle, bins, heads, tickets, baselines -/

/-- The geometry in force passes every check of R5. -/
def GeometryLegal (s : State) : Prop := s.tracker.geometry.badField = none

/-- The throttle is on from the hold mark up and off from the hold mark less 4 down (R21). -/
def ThrottleFollows (s : State) : Prop :=
  (s.tracker.geometry.holdMark ≤ occupancy s → s.tracker.throttle = true) ∧
    (occupancy s + 4 ≤ s.tracker.geometry.holdMark → s.tracker.throttle = false)

/-- The base of a bin and a pending base lie in 1 to 5000, and its current count between 0 and its base, 0
exactly while it is CLOSED (R105). -/
def BinLegal (r : BinRecord) : Prop :=
  (1 ≤ r.base ∧ r.base ≤ 5000) ∧ (∀ n ∈ r.pendingBase, 1 ≤ n ∧ n ≤ 5000) ∧ r.current ≤ r.base ∧
    (r.current = 0 ↔ r.state = .closed)

/-- Every bin record is legal (R105). -/
def BinsLegal (s : State) : Prop := ∀ r ∈ s.stacker.bins.toList, BinLegal r

/-- A head is DISABLED exactly while its fault input is active or its enable is off (R95). -/
def HeadsFollowBars (s : State) : Prop :=
  ∀ h ∈ [Head.a, .b], ((s.cancel.heads.get h).state = .disabled ↔ headBarred s h = true)

/-- A DECIDED ticket has its class, required path, head, path taken, strike result and outcome (R9, R61 to
R65). -/
def DecidedWhole (t : Ticket) : Prop :=
  t.state = .decided →
    t.cls.isSome ∧ t.required.isSome ∧ t.head.isSome ∧ t.taken.isSome ∧ t.strike.isSome ∧ t.outcome.isSome

/-- Every DECIDED ticket of the table is whole. -/
def DecisionsWhole (s : State) : Prop := ∀ t ∈ s.tracker.table, DecidedWhole t

/-- Every sample a channel holds is at most 255 (R26). -/
def SamplesInRange (xs : List Sample) : Prop := ∀ x ∈ xs, x.f ≤ 255 ∧ x.p ≤ 255

/-- A channel's samples are at most 255 and its baselines at most 4080 (R26, R35, R38). -/
def ChannelInRange (c : ScanChannel) : Prop :=
  SamplesInRange c.gap.samples ∧ SamplesInRange c.leadIn ∧ SamplesInRange c.recent ∧
    (∀ sp ∈ c.spans, SamplesInRange sp.samples) ∧
    c.bp ≤ 4080 ∧ c.bf ≤ 4080

/-- Every channel is in range. -/
def ReadingsInRange (s : State) : Prop := ∀ c ∈ s.channels.toList, ChannelInRange c

/-! ### Words for requests (R171, R172) -/

/-- The link can take the oldest frame of the inbound buffer (R171). -/
def CanTake (s : State) (f : InFrame) (rest : List InFrame) : Prop :=
  s.link.inbound = f :: rest ∧ s.link.reset = .none ∧ slotsHeld s < Config.replySlots

/-- The state with that frame removed from the buffer. -/
def took (rest : List InFrame) (s : State) : State := { s with link := { s.link with inbound := rest } }

/-- The state with the reply to a frame at the young end of the outbound queue (R171, R173). -/
def answered (f : InFrame) (b : ReplyBody) (s : State) : State :=
  { s with link := { s.link with outbound := s.link.outbound ++ [.reply f.code f.tag b] } }

/-- The answer to a frame taken and carried out on a state. -/
def okAfter (f : InFrame) (fields : List Byte) (s : State) : Host.Outcome State Fault Refusal :=
  .next (answered f (.ok fields) s)

/-- The answer to a frame taken and refused: nothing else changes (R172). -/
def refusedAfter (f : InFrame) (r : Reason) (rest : List InFrame) (s : State) :
    Host.Outcome State Fault Refusal :=
  .next (answered f (.refused r) (took rest s))

/-- The rows that are requests (R183). -/
def requestRows : List Instr :=
  [.unknownCode, .setGeometry, .getGeometry, .tableRead, .setDetect, .getDetect, .setTrim, .setLamp,
   .lampStatus, .setDecide, .exerciseGate, .exerciseFlap, .exerciseHead, .setCancel, .loadPlate,
   .selectPlate, .plateRead, .setPlan, .setBin, .binClose, .binRelease, .binStatus, .tallyLatch,
   .tallyRead, .run, .finish, .halt, .causeClear, .setCauses, .status, .faultRead, .calStart, .calApply,
   .calAbort, .traceArm, .traceDisarm, .setNotices, .linkStatus, .reset]

/-- The requests that carry no fields, with their codes (R183). -/
def bareRequests : List (Byte × Instr) :=
  [(0x11, .getGeometry), (0x12, .tableRead), (0x24, .lampStatus), (0x43, .plateRead), (0x54, .binStatus),
   (0x60, .tallyLatch), (0x70, .run), (0x71, .finish), (0x72, .halt), (0x75, .status), (0x81, .calApply),
   (0x82, .calAbort), (0x84, .traceDisarm), (0x91, .linkStatus), (0x92, .reset)]

/-- The request codes of R183. -/
def requestCodes : List Byte :=
  [0x10, 0x11, 0x12, 0x20, 0x21, 0x22, 0x23, 0x24, 0x30, 0x38, 0x40, 0x41, 0x42, 0x43, 0x50, 0x51, 0x52,
   0x53, 0x54, 0x60, 0x61, 0x70, 0x71, 0x72, 0x73, 0x74, 0x75, 0x76, 0x80, 0x81, 0x82, 0x83, 0x84, 0x90,
   0x91, 0x92]

/-- Bytes received one after another, each as its own command; a fault or refusal stops the run. -/
def hearBytes : List Byte → State → Host.Outcome State Fault Refusal
  | [], s => .next s
  | b :: rest, s =>
    match exec (.byteReceived b) s with
    | .next t => hearBytes rest t
    | .fault r => .fault r
    | .refused r => .refused r

/-! ### Words for posts, tickets and edges -/

/-- Both tally sets with one change made to each (R122). -/
def inBothSets (f : TallySet → TallySet) (s : State) : State :=
  { s with tally := { s.tally with life := f s.tally.life, shift := f s.tally.shift } }

/-- What is counted between two states (R122): the counters of a list rise by one in both sets, no other counter
changes, and the tally unit holds what it held. -/
def Posted (cs : List Counter) (s t : State) : Prop :=
  (∀ c : Counter,
    counterOf t.tally.life c = counterOf s.tally.life c + (if c ∈ cs then 1 else 0) ∧
    counterOf t.tally.shift c = counterOf s.tally.shift c + (if c ∈ cs then 1 else 0)) ∧
  t.tally = { s.tally with life := t.tally.life, shift := t.tally.shift }

/-- The state with another letter table. -/
def withTable (ts : List Ticket) (s : State) : State := { s with tracker := { s.tracker with table := ts } }

/-- The state with other accepted edges waiting. -/
def withEdges (es : List Edge) (s : State) : State := { s with tracker := { s.tracker with edges := es } }

/-- The edges that wait stand as `before`, then this one, then `behind`, and none before it is of its cell
and kind. -/
def OldestEdge (s : State) (before : List Edge) (e : Edge) (behind : List Edge) : Prop :=
  s.tracker.edges = before ++ e :: behind ∧ ∀ x ∈ before, ¬(x.cell = e.cell ∧ x.leading = e.leading)

/-- A table with one ticket rewritten by number. -/
def rewrite (n : U16) (f : Ticket → Ticket) (ts : List Ticket) : List Ticket :=
  ts.map fun t => if t.number = n then f t else t

/-- The "at creation" column of R8. -/
def blankTicket : Ticket where
  number := 0
  state := .entering
  lead := 0
  trail := none
  length := none
  gap := none
  seenG := false
  seenM := false
  seenK := false
  size := none
  cold := ⟨false, false⟩
  marks := []
  cls := none
  required := none
  head := none
  taken := none
  pathForced := false
  band := none
  strike := none
  outcome := none
  bin := none
  binForced := false
  gapShort := false
  secondary := false
  manyMarks := false
  gateUnconfirmed := false
  pmShort := false
  noPostmark := false
  spanStarted := false
  longChecked := false
  stuckChecked := false
  missed := false

/-- The numbers of the table's tickets are all different (R7). -/
def NumbersDiffer (s : State) : Prop := (s.tracker.table.map Ticket.number).Nodup

end Sys2Proof.Safety
end

