-- ==== Sys2Proof/Certificates/Slice0/Obligations.lean ====
section
/-! DEFINITION. The statements for the provers. Each docstring names the rules of the spec it rests on. A
statement of an event command gives the next state itself, so that it is also the command's frame: a field
it does not name is unchanged. The shared operations it names (a request of a stop cause, a notice handed
to the link, a purge, the passing of time) have statements of their own below. -/

open Sys2Proof Sys2Proof.Machine Sys2Proof.Safety

/-! ### The machine -/

/-- A step takes the command at the front of the queue and executes it on the state with the queue's rest. On an
empty queue it executes the controller's own step that is due, or else lets one millisecond pass. The queue
and what an empty one does are the model's choices (logs 7 and 4). -/
def Obligations.StepRunsFrontCommand : Prop :=
  (∀ (c : Instr) (rest : List Instr) (s : State),
     s.pending = c :: rest → step s = exec c { s with pending := rest }) ∧
  (∀ s : State, s.pending = [] →
     (∀ c, nextDue s = some c → step s = exec c s) ∧ (nextDue s = none → step s = .next (advance 1 s)))

/-! ### Invariants every step keeps -/

/-- R124 and R125: the tally relations hold in both sets and in the held snapshot. -/
def Obligations.TalliesAgreeKept : Prop :=
  ∀ s t : State, TalliesAgree s → step s = .next t → TalliesAgree t

/-- R7, R46, R48, R68, R92, R108, R170, R171, R173: the table, the mark lists, the rings, the queues of the
gate, the heads and the flaps, the inbound buffer, the shared area and the reply slots keep their capacities.
-/
def Obligations.CapacitiesKept : Prop :=
  ∀ s t : State, TableFits s ∧ RingsFit s ∧ QueuesFit s ∧ LinkFits s → step s = .next t →
    TableFits t ∧ RingsFit t ∧ QueuesFit t ∧ LinkFits t

/-- R7, R139, R141, R151: outside RUNNING, HELD and DRAINING the table is empty, and the start timer and
start position belong to STARTING alone; a cause is in service only while it is unmasked; the beacon follows
the run state and the cause table. -/
def Obligations.RunControlLegalKept : Prop :=
  ∀ s t : State, TableMatchesRun s ∧ StartMatchesRun s ∧ ServiceUnmasked s ∧ BeaconFollows s →
    step s = .next t →
    TableMatchesRun t ∧ StartMatchesRun t ∧ ServiceUnmasked t ∧ BeaconFollows t

/-- R5, R21: the geometry in force passes its checks, and the throttle follows the occupancy. -/
def Obligations.ThrottleFollowsKept : Prop :=
  ∀ s t : State, GeometryLegal s ∧ ThrottleFollows s → step s = .next t →
    GeometryLegal t ∧ ThrottleFollows t

/-- R105: each bin's current count lies between 0 and its base, and is 0 exactly while it is CLOSED. -/
def Obligations.BinsLegalKept : Prop :=
  ∀ s t : State, BinsLegal s → step s = .next t → BinsLegal t

/-- R95: a head is DISABLED exactly while its fault input is active or its enable is off. -/
def Obligations.HeadsFollowBarsKept : Prop :=
  ∀ s t : State, HeadsFollowBars s → step s = .next t → HeadsFollowBars t

/-- R9, R61 to R65: a DECIDED ticket has its class, required path, head, path taken, strike result and
outcome. -/
def Obligations.DecisionsWholeKept : Prop :=
  ∀ s t : State, DecisionsWhole s → step s = .next t → DecisionsWhole t

/-- R26, R35, R38: samples stay at most 255 and baselines at most 4080. -/
def Obligations.ReadingsInRangeKept : Prop :=
  ∀ s t : State, ReadingsInRange s → step s = .next t → ReadingsInRange t

/-- The state after power-on reset meets every invariant above. The reset values of logs 7, 8, 9, 24 and 28
are the model's. -/
def Obligations.ResetMeetsInvariants : Prop :=
  TalliesAgree State.reset ∧ TableFits State.reset ∧ RingsFit State.reset ∧ QueuesFit State.reset ∧
    LinkFits State.reset ∧ TableMatchesRun State.reset ∧ StartMatchesRun State.reset ∧
    ServiceUnmasked State.reset ∧ BeaconFollows State.reset ∧ GeometryLegal State.reset ∧
    ThrottleFollows State.reset ∧ BinsLegal State.reset ∧ HeadsFollowBars State.reset ∧
    DecisionsWhole State.reset ∧ ReadingsInRange State.reset

/-! ### The link -/

/-- R167, R168, R170: a frame of any CODE, TAG and payload of the inbound range, whose bytes a hunting
receiver hears one after another, is buffered as that frame, with the link-loss timer restarted. -/
def Obligations.FrameHeardByteByByte : Prop :=
  ∀ (code tag : Byte) (payload : List Byte) (s : State),
    payload.length ≤ 254 → s.link.receiver = .hunting → s.link.inbound.length < 4 →
    hearBytes (frameBytes code tag payload) s = .next { s with
      link := { s.link with inbound := s.link.inbound ++ [⟨code, tag, payload⟩] }
      run := { s.run with sinceLink := 0, linkRaised := false, lastValid := s.uptime } }

/-- R168, R169: while hunting a byte other than A5h changes nothing and A5h begins a candidate; a LEN outside 2 to
256 is counted, and the hunt goes on with the byte after the candidate's SYNC (here the two LEN bytes, neither of
them A5h). R169: 5 ms without a byte, or a break, breaks a frame in reception; while hunting neither counts. R168,
R170: the byte that completes a frame whose CHECK disagrees counts FRAMES_BAD, and the bytes after the candidate's
SYNC are examined as bytes received afresh, as they are after a LEN out of range (first told for bytes without A5h,
then for any); one that completes a valid frame with four frames buffered counts REQUESTS_DROPPED and restarts the
link-loss timer. That INTER_BYTE_TIMEOUT lets the rest of the 5 ms pass, and does nothing while hunting, are the
model's choices (logs 5 and 2). -/
def Obligations.ReceiverFaultsCounted : Prop :=
  ((∀ (b : Byte) (s : State), s.link.receiver = .hunting → b ≠ 0xA5 → exec (.byteReceived b) s = .next s) ∧
   (∀ s : State, s.link.receiver = .hunting →
     exec (.byteReceived 0xA5) s = .next { s with link := { s.link with receiver := .inFrame [] 5 } }) ∧
   (∀ (hi lo : Byte) (left : Nat) (s : State), s.link.receiver = .inFrame [hi] left →
     hi ≠ 0xA5 → lo ≠ 0xA5 → (256 * hi.toNat + lo.toNat < 2 ∨ 256 < 256 * hi.toNat + lo.toNat) →
     exec (.byteReceived lo) s = .next { s with link := { s.link with
       receiver := .hunting, oversize := min 65535 (s.link.oversize + 1) } })) ∧
  ((∀ (held : List Byte) (left : Nat) (s : State), s.link.receiver = .inFrame held left →
     exec .interByteTimeout s = .next { advance left s with link := { (advance left s).link with
       receiver := .hunting, broken := min 65535 (s.link.broken + 1) } } ∧
     exec .lineBreak s = .next { s with link := { s.link with
       receiver := .hunting, broken := min 65535 (s.link.broken + 1) } }) ∧
   (∀ s : State, s.link.receiver = .hunting →
     exec .lineBreak s = .next s ∧ exec .interByteTimeout s = .next s)) ∧
  (∀ (body : List Byte) (hi lo : Byte) (left : Nat) (s : State), 2 ≤ body.length → body.length ≤ 256 →
     s.link.receiver = .inFrame (u16 body.length ++ body ++ [hi]) left →
     ([hi, lo] ≠ word16 (crc (u16 body.length ++ body)) →
       (∀ b ∈ u16 body.length ++ body ++ [hi, lo], b ≠ 0xA5) →
       exec (.byteReceived lo) s = .next { s with link := { s.link with
         receiver := .hunting, bad := min 65535 (s.link.bad + 1) } }) ∧
     ([hi, lo] = word16 (crc (u16 body.length ++ body)) → 4 ≤ s.link.inbound.length →
       exec (.byteReceived lo) s = .next { s with
         link := { s.link with receiver := .hunting, dropped := min 65535 (s.link.dropped + 1) }
         run := { s.run with sinceLink := 0, linkRaised := false, lastValid := s.uptime } })) ∧
  ((∀ (hi lo : Byte) (left : Nat) (s : State), s.link.receiver = .inFrame [hi] left →
     (256 * hi.toNat + lo.toNat < 2 ∨ 256 < 256 * hi.toNat + lo.toNat) →
     exec (.byteReceived lo) s = hearBytes [hi, lo] { s with link := { s.link with
       receiver := .hunting, oversize := min 65535 (s.link.oversize + 1) } }) ∧
   (∀ (body : List Byte) (hi lo : Byte) (left : Nat) (s : State), 2 ≤ body.length → body.length ≤ 256 →
     s.link.receiver = .inFrame (u16 body.length ++ body ++ [hi]) left →
     [hi, lo] ≠ word16 (crc (u16 body.length ++ body)) →
     exec (.byteReceived lo) s = hearBytes (u16 body.length ++ body ++ [hi, lo]) { s with link := { s.link with
       receiver := .hunting, bad := min 65535 (s.link.bad + 1) } }))

/-- R173, R176, R178: the end of a frame's sending takes the oldest frame from the queue, starts the warm reset
where it was the reply of a waiting RESET, and tests the LOST condition: with a lost count above 0 and 16 shared
slots free a LOST notice joins the queue and the three counts are set to 0. That the test is made also at the end
of the RESET reply is the model's reading (log 26), and `line` is the model's own field (log 28). -/
def Obligations.FrameSentFreesSlot : Prop :=
  ∀ (f : OutFrame) (rest : List OutFrame) (s : State),
    s.link.outbound = f :: rest → s.link.reset ≠ .acting →
    let l : Link := { s.link with
      outbound := rest
      line := lineBytes f
      reset := if s.link.reset = .waiting ∧ isResetReply f = true then .acting else s.link.reset }
    exec .frameSent s = .next { s with link :=
      if (0 < l.reportsLost ∨ 0 < l.tracesLost ∨ 0 < l.eventsLost) ∧ sharedUsed l + 16 ≤ 60 then
        { l with
          outbound := rest ++ [.notice (.lost l.reportsLost l.tracesLost l.eventsLost s.uptime)]
          reportsLost := 0
          tracesLost := 0
          eventsLost := 0 }
      else l }

/-- R174, R175: a notice handed to the link. A disabled LETTER is dropped uncounted, a disabled TRACE counted in
TRACES_LOST; a notice that its enable lets through is placed at the young end where the shared area has room; in
a full area a bulk notice is dropped and counted, and an event notice takes the place of the newest bulk notice
not begun, or is dropped and counted where there is none. Which notice gives its place rests on which frame is
being sent, and that the oldest frame is whenever the queue is not empty is the model's choice (log 10). -/
def Obligations.NoticePlacedOrJudged : Prop :=
  (∀ (r : LetterReport) (s : State), s.link.letterEnable = false → handNotice (.letter r) s = s) ∧
  (∀ (r : TraceReport) (s : State), s.link.traceEnable = false → handNotice (.trace r) s =
    testLost { s with link := { s.link with tracesLost := min 65535 (s.link.tracesLost + 1) } }) ∧
  (∀ (n : Notice) (s : State), (∀ r, n = .letter r → s.link.letterEnable = true) →
    (∀ r, n = .trace r → s.link.traceEnable = true) → sharedUsed s.link < 60 →
    handNotice n s = { s with link := { s.link with outbound := s.link.outbound ++ [.notice n] } }) ∧
  (∀ (n : Notice) (s : State), isBulk (.notice n) = true → 60 ≤ sharedUsed s.link →
    (∀ r, n = .letter r → s.link.letterEnable = true) →
    handNotice n s = testLost { s with link := countLost (.notice n) s.link }) ∧
  (∀ (n : Notice) (s : State) (before behind : List OutFrame) (gone : OutFrame),
    isBulk (.notice n) = false → 60 ≤ sharedUsed s.link → s.link.outbound = before ++ gone :: behind →
    begun s.link ≤ before.length → isBulk gone = true → (∀ x ∈ behind, isBulk x = false) →
    handNotice n s = testLost { s with link := { countLost gone s.link with
      outbound := before ++ behind ++ [.notice n] } }) ∧
  (∀ (n : Notice) (s : State), isBulk (.notice n) = false → 60 ≤ sharedUsed s.link →
    (∀ x ∈ s.link.outbound.drop (begun s.link), isBulk x = false) →
    handNotice n s = testLost { s with link := { s.link with
      eventsLost := min 65535 (s.link.eventsLost + 1) } })

/-- R171: a request command does nothing while the buffer is empty, while all four reply slots are held, or
while a RESET waits or acts. R172, R183: a frame whose CODE is no request code is refused UNKNOWN_CODE, and
nothing else changes. R172: a request that carries no fields, sent with a field, is refused BAD_LENGTH, and
nothing else changes. That a request command then changes nothing is the model's choice (logs 1 and 2). -/
def Obligations.RequestsWaitOrRefuse : Prop :=
  (∀ c ∈ requestRows, ∀ s : State,
     s.link.inbound = [] ∨ 4 ≤ slotsHeld s ∨ s.link.reset ≠ .none → exec c s = .next s) ∧
  (∀ (f : InFrame) (rest : List InFrame) (s : State), CanTake s f rest → f.code ∉ requestCodes →
     exec .unknownCode s = refusedAfter f .unknownCode rest s) ∧
  (∀ p ∈ bareRequests, ∀ (f : InFrame) (rest : List InFrame) (s : State),
     CanTake s f rest → f.code = p.1 → f.payload ≠ [] → exec p.2 s = refusedAfter f .badLength rest s)

/-- R6, R23, R88, R120, R152: the requests that only read answer OK with their fields in every run state, and
change nothing but the two ends of the link. R32, R177: LAMP_STATUS and LINK_STATUS answer OK, and set to 0
the counts their replies carried: the two wake-error counts; the four frame counters and three lost counts.
Where R181 leaves a reply's bytes open their layout is the model's choice (log 17); so are the buffered count
of LINK_STATUS, which is taken after the request's own frame has left the buffer (log 21), and STATUS's
beacon byte, which is the output at that moment (log 31). -/
def Obligations.ReadingRequestsAnswer : Prop :=
  (∀ (f : InFrame) (rest : List InFrame) (s : State), CanTake s f rest → f.payload = [] →
     (f.code = 0x11 → exec .getGeometry s = okAfter f (encGeometry s.tracker.geometry) (took rest s)) ∧
     (f.code = 0x12 → exec .tableRead s = okAfter f (encTable s) (took rest s)) ∧
     (f.code = 0x43 → exec .plateRead s = okAfter f (encPlates s.cancel) (took rest s)) ∧
     (f.code = 0x54 → exec .binStatus s = okAfter f (encBinStatus s) (took rest s)) ∧
     (f.code = 0x75 → exec .status s = okAfter f (encStatus s) (took rest s))) ∧
  (∀ (f : InFrame) (rest : List InFrame) (s : State), CanTake s f rest → f.payload = [] →
     (f.code = 0x24 → exec .lampStatus s =
       okAfter f (encLamps s.lamps) { took rest s with lamps := { s.lamps with wakeErrors := ⟨0, 0⟩ } }) ∧
     (f.code = 0x91 → exec .linkStatus s =
       okAfter f (encLink (took rest s).link) { s with link := { s.link with
         inbound := rest
         oversize := 0
         bad := 0
         broken := 0
         dropped := 0
         reportsLost := 0
         tracesLost := 0
         eventsLost := 0 } }))

/-- R55, R84, R104, R146, R174: a setting request without fields changes nothing and answers OK with the
settings in force. R55, R174: a valid SET_DECIDE and a valid SET_NOTICES install their fields at once and
answer OK with the settings now in force. -/
def Obligations.SettingsReadOrInstalled : Prop :=
  (∀ (f : InFrame) (rest : List InFrame) (s : State), CanTake s f rest → f.payload = [] →
     (f.code = 0x30 → exec .setDecide s = okAfter f (encDecide s.facing.record) (took rest s)) ∧
     (f.code = 0x40 → exec .setCancel s = okAfter f (encCancel s.cancel.record) (took rest s)) ∧
     (f.code = 0x50 → exec .setPlan s = okAfter f (encPlan s.stacker.plan) (took rest s)) ∧
     (f.code = 0x74 → exec .setCauses s = okAfter f (encCauses s.run) (took rest s)) ∧
     (f.code = 0x90 → exec .setNotices s =
       okAfter f (flag s.link.letterEnable ++ flag s.link.traceEnable) (took rest s))) ∧
  (∀ (f : InFrame) (rest : List InFrame) (s : State), CanTake s f rest →
     (∀ r : DecideRecord, f.code = 0x30 → 12 ≤ r.dom8 → r.dom8 ≤ 32 → r.floor ≤ 65535 →
       f.payload = encDecide r →
       exec .setDecide s = okAfter f (encDecide r)
         { took rest s with facing := { s.facing with record := r } }) ∧
     (∀ letter trace : Bool, f.code = 0x90 → f.payload = flag letter ++ flag trace →
       exec .setNotices s = okAfter f (flag letter ++ flag trace) { s with link := { s.link with
         inbound := rest, letterEnable := letter, traceEnable := trace } }))

/-- R104: SET_PLAN with all 24 fields in range installs the plan; with all 24 and some field out of range it
is refused BAD_VALUE with the number of the first; with none it reads the plan; with any other number of
fields it is refused BAD_LENGTH. A refusal and a read change nothing. The run state plays no part. -/
def Obligations.SetPlanInstallsOrRefuses : Prop :=
  ∀ (f : InFrame) (rest : List InFrame) (s : State), CanTake s f rest → f.code = 0x50 →
    let inRange := fun (i : Nat) (b : Byte) => (1 - i % 2) ≤ b.toNat ∧ b.toNat ≤ 6
    (∀ plan : PerOutcome PlanRow, f.payload = encPlan plan →
      exec .setPlan s = okAfter f (encPlan plan)
        { took rest s with stacker := { s.stacker with plan := plan } }) ∧
    (∀ (i : Nat) (h : i < f.payload.length), f.payload.length = 24 → ¬inRange i f.payload[i] →
      (∀ (j : Nat) (g : j < i), inRange j (f.payload[j]'(Nat.lt_trans g h))) →
      exec .setPlan s = refusedAfter f (.badValue (i + 1)) rest s) ∧
    (f.payload = [] → exec .setPlan s = okAfter f (encPlan s.stacker.plan) (took rest s)) ∧
    (f.payload ≠ [] → f.payload.length ≠ 24 → exec .setPlan s = refusedAfter f .badLength rest s)

/-! ### Settings of the tracker, the channels and the lamps -/

/-- R5, R2, R21: SET_GEOMETRY of a record that passes every check, taken in IDLE, replaces the record, sets every
run count to 0, keeps the accepted levels and re-evaluates the throttle; outside IDLE it is refused with the run
state and nothing changes. R4, R5: outside IDLE any record is refused so; in IDLE one that fails is refused
BAD_VALUE with the first field out of its range, else the first place not greater than the one before it, else 3, 7
or 8 for the margins. R27, R41: with no calibration on the channel, a valid SET_TRIM installs the code, sets both
baselines to 0 and the fast-acquire count to 8, and a valid SET_DETECT makes its record the pending record; no
other channel changes. With a calibration on the channel its ABORTED notice comes besides (R161). R27, R40, R41:
SET_TRIM and SET_DETECT with a field out of range are refused BAD_VALUE with the first such field. Each of another
length is BAD_LENGTH. A refusal changes nothing else. That the ABORTED notice goes before the reply, and that
SET_TRIM's carries the code just installed, are the model's choices (logs 33 and 36). -/
def Obligations.GeometryTrimAndDetectInstalled : Prop :=
  (∀ (f : InFrame) (rest : List InFrame) (s : State) (g : Geometry), CanTake s f rest → f.code = 0x10 →
     g.badField = none → f.payload = encGeometry g →
     (s.run.state = .idle →
       exec .setGeometry s = okAfter f [] { took rest s with tracker := { s.tracker with
         geometry := g
         filters := s.tracker.filters.map fun x => ⟨x.dark, 0⟩
         throttle :=
           if g.holdMark ≤ occupancy s then true else if occupancy s + 4 ≤ g.holdMark then false
           else s.tracker.throttle } }) ∧
     (s.run.state ≠ .idle →
       exec .setGeometry s = refusedAfter f (.wrongState (runStateNumber s.run.state)) rest s)) ∧
  (∀ (f : InFrame) (rest : List InFrame) (s : State) (c : Channel), CanTake s f rest →
     let k := s.channels.get c
     (∀ code : BitVec 4, f.code = 0x22 → f.payload = u8 (channelNumber c) ++ u8 code.toNat →
       exec .setTrim s = okAfter f [] (abortCalOf c .setTrim { took rest s with
         channels := s.channels.set c { k with trim := code, bp := 0, bf := 0, fast := 8 } })) ∧
     (∀ h : Threshold, f.code = 0x20 → f.payload = u8 (channelNumber c) ++ encThreshold h →
       1 ≤ h.tagHigh → h.tagHigh ≤ 2040 → h.tagLow ≤ h.tagHigh → h.transLow ≤ h.transHigh →
       1 ≤ h.meterHigh → h.meterHigh ≤ 2040 → h.transHigh ≤ 7 → h.transLevel ≤ 255 → 16 ≤ h.minMark →
       h.minMark ≤ 400 →
       exec .setDetect s = okAfter f [] (abortCalOf c .setDetect { took rest s with
         channels := s.channels.set c { k with pendingRecord := some h } })) ∧
     ((∀ r ∈ calRunning s.cal, r.channel ≠ c) → ∀ why, abortCalOf c why s = s)) ∧
  (∀ (f : InFrame) (rest : List InFrame) (s : State), CanTake s f rest →
     let bad := fun x : Nat × Nat × Nat => x.1 < x.2.1 ∨ x.2.2 < x.1
     (∀ g : Geometry, f.code = 0x10 → f.payload = encGeometry g →
       let places := [g.scanLine, g.cellG, g.gate, g.cellM, g.cellK, g.headLine, g.cellS,
         g.flaps.f1, g.flaps.f2, g.flaps.f3, g.flaps.f4, g.flaps.f5]
       let fields := places.map (fun n => (n, 1, 20000)) ++
         [(g.jamTol, 10, 200), (g.filter, 1, 16), (g.minLen, 120, 400), (g.maxLen, g.minLen + 40, 800),
          (g.gateLead, 0, 200), (g.gateClear, 0, 200), (g.flapLead, 0, 200), (g.flapClear, 0, 200),
          (g.gateConfirm, 1, 100), (g.stallTime, 10, 1000), (g.startTime, 500, 10000),
          (g.startDistance, 100, 4000), (g.holdMark, 8, 31)]
       let scanned := g.scanLine + 8 * ((g.maxLen + 7) / 8 + 2)
       (∀ x ∈ places ++ [g.minLen, g.maxLen, g.stallTime, g.startTime, g.startDistance], x ≤ 65535) →
       (∀ x ∈ [g.jamTol, g.filter, g.gateLead, g.gateClear, g.flapLead, g.flapClear, g.gateConfirm, g.holdMark],
         x ≤ 255) →
       (s.run.state ≠ .idle →
         exec .setGeometry s = refusedAfter f (.wrongState (runStateNumber s.run.state)) rest s) ∧
       (s.run.state = .idle →
         (∀ (before behind : List (Nat × Nat × Nat)) (x : Nat × Nat × Nat), fields = before ++ x :: behind →
           (∀ z ∈ before, ¬bad z) → bad x →
           exec .setGeometry s = refusedAfter f (.badValue (before.length + 1)) rest s) ∧
         ((∀ z ∈ fields, ¬bad z) →
           (∀ (before behind : List Nat) (a b : Nat), places = before ++ a :: b :: behind →
             (before ++ [a]).Pairwise (· < ·) → b ≤ a →
             exec .setGeometry s = refusedAfter f (.badValue (before.length + 2)) rest s) ∧
           (places.Pairwise (· < ·) →
             (g.gate < scanned + 40 + g.gateLead → exec .setGeometry s = refusedAfter f (.badValue 3) rest s) ∧
             (scanned + 40 + g.gateLead ≤ g.gate →
               (g.cellS < g.headLine + g.maxLen + 40 →
                 exec .setGeometry s = refusedAfter f (.badValue 7) rest s) ∧
               (g.headLine + g.maxLen + 40 ≤ g.cellS →
                 (g.flaps.f1 < g.cellS + 40 + g.flapLead →
                   exec .setGeometry s = refusedAfter f (.badValue 8) rest s) ∧
                 (g.cellS + 40 + g.flapLead ≤ g.flaps.f1 → g.badField = none))))))) ∧
     (∀ c trim : Byte, f.code = 0x22 → f.payload = [c, trim] →
       (3 < c.toNat → exec .setTrim s = refusedAfter f (.badValue 1) rest s) ∧
       (c.toNat ≤ 3 → 15 < trim.toNat → exec .setTrim s = refusedAfter f (.badValue 2) rest s)) ∧
     (∀ (c : Byte) (h : Threshold), f.code = 0x20 → f.payload = c :: encThreshold h →
       h.tagHigh ≤ 65535 → h.tagLow ≤ 65535 → h.transLow ≤ 255 → h.meterHigh ≤ 65535 → h.transHigh ≤ 255 →
       h.transLevel ≤ 255 → h.minMark ≤ 65535 →
       ∀ (before behind : List (Nat × Nat × Nat)) (x : Nat × Nat × Nat),
         [(c.toNat, 0, 3), (h.tagHigh, 1, 2040), (h.tagLow, 0, h.tagHigh), (h.transLow, 0, 7),
          (h.meterHigh, 1, 2040), (h.transHigh, h.transLow, 7), (h.transLevel, 0, 255), (h.minMark, 16, 400)] =
           before ++ x :: behind →
         (∀ z ∈ before, ¬bad z) → bad x →
         exec .setDetect s = refusedAfter f (.badValue (before.length + 1)) rest s) ∧
     (f.code = 0x10 → f.payload.length ≠ 42 → exec .setGeometry s = refusedAfter f .badLength rest s) ∧
     (f.code = 0x22 → f.payload.length ≠ 2 → exec .setTrim s = refusedAfter f .badLength rest s) ∧
     (f.code = 0x20 → f.payload.length ≠ 12 → exec .setDetect s = refusedAfter f .badLength rest s))

/-- R42: GET_DETECT of a channel 0 to 3 answers OK, in every run state, with the record in force, the pending
record or its absence, the trim code, BP and BF, and the fast-acquire count; any other value is refused
BAD_VALUE with field 1. -/
def Obligations.GetDetectReadsChannel : Prop :=
  ∀ (f : InFrame) (rest : List InFrame) (s : State) (b : Byte), CanTake s f rest → f.code = 0x21 →
    f.payload = [b] →
    (∀ c : Channel, b.toNat = channelNumber c →
      let k := s.channels.get c
      exec .getDetect s = okAfter f
        (encThreshold k.inForce ++ optional 11 encThreshold k.pendingRecord ++ u8 k.trim.toNat ++ u16 k.bp ++
          u16 k.bf ++ u8 k.fast) (took rest s)) ∧
    (3 < b.toNat → exec .getDetect s = refusedAfter f (.badValue 1) rest s)

/-- R28, R29, R32: in AUTO a leading edge at E handed to lamp control restarts the saver timer and sends each lamp
in STANDBY to WARMING, others unchanged; in the other modes it changes nothing. The end of a warm-up makes its lamp
ON; in AUTO, with a saver time above 0, a saver expiry sends both lamps to STANDBY and stops the timer. R28 to R30:
SET_LAMP installs its record and acts on each lamp by its mode: in AUTO no lamp changes, in FORCE_ON a lamp in
STANDBY goes to WARMING with the new warm time, in FORCE_STANDBY every lamp goes to STANDBY. Only lamps and the
link change. That a timer's command lets the rest of its time pass, and that the saver timer stands in the other
modes and at saver time 0, are the model's choices (logs 5 and 23). -/
def Obligations.LampsWakeRestAndObey : Prop :=
  ((∀ s : State, s.lamps.record.mode ≠ .auto → lampEdge s = s) ∧
   (∀ s : State, s.lamps.record.mode = .auto →
     (∀ d : Side, (lampEdge s).lamps.state.get d =
       if s.lamps.state.get d = .standby then .warming s.lamps.record.warm else s.lamps.state.get d) ∧
     (0 < s.lamps.record.saver → (lampEdge s).lamps.saver = some s.lamps.record.saver) ∧
     lampEdge s = { s with lamps := (lampEdge s).lamps, link := (lampEdge s).link }) ∧
   (∀ (s : State) (d : Side) (left : Nat), s.lamps.state.get d = .warming left →
     exec (.warmDone d) s = .next (handNotice
       (.lamp d (.warming 0) .on .warmDone (s.uptime + BitVec.ofNat 32 left))
       { advance left s with lamps := { (advance left s).lamps with
         state := (advance left s).lamps.state.set d .on } })) ∧
   (∀ (s : State) (left : Nat), s.lamps.record.mode = .auto → 0 < s.lamps.record.saver →
     s.lamps.saver = some left → ∃ t : State, exec .saverExpiry s = .next t ∧
     t.lamps.state = ⟨.standby, .standby⟩ ∧ t.lamps.saver = none ∧ t.lamps.record = s.lamps.record ∧
     t = { advance left s with lamps := t.lamps, link := t.link })) ∧
  (∀ (f : InFrame) (rest : List InFrame) (s : State) (r : LampRecord), CanTake s f rest → f.code = 0x23 →
     f.payload = encLampRecord r → r.saver ≤ 600000 → 5 ≤ r.warm → r.warm ≤ 500 →
     ∃ t : State, exec .setLamp s = .next t ∧ t.lamps.record = r ∧
       t.lamps.wakeErrors = s.lamps.wakeErrors ∧
       (∀ d : Side, t.lamps.state.get d =
         match r.mode, s.lamps.state.get d with
         | .auto, l => l
         | .forceOn, .standby => .warming r.warm
         | .forceOn, l => l
         | .forceStandby, _ => .standby) ∧
       (r.mode = .auto → 0 < r.saver → t.lamps.saver = some r.saver) ∧
       t = { s with lamps := t.lamps, link := t.link })

/-- R83, R84, R95, R98: a valid SET_CANCEL installs the record and answers with it. A head that its fault
input or its enable bars becomes DISABLED, its waiting entry dropped; a DISABLED head that neither bars goes
RECHARGING with the new recharge time; any other head keeps its state. Without a waiting entry no ticket and
no tally changes, and without a test strike no gate state does. R86, R87: LOAD_PLATE writes a plate and a
zero impression count into a slot not in use, and is refused IN_USE for a slot in use; SELECT_PLATE makes a
holding slot active, or none for 0, and is refused BAD_VALUE with field 1 for an empty slot. -/
def Obligations.CancelSettingsInstalled : Prop :=
  (∀ (f : InFrame) (rest : List InFrame) (s : State) (r : CancelRecord), CanTake s f rest → f.code = 0x40 →
     f.payload = encCancel r → r.leadMargin ≤ 40 → r.trailMargin ≤ 40 → r.postmark ≤ 120 →
     2 ≤ r.clearance → r.clearance ≤ 20 → 2 ≤ r.recharge → r.recharge ≤ 100 →
     ∃ t : State, exec .setCancel s = .next t ∧ t.cancel.record = r ∧
       (∀ h : Head,
         let u := s.cancel.heads.get h
         let barred := s.pins.headFault.get h || !r.enable.get h
         t.cancel.heads.get h =
           if barred = true ∧ u.state ≠ .disabled then
             { u with
               state := .disabled
               queue := if u.waiting then u.queue.tail else u.queue
               waiting := u.waiting && u.queue.isEmpty }
           else if barred = false ∧ u.state = .disabled then { u with state := .recharging r.recharge }
           else u) ∧
       (s.cancel.heads.a.waiting = false → s.cancel.heads.b.waiting = false →
         t.tracker = s.tracker ∧ t.tally = s.tally) ∧
       t.cancel.slots = s.cancel.slots ∧ t.cancel.active = s.cancel.active ∧
       ((∀ (h : Head) (left : Nat), (s.cancel.heads.get h).state ≠ .striking (.test left)) →
         t.gate = s.gate) ∧
       t = answered f (.ok (encCancel r)) { took rest s with
         cancel := t.cancel
         gate := { s.gate with exercise := t.gate.exercise }
         tracker := t.tracker
         tally := t.tally }) ∧
  (∀ (f : InFrame) (rest : List InFrame) (s : State) (p : Slot), CanTake s f rest →
     (∀ q : Plate, f.code = 0x41 → f.payload = u8 (slotNumber p) ++ encPlate q → officeOk q.office = true →
       1 ≤ q.day → q.day ≤ 31 → 1 ≤ q.month → q.month ≤ 12 → 2000 ≤ q.year → q.year ≤ 2099 →
       65 ≤ q.shift.toNat → q.shift.toNat ≤ 90 → q.slogan ≤ 15 →
       exec .loadPlate s =
         if slotInUse s.cancel p then refusedAfter f .inUse rest s
         else okAfter f [] { took rest s with cancel := { s.cancel with
           slots := s.cancel.slots.set p ⟨some q, 0⟩ } }) ∧
     (f.code = 0x42 → f.payload = u8 (slotNumber p) →
       exec .selectPlate s =
         if (s.cancel.slots.get p).plate = none then refusedAfter f (.badValue 1) rest s
         else okAfter f [] { took rest s with cancel := { s.cancel with active := some p } }) ∧
     (f.code = 0x42 → f.payload = [0] →
       exec .selectPlate s = okAfter f [] { took rest s with cancel := { s.cancel with active := none } }))

/-! ### Requests of the stacker and the tally unit -/

/-- R119: BIN_RELEASE of a CLOSED bin reloads and opens it, keeping its batch number, giving no tray-swap
pulse and leaving the route, and answers with the bin record; of an OPEN bin it is refused WRONG_STATE; a
number outside 1 to 6 is refused BAD_VALUE with field 1. The bin is usable again exactly if its full input is
inactive. -/
def Obligations.BinReleaseReloads : Prop :=
  ∀ (f : InFrame) (rest : List InFrame) (s : State), CanTake s f rest → f.code = 0x53 →
    (∀ (b : Bin) (r : BinRecord), f.payload = u8 (binNumber b) → s.stacker.bins.get b = r →
      (r.state = .opened → exec .binRelease s = refusedAfter f (.wrongState 0xFFFF) rest s) ∧
      (r.state = .closed → ∃ t : State,
        t = { took rest s with stacker := { s.stacker with bins := s.stacker.bins.set b { r with
          base := r.pendingBase.getD r.base
          pendingBase := none
          current := r.pendingBase.getD r.base
          state := .opened } } } ∧
        exec .binRelease s = okAfter f (encBin t b) t ∧ route t.stacker = route s.stacker ∧
        usable t b = !s.pins.binFull.get b)) ∧
    (∀ v : Byte, f.payload = [v] → v.toNat < 1 ∨ 6 < v.toNat →
      exec .binRelease s = refusedAfter f (.badValue 1) rest s)

/-- R113 to R115, R117, R118: SET_BIN sets the pending base and the mode. BIN_CLOSE of an OPEN bin advances
the batch number, counts BATCHES, reloads the bin with a tray-swap pulse in AUTO or closes it in HOLD, and
queues the BATCH notice before its reply; of a CLOSED bin it is refused WRONG_STATE. That the BATCH notice
goes before the reply is the model's choice (log 33). -/
def Obligations.BinSetAndClosed : Prop :=
  ∀ (f : InFrame) (rest : List InFrame) (s : State) (b : Bin) (r : BinRecord), CanTake s f rest →
    s.stacker.bins.get b = r →
    (∀ (base : Nat) (m : BinMode), f.code = 0x51 → 1 ≤ base → base ≤ 5000 →
      f.payload = u8 (binNumber b) ++ u16 base ++ u8 (binModeNumber m) →
      ∃ t : State, t = { took rest s with stacker := { s.stacker with
          bins := s.stacker.bins.set b { r with pendingBase := some base, mode := m } } } ∧
        exec .setBin s = okAfter f (encBin t b) t) ∧
    (f.code = 0x52 → f.payload = u8 (binNumber b) → r.state = .closed →
      exec .binClose s = refusedAfter f (.wrongState 0xFFFF) rest s) ∧
    (f.code = 0x52 → f.payload = u8 (binNumber b) → r.state = .opened → r.mode = .auto →
      let base := r.pendingBase.getD r.base
      exec .binClose s = okAfter f (word16 (r.batch + 1) ++ u16 (r.base - r.current))
        (handNotice (.batch b (r.batch + 1) (r.base - r.current) .request .auto .opened base base s.uptime)
          (inBothSets (bump (.batches b)) { took rest s with stacker := { s.stacker with
            trays := s.stacker.trays.set b (some 50)
            bins := s.stacker.bins.set b { r with
              base := base, pendingBase := none, current := base, batch := r.batch + 1 } } }))) ∧
    (f.code = 0x52 → f.payload = u8 (binNumber b) → r.state = .opened → r.mode = .hold →
      exec .binClose s = okAfter f (word16 (r.batch + 1) ++ u16 (r.base - r.current))
        (handNotice (.batch b (r.batch + 1) (r.base - r.current) .request .hold .closed r.base 0 s.uptime)
          (inBothSets (bump (.batches b)) { took rest s with stacker := { s.stacker with
            bins := s.stacker.bins.set b { r with current := 0, state := .closed, batch := r.batch + 1 } } })))

/-- R127: TALLY_LATCH with any field is refused BAD_LENGTH; with no snapshot held one is taken, every field
at one moment, its number advancing, and the reply is OK with its number and uptime; with one held the reply
is HELD with its number and nothing else changes. The run state plays no part. -/
def Obligations.TallyLatchTakesOrHolds : Prop :=
  ∀ (f : InFrame) (rest : List InFrame) (s : State), CanTake s f rest → f.code = 0x60 →
    (f.payload ≠ [] → exec .tallyLatch s = refusedAfter f .badLength rest s) ∧
    (f.payload = [] → s.tally.held = none →
      exec .tallyLatch s = okAfter f (word16 s.tally.nextSnapshot ++ word32 s.uptime)
        { took rest s with tally := { s.tally with
          held := some ⟨s.tally.nextSnapshot, s.tally.life, s.tally.shift, s.tally.baseOcc, s.tracker.belt,
            s.uptime, s.tracker.table.length⟩
          nextSnapshot := s.tally.nextSnapshot + 1 } }) ∧
    (f.payload = [] → ∀ n : Snapshot, s.tally.held = some n →
      exec .tallyLatch s = .next (answered f (.held n.number) (took rest s)))

/-- R128, R129: a TALLY_READ with another value than 0 or 1 is refused BAD_VALUE with field 1, and with
another number of fields BAD_LENGTH, and nothing changes. A valid one, in every run state, releases the
snapshot it reads and leaves the lifetime set; with clear_shift 1 each shift counter becomes its live value
less its value in that snapshot and BASE_OCC the snapshot's occupancy, with clear_shift 0 the shift set
stands. Without a held snapshot one is taken first. The reply carries the snapshot and the two marks. The two
marks' bytes are the model's choice (log 17). -/
def Obligations.TallyReadReleasesAndClears : Prop :=
  ∀ (f : InFrame) (rest : List InFrame) (s : State), CanTake s f rest → f.code = 0x61 →
    (∀ v : Byte, f.payload = [v] → 1 < v.toNat → exec .tallyRead s = refusedAfter f (.badValue 1) rest s) ∧
    (f.payload.length ≠ 1 → exec .tallyRead s = refusedAfter f .badLength rest s) ∧
    (∀ clear : Bool, f.payload = flag clear →
      let n := s.tally.held.getD ⟨s.tally.nextSnapshot, s.tally.life, s.tally.shift, s.tally.baseOcc,
        s.tracker.belt, s.uptime, s.tracker.table.length⟩
      ∃ t : State, exec .tallyRead s =
          okAfter f (encSnapshot n ++ flag s.tally.held.isSome ++ flag clear) t ∧
        t = { took rest s with tally := t.tally } ∧ t.tally.held = none ∧ t.tally.life = s.tally.life ∧
        t.tally.nextSnapshot =
          (if s.tally.held.isSome then s.tally.nextSnapshot else s.tally.nextSnapshot + 1) ∧
        (clear = false → t.tally.shift = s.tally.shift ∧ t.tally.baseOcc = s.tally.baseOcc) ∧
        (clear = true → t.tally.baseOcc = n.occupancy ∧
          ∀ c : Counter, counterOf t.tally.shift c = counterOf s.tally.shift c - counterOf n.shift c))

/-! ### Requests of run control -/

/-- R136, R139: RUN in IDLE with no cause in service goes to STARTING with the start timer and start position
set; in HELD or DRAINING (finish) it goes to RUNNING; with a cause in service it is refused STILL_ACTIVE with
the leading cause; in any other state it is refused with that state. R137, R138: FINISH in RUNNING or HELD
drains to IDLE, at once with an empty table, and is refused elsewhere; HALT outside IDLE purges, goes to IDLE
and then queues its reply, and is refused in IDLE. That RUNSTATE goes before the reply of RUN and FINISH is
the model's choice (log 33). -/
def Obligations.RunFinishAndHalt : Prop :=
  (∀ (f : InFrame) (rest : List InFrame) (s : State), CanTake s f rest → f.code = 0x70 → f.payload = [] →
     (s.run.state = .idle → leadingCause s = none →
       exec .run s = okAfter f [] (enterRunState .starting .run { took rest s with run := { s.run with
         startTimer := some s.tracker.geometry.startTime
         startPos := some (s.tracker.belt + BitVec.ofNat 32 s.tracker.geometry.startDistance) } })) ∧
     (s.run.state = .held ∨ s.run.state = .draining .finish → leadingCause s = none →
       exec .run s = okAfter f [] (enterRunState .running .run (took rest s))) ∧
     (s.run.state = .idle ∨ s.run.state = .held ∨ s.run.state = .draining .finish →
       ∀ c, leadingCause s = some c → exec .run s = refusedAfter f (.stillActive c) rest s) ∧
     (s.run.state = .starting ∨ s.run.state = .running ∨ s.run.state = .draining .hold ∨
         s.run.state = .stopped →
       exec .run s = refusedAfter f (.wrongState (runStateNumber s.run.state)) rest s)) ∧
  (∀ (f : InFrame) (rest : List InFrame) (s : State), CanTake s f rest → f.payload = [] →
     (f.code = 0x71 → s.run.state = .running ∨ s.run.state = .held → s.tracker.table ≠ [] →
       exec .finish s = okAfter f [] (enterRunState (.draining .finish) .finish (took rest s))) ∧
     (f.code = 0x71 → s.run.state = .running ∨ s.run.state = .held → s.tracker.table = [] →
       exec .finish s = okAfter f [] (enterRunState .idle .drainDone (took rest s))) ∧
     (f.code = 0x71 → s.run.state ≠ .running → s.run.state ≠ .held →
       exec .finish s = refusedAfter f (.wrongState (runStateNumber s.run.state)) rest s) ∧
     (f.code = 0x72 → s.run.state ≠ .idle →
       exec .halt s = okAfter f [] (enterRunState .idle .halt (purge .halt (took rest s)))) ∧
     (f.code = 0x72 → s.run.state = .idle → exec .halt s = refusedAfter f (.wrongState 0) rest s))

/-- R147: CAUSE_CLEAR of a value above 8 is refused BAD_VALUE with field 1; of a cause held active STILL_ACTIVE; of
a cause neither in service nor requested, and of 0 with none in service, WRONG_STATE. A cause that can be cleared
loses its latch and its service and the reply names it, the new leading cause and the run state after; the fault
record is unchanged. 0 names the leading cause. Where it was in service a STOP notice of reason CLEAR is queued and
the cause table evaluated, which ends STOPPED with the last BELT_STOP cause. R145, R146: a valid SET_CAUSES
installs masks, the three reactions and the link timeout, restarts the link-loss timer, takes every masked cause
out of service, and puts in service each cause it unmasks whose request is present, each with its STOP notice, in
priority order; then the cause table is evaluated once; the reply carries the settings now in force. That the
notices go before the reply of CAUSE_CLEAR, that its run state is one byte, and when the beacon is judged are the
model's choices (logs 33, 17 and 27). -/
def Obligations.CausesClearedAndSet : Prop :=
  (∀ (f : InFrame) (rest : List InFrame) (s : State) (v : Byte), CanTake s f rest → f.code = 0x73 →
     f.payload = [v] →
     (8 < v.toNat → exec .causeClear s = refusedAfter f (.badValue 1) rest s) ∧
     (v = 0 → leadingCause s = none → exec .causeClear s = refusedAfter f (.wrongState 0xFFFF) rest s) ∧
     (∀ c : Cause, v.toNat = causeNumber c ∨ (v = 0 ∧ leadingCause s = some c) →
       (heldActive s.pins c = true → exec .causeClear s = refusedAfter f (.stillActive c) rest s) ∧
       (heldActive s.pins c = false → (s.run.causes.get c).inService = false → requestPresent s c = false →
         exec .causeClear s = refusedAfter f (.wrongState 0xFFFF) rest s) ∧
       (heldActive s.pins c = false → (s.run.causes.get c).inService = true ∨ requestPresent s c = true →
         ∃ t : State, exec .causeClear s = okAfter f
             (u8 (causeNumber c) ++ encLeading (leadingCause t) ++ u8 (runStateNumber t.run.state)) t ∧
           (t.run.causes.get c).latch = false ∧ (t.run.causes.get c).inService = false ∧
           (∀ d, d ≠ c → t.run.causes.get d = s.run.causes.get d) ∧ t.run.faults = s.run.faults ∧
           ((s.run.causes.get c).inService = false → t.run.state = s.run.state) ∧
           (let cleared : State := { took rest s with run := { s.run with
              causes := s.run.causes.set c { s.run.causes.get c with latch := false, inService := false } } }
            ((s.run.causes.get c).inService = false → t = cleared) ∧
            ((s.run.causes.get c).inService = true →
              (∃ u : State, t = evaluate u ∧ BeaconFollows u ∧ u = { handNotice
                  (.stop c false .clear (s.run.causes.get c).detail (leadingCause cleared) s.run.state s.uptime)
                  cleared with
                run := { cleared.run with beacon := u.run.beacon } }) ∧
              (s.run.state = .stopped → beltStopGroup cleared = false → t.run.state = .idle)))))) ∧
  (∀ (f : InFrame) (rest : List InFrame) (s : State) (v : CauseSettings), CanTake s f rest →
     f.code = 0x74 → readCauses f.payload = .ok (some v) → ServiceUnmasked s →
     ∃ t : State, exec .setCauses s = okAfter f (encCauses t.run) t ∧ t.run.linkTimeout = v.linkTimeout ∧
       t.run.sinceLink = 0 ∧ t.run.linkRaised = false ∧
       t.run.causes.actuator.reaction = v.actuator ∧ t.run.causes.stackFull.reaction = v.stackFull ∧
       t.run.causes.linkLoss.reaction = v.linkLoss ∧ t.run.faults = s.run.faults ∧
       ∀ c : Cause, (t.run.causes.get c).masked = v.masked.get c ∧
         (t.run.causes.get c).latch = (s.run.causes.get c).latch ∧
         (t.run.causes.get c).inService =
           (!v.masked.get c && ((s.run.causes.get c).inService ||
             ((s.run.causes.get c).masked && requestPresent s c)))) ∧
  (∀ (f : InFrame) (rest : List InFrame) (s : State) (v : CauseSettings), CanTake s f rest →
     f.code = 0x74 → readCauses f.payload = .ok (some v) → ServiceUnmasked s →
     let k := s.run.causes
     let installed : State := { took rest s with run := { s.run with
       linkTimeout := v.linkTimeout
       sinceLink := 0
       linkRaised := false
       causes := {
         door := { k.door with masked := v.masked.door }
         extStop := { k.extStop with masked := v.masked.extStop }
         jam := { k.jam with masked := v.masked.jam }
         beltStall := { k.beltStall with masked := v.masked.beltStall }
         tableFull := { k.tableFull with masked := v.masked.tableFull }
         actuator := { k.actuator with masked := v.masked.actuator, reaction := v.actuator }
         stackFull := { k.stackFull with masked := v.masked.stackFull, reaction := v.stackFull }
         linkLoss := { k.linkLoss with masked := v.masked.linkLoss, reaction := v.linkLoss } } } }
     let served := fun (c : Cause) (on : Bool) (why : StopReason) (w : State) =>
       let w1 : State := { w with run := { w.run with
         causes := w.run.causes.set c { w.run.causes.get c with inService := on } } }
       handNotice (.stop c on why (k.get c).detail (leadingCause w1) s.run.state s.uptime) w1
     ∀ inPriority : List Cause, inPriority.map causeNumber = [1, 2, 3, 4, 5, 6, 7, 8] →
     let w := inPriority.foldl (fun w c =>
         if (k.get c).masked && !v.masked.get c && requestPresent s c then served c true .unmask w
         else if !(k.get c).masked && v.masked.get c && (k.get c).inService then served c false .mask w
         else w) installed
     ∃ u t : State, BeaconFollows u ∧ u = { w with run := { w.run with beacon := u.run.beacon } } ∧
       t = evaluate u ∧ exec .setCauses s = okAfter f (encCauses t.run) t)

/-- R150: FAULT_READ answers OK, in every run state, with the first entry, the latest entry and the count, and
with clear 1 then empties the record, so that the next request of a cause is its first entry; it clears no
cause, and a clearing of a cause leaves the record. Another value is refused BAD_VALUE with field 1, and a
request of another length BAD_LENGTH; in both cases nothing changes. -/
def Obligations.FaultReadKeepsOrEmpties : Prop :=
  (∀ (f : InFrame) (rest : List InFrame) (s : State), CanTake s f rest → f.code = 0x76 →
    let emptied : State := { took rest s with run := { s.run with faults := ⟨none, none, 0⟩ } }
    (f.payload = [0] → exec .faultRead s = okAfter f (encFaults s.run.faults) (took rest s)) ∧
    (f.payload = [1] → exec .faultRead s = okAfter f (encFaults s.run.faults) emptied) ∧
    (∀ v : Byte, f.payload = [v] → 1 < v.toNat → exec .faultRead s = refusedAfter f (.badValue 1) rest s) ∧
    (f.payload.length ≠ 1 → exec .faultRead s = refusedAfter f .badLength rest s)) ∧
  (∀ (c : Cause) (d : SourceDetail) (n : Option U16) (why : StopReason) (s : State),
    s.run.faults = ⟨none, none, 0⟩ →
    (raiseCause c d n why s).run.faults.first = (raiseCause c d n why s).run.faults.latest ∧
      (raiseCause c d n why s).run.faults.first.isSome ∧ (raiseCause c d n why s).run.faults.count = 1) ∧
  (∀ (c : Cause) (s : State), (clearCause c s).run.faults = s.run.faults)

/-! ### Requests of calibration, trace, exercise and reset -/

/-- R155, R160, R162: CAL_START starts a collection; CAL_APPLY in READY ends it and installs the proposed code
with baselines at 0, and is refused in OFF and COLLECTING; CAL_ABORT ends it; TRACE_ARM replaces the arm;
TRACE_DISARM clears it. R161: a deviation of the calibrated channel ends a running calibration as ABORTED.
R156 to R158: a cold or a LONG ticket gives nothing; of any other each STAMP mark of the calibrated channel, in
list order while the state is COLLECTING, adds its peak or one clipped mark; the N-th valid peak makes the
proposal, or ends with NO_SIGNAL where the average is 0; the fourth clipped mark ends with CLIPPED. R163, R164:
a decided ticket that meets the arm spends it, and the ring entries of its number go to the link, channel by
channel. The bytes of a trace condition (log 18) and of the state left (log 17) are the model's choices. -/
def Obligations.CalibrationAndTraceRequests : Prop :=
  (∀ (f : InFrame) (rest : List InFrame) (s : State), CanTake s f rest →
    (∀ (c : Channel) (target n : Nat), f.code = 0x80 → 200 ≤ target → target ≤ 2000 → 1 ≤ n → n ≤ 16 →
      f.payload = u8 (channelNumber c) ++ u16 target ++ u8 n →
      exec .calStart s = okAfter f (f.payload ++ u8 (s.channels.get c).trim.toNat)
        { took rest s with cal := .collecting ⟨c, target, n, 0, 0, 0⟩ }) ∧
    (∀ c : Channel, f.code = 0x80 → f.payload = u8 (channelNumber c) →
      exec .calStart s = okAfter f (f.payload ++ u16 1200 ++ u8 4 ++ u8 (s.channels.get c).trim.toNat)
        { took rest s with cal := .collecting ⟨c, 1200, 4, 0, 0, 0⟩ }) ∧
    (∀ (r : CalRecord) (p : Proposal), f.code = 0x81 → f.payload = [] → s.cal = .ready r p →
      exec .calApply s = okAfter f
        (u8 (channelNumber r.channel) ++ u8 p.code.toNat ++ u8 (s.channels.get r.channel).trim.toNat)
        { took rest s with
          cal := .off
          channels := s.channels.set r.channel { s.channels.get r.channel with
            trim := p.code, bp := 0, bf := 0, fast := 8 } }) ∧
    (f.code = 0x81 → f.payload = [] → (∀ r p, s.cal ≠ .ready r p) →
      exec .calApply s = refusedAfter f (.wrongState 0xFFFF) rest s) ∧
    (f.code = 0x82 → f.payload = [] →
      exec .calAbort s = okAfter f (encCal s.cal) { took rest s with cal := .off }) ∧
    (f.code = 0x83 → f.payload = [0] →
      exec .traceArm s = okAfter f (encCond .next) { took rest s with trace := some .next }) ∧
    (∀ n : U16, f.code = 0x83 → f.payload = 1 :: word16 n →
      exec .traceArm s = okAfter f (encCond (.ticket n)) { took rest s with trace := some (.ticket n) }) ∧
    (∀ o : LetterOutcome, f.code = 0x83 → o ≠ .handCancel → f.payload = 2 :: u8 (outcomeNumber o) →
      exec .traceArm s = okAfter f (encCond (.outcome o)) { took rest s with trace := some (.outcome o) }) ∧
    (f.code = 0x84 → f.payload = [] →
      exec .traceDisarm s = okAfter f (optional 3 encCond s.trace) { took rest s with trace := none })) ∧
  (∀ (r : CalRecord) (s : State) (why : CalAbortReason), calRunning s.cal = some r →
    abortCalOf r.channel why s = handNotice (.cal r.channel .aborted (some why) r.target r.cards r.valid
      r.clipped none none (s.channels.get r.channel).trim s.uptime) { s with cal := .off }) ∧
  ((∀ (y : Ticket) (s : State), y.cold.a = true ∨ y.cold.b = true ∨ y.size = some .long →
     contribute y s = s) ∧
   (∀ (y : Ticket) (s : State), y.cold.a = false → y.cold.b = false → y.size ≠ some .long →
     contribute y s = takeMarks y.marks s) ∧
   (∀ (ms : List Mark) (s : State), (∀ r, s.cal ≠ .collecting r) → takeMarks ms s = s) ∧
   (∀ (r : CalRecord) (m : Mark) (ms : List Mark) (s : State), s.cal = .collecting r →
     let avg := (r.sum + m.peak) / r.cards
     let trim := (s.channels.get r.channel).trim
     let told := fun (status : CalStatus) (valid clipped : Nat) (average : Option Nat)
         (code : Option (BitVec 4)) (c : Cal) =>
       handNotice (.cal r.channel status none r.target r.cards valid clipped average code trim s.uptime)
         { s with cal := c }
     (m.channel ≠ r.channel ∨ m.kind = .meter → takeMarks (m :: ms) s = takeMarks ms s) ∧
     (m.channel = r.channel → m.kind = .stamp →
       (m.clipped = true → r.clipped + 1 < 4 →
         takeMarks (m :: ms) s = takeMarks ms { s with cal := .collecting { r with
           clipped := r.clipped + 1 } }) ∧
       (m.clipped = true → 4 ≤ r.clipped + 1 →
         takeMarks (m :: ms) s = told .clipped r.valid (r.clipped + 1) none none .off) ∧
       (m.clipped = false → r.valid + 1 < r.cards →
         takeMarks (m :: ms) s = takeMarks ms { s with cal := .collecting { r with
           sum := r.sum + m.peak, valid := r.valid + 1 } }) ∧
       (m.clipped = false → r.cards ≤ r.valid + 1 → avg = 0 →
         takeMarks (m :: ms) s = told .noSignal (r.valid + 1) r.clipped (some 0) none .off) ∧
       (m.clipped = false → r.cards ≤ r.valid + 1 → 0 < avg →
         let c : Int := (2 * (32 + trim.toInt) * r.target + avg) / (2 * avg) - 32
         let p : Proposal := ⟨avg, BitVec.ofInt 4 (max (-8) (min 7 c)), decide (c < -8 ∨ 7 < c)⟩
         takeMarks (m :: ms) s = told (if c < -8 ∨ 7 < c then .limit else .ok) (r.valid + 1) r.clipped
           (some avg) (some p.code)
           (.ready { r with sum := r.sum + m.peak, valid := r.valid + 1 } p))))) ∧
  (∀ (y : Ticket) (cls : LetterClass) (o : LetterOutcome) (s : State),
    (∀ cond ∈ s.trace, (∃ n, cond = .ticket n ∧ n ≠ y.number) ∨ (∃ p, cond = .outcome p ∧ p ≠ o)) →
      testTrace y cls o s = s) ∧
  (∀ (y : Ticket) (cls : LetterClass) (o : LetterOutcome) (cond : TraceCond) (s : State),
    s.trace = some cond → cond = .next ∨ cond = .ticket y.number ∨ cond = .outcome o →
    let notice := fun c : Channel => Notice.trace ⟨c, y.number, cond, y.lead, y.length, cls, o,
      ((s.channels.get c).ring.filter fun e => decide (e.ticket = some y.number)).map RingEntry.window⟩
    testTrace y cls o s = handNotice (notice .bl) (handNotice (notice .bu) (handNotice (notice .al)
      (handNotice (notice .au) { s with trace := none }))))

/-- R77 to R80: in IDLE with no exercise and no confirm in progress, a gate exercise sets the output and waits for
its confirm, or answers OK with 0 ms where the input already reads the target; a flap exercise opens a flap not
OPEN for 100 ms; a head exercise fires a READY head for 20 ms. EXERCISE of another length is refused BAD_LENGTH;
outside IDLE WRONG_STATE; in IDLE with an actuator or an argument out of range BAD_VALUE with its field; then, with
an exercise in progress, or for the gate a confirm, IN_USE. A flap that is OPEN and a head that is RECHARGING are
refused IN_USE, a DISABLED head WRONG_STATE. A refusal changes nothing else. Which of its three rows takes a
refused frame is the model's choice (log 14). -/
def Obligations.ExercisesStart : Prop :=
  (∀ (f : InFrame) (rest : List InFrame) (s : State), CanTake s f rest → f.code = 0x38 →
    s.run.state = .idle → s.gate.exercise = none →
    (∀ p : Path, f.payload = [0, if p = .turn then 1 else 0] → s.gate.confirm = none →
      gateReads s.pins p = false →
      exec .exerciseGate s = .next { took rest s with gate := { s.gate with
        output := p
        exercise := some (.gate p s.tracker.geometry.gateConfirm s.uptime f.tag) } }) ∧
    (∀ p : Path, f.payload = [0, if p = .turn then 1 else 0] → s.gate.confirm = none →
      gateReads s.pins p = true →
      exec .exerciseGate s = okAfter f (u8 (pathNumber p) ++ u8 0)
        { took rest s with gate := { s.gate with output := p } }) ∧
    (∀ x : Flap, f.payload = 1 :: u8 (flapNumber x) → s.stacker.flaps.get x = false →
      exec .exerciseFlap s = okAfter f []
        { took rest s with gate := { s.gate with exercise := some (.flap x 100) } }) ∧
    (∀ h : Head, f.payload = [2, if h = .b then 1 else 0] → (s.cancel.heads.get h).state = .ready →
      exec .exerciseHead s = okAfter f [] { took rest s with
        gate := { s.gate with exercise := some (.head h) }
        cancel := { s.cancel with heads := s.cancel.heads.set h { s.cancel.heads.get h with
          state := .striking (.test 20) } } }) ∧
    (∀ p : Path, f.payload = [0, if p = .turn then 1 else 0] → s.gate.confirm ≠ none →
      exec .exerciseGate s = refusedAfter f .inUse rest s) ∧
    (∀ x : Flap, f.payload = 1 :: u8 (flapNumber x) → s.stacker.flaps.get x = true →
      exec .exerciseFlap s = refusedAfter f .inUse rest s) ∧
    (∀ h : Head, f.payload = [2, if h = .b then 1 else 0] →
      (∀ left, (s.cancel.heads.get h).state = .recharging left →
        exec .exerciseHead s = refusedAfter f .inUse rest s) ∧
      ((s.cancel.heads.get h).state = .disabled →
        exec .exerciseHead s = refusedAfter f (.wrongState 0xFFFF) rest s))) ∧
  (∀ (f : InFrame) (rest : List InFrame) (s : State), CanTake s f rest → f.code = 0x38 →
    (f.payload.length ≠ 2 → exec .exerciseGate s = refusedAfter f .badLength rest s) ∧
    (∀ a x : Byte, f.payload = [a, x] →
      let row : Instr := if a = 1 then .exerciseFlap else if a = 2 then .exerciseHead else .exerciseGate
      let bad := if a = 1 then x.toNat < 1 ∨ 5 < x.toNat else 1 < x.toNat
      (s.run.state ≠ .idle →
        exec row s = refusedAfter f (.wrongState (runStateNumber s.run.state)) rest s) ∧
      (s.run.state = .idle → 2 < a.toNat → exec row s = refusedAfter f (.badValue 1) rest s) ∧
      (s.run.state = .idle → a.toNat ≤ 2 → bad → exec row s = refusedAfter f (.badValue 2) rest s) ∧
      (s.run.state = .idle → a.toNat ≤ 2 → ¬bad → s.gate.exercise ≠ none →
        exec row s = refusedAfter f .inUse rest s)))

/-- R178: RESET queues its reply and from then on the link takes no request; the warm reset is due when that reply
has been sent, and a WARM_RESET at any other time does nothing, the model's choice (log 2). R20, R24, R34, R49,
R66, R82, R100, R101, R121, R130, R153, R165, R178 to R180: the state a due warm reset leaves. The table, every
queue, every span and the running calibration go, each ticket counted PURGED; the run state is IDLE with every
latch clear; the snapshot is released and the trace disarmed. The outbound queue holds RESET_DONE, LOST where a
lost count was above 0, and the replies set aside, no notice of before. Every setting, the frame counters and all
else stand. The level causes and head faults that are active request then, in the model's order (log 15); with none
active that state is the next state. The next ticket is the first after IDLE (log 40). That each cause keeps its
source detail is the model's choice (log 9); the new gap windows and the emptied notices follow logs 19 and 32. -/
def Obligations.ResetRunsWarmReset : Prop :=
  ((∀ (f : InFrame) (rest : List InFrame) (s : State), CanTake s f rest → f.code = 0x92 → f.payload = [] →
     exec .reset s = okAfter f [] { s with link := { s.link with inbound := rest, reset := .waiting } }) ∧
   (∀ s : State, s.link.reset ≠ .acting → exec .warmReset s = .next s)) ∧
  (∀ s : State, s.link.reset = .acting → StartMatchesRun s →
     let n := s.tracker.table.length
     let t : State := { s with
       tracker := { s.tracker with table := [], prevTrail := none, firstTicket := true, throttle := false }
       channels := s.channels.map fun k => { k with spans := [], leadIn := [], gap := ⟨k.gap.start, []⟩ }
       facing := { s.facing with waiting := [] }
       gate := { s.gate with
         queue := []
         exercise :=
           match s.gate.exercise with
           | some (.head _) => none
           | e => e }
       cancel := { s.cancel with heads := s.cancel.heads.map fun u => { u with
         queue := []
         waiting := false
         state :=
           match u.state with
           | .striking _ => .recharging s.cancel.record.recharge
           | x => x } }
       stacker := { s.stacker with queue := [] }
       tally := { s.tally with
         life := { s.tally.life with purged := s.tally.life.purged + BitVec.ofNat 32 n }
         shift := { s.tally.shift with purged := s.tally.shift.purged + BitVec.ofNat 32 n }
         held := none }
       run := { s.run with
         state := .idle
         startTimer := none
         startPos := none
         causes := s.run.causes.map fun e => { e with latch := false, inService := false }
         sinceLink := 0
         linkRaised := false
         beacon := .off }
       cal := .off
       trace := none
       link := { s.link with
         outbound :=
           [.notice (.resetDone .warm n s.tracker.belt s.uptime s.tracker.nextTicket s.tally.nextSnapshot)] ++
           (if 0 < s.link.reportsLost ∨ 0 < s.link.tracesLost ∨ 0 < s.link.eventsLost then
             [.notice (.lost s.link.reportsLost s.link.tracesLost s.link.eventsLost s.uptime)] else []) ++
           s.link.outbound.filter isReply
         reportsLost := 0
         tracesLost := 0
         eventsLost := 0
         reset := .none } }
     exec .warmReset s = .next ([Head.a, .b].foldl
       (fun u h => if s.pins.headFault.get h then raiseCause .actuator (.actuator (.head h)) none .request u
         else u)
       ([Cause.door, .extStop, .stackFull].foldl
         (fun u c => if levelActive s.pins c then raiseCause c .none none .level u else u) t)) ∧
     (levelActive s.pins .door = false → levelActive s.pins .extStop = false →
       levelActive s.pins .stackFull = false → s.pins.headFault = ⟨false, false⟩ →
       exec .warmReset s = .next t))

/-- R24, R49, R66, R82, R101, R121, R130, R153, R165, R166, R180: a power-on reset gives the state after reset,
whatever the state was, with the pins it finds, the line rate the straps give, and each head DISABLED whose fault
input is active. Then each level cause and each head fault that is active makes its request, in the model's order
(log 15); with none active the state is as it was before them. The values of logs 8, 9, 24 and 28 in it are the
model's. -/
def Obligations.PowerOnGivesResetState : Prop :=
  ∀ (pins : Pins) (s : State),
    let t : State := { State.reset with
      pins := pins
      cancel := { State.reset.cancel with heads := pins.headFault.map fun fault => {
        state := if fault then .disabled else .ready
        queue := []
        waiting := false
        handed := none } }
      link := { State.reset.link with rate :=
        if !pins.strap1 && pins.strap2 then .r460800 else if pins.strap1 && !pins.strap2 then .r921600
        else .r115200 } }
    let u := [Head.a, .b].foldl
      (fun u h => if pins.headFault.get h then raiseCause .actuator (.actuator (.head h)) none .request u else u)
      ([Cause.door, .extStop, .stackFull].foldl
        (fun u c => if levelActive pins c then raiseCause c .none none .level u else u) t)
    exec (.powerOnReset pins) s = .next { u with pending := s.pending } ∧
    (pins.door = false → pins.extStop = false → pins.binFull.b6 = false → pins.headFault = ⟨false, false⟩ →
      exec (.powerOnReset pins) s = .next { State.reset with
        pins := pins, pending := s.pending, link := t.link })

/-! ### The tracker's events -/

/-- R1, R2, R3, R22: a pulse advances the belt position by one and restarts the stall timer; each filter takes
its sample by R2; an accepted edge that R3 uses waits with the position of the first step of its run. R2: a
run of differing samples shorter than the filter value, followed by a sample of the accepted level, leaves the
accepted level and a run count of 0, and accepts no edge on the way. `edges` is the model's own field (log
29). -/
def Obligations.PulseCountsAndFilters : Prop :=
  (∀ (inputs : PulseInputs) (s : State), ∃ t : State, exec (.encoderPulse inputs) s = .next t ∧
     t = { s with tracker := { s.tracker with
         belt := s.tracker.belt + 1
         sincePulse := 0
         stallRaised := false
         filters := t.tracker.filters
         edges := t.tracker.edges }, channels := t.channels } ∧
     (∀ c : Cell, t.tracker.filters.get c =
       if inputs.dark.get c = (s.tracker.filters.get c).dark then ⟨(s.tracker.filters.get c).dark, 0⟩
       else if (s.tracker.filters.get c).run + 1 < s.tracker.geometry.filter then
         ⟨(s.tracker.filters.get c).dark, (s.tracker.filters.get c).run + 1⟩
       else ⟨inputs.dark.get c, 0⟩) ∧
     ∃ new : List Edge, t.tracker.edges = s.tracker.edges ++ new ∧
       ∀ e : Edge, e ∈ new ↔
         e.leading = inputs.dark.get e.cell ∧ inputs.dark.get e.cell ≠ (s.tracker.filters.get e.cell).dark ∧
         s.tracker.geometry.filter ≤ (s.tracker.filters.get e.cell).run + 1 ∧
         (e.leading = true ∨ e.cell = .e) ∧
         e.pos = s.tracker.belt + 1 - BitVec.ofNat 32 s.tracker.geometry.filter + 1) ∧
  (∀ (limit n : Nat) (level : Bool), n < limit →
     ((List.replicate n (!level)).foldl (fun f x => f.sample limit x) (⟨level, 0⟩ : Filter)) = ⟨level, n⟩ ∧
     (∀ m, m < n → Filter.accepts limit (!level) ⟨level, m⟩ = false) ∧
     Filter.sample limit level ⟨level, n⟩ = ⟨level, 0⟩)

/-- R25, R26, R33, R34: at a pulse each channel gains its pair by its trim and adds it to the window of every
span in progress; with no span in progress and no window 1 due to start it goes to the gap window, with the
samples held back from it before. The trim, records, baselines and ring do not change. `recent`, the samples of
the latest sixteen steps (log 13), and `leadIn`, those held back (log 29), are the model's own fields. -/
def Obligations.PulseGainsSamples : Prop :=
  ∀ (inputs : PulseInputs) (s t : State) (c : Channel), exec (.encoderPulse inputs) s = .next t →
    let k := s.channels.get c
    let r := inputs.pairs.get c
    let gain := fun raw : Byte => raw.toNat * (32 + k.trim.toInt).toNat / 32
    let x : Sample := ⟨min 255 (gain r.f), min 255 (gain r.p),
      decide (r.f = 255 ∨ 255 ≤ gain r.f ∨ r.p = 255 ∨ 255 ≤ gain r.p),
      decide (s.lamps.state.get (channelSide c) ≠ .on)⟩
    let starting := s.tracker.table.any (windowDue
      { s with tracker := { s.tracker with belt := s.tracker.belt + 1 } })
    t.channels.get c = { k with
      spans := k.spans.map fun sp => { sp with samples := sp.samples ++ [x] }
      recent := (k.recent ++ [x]).drop (if starting then 0 else k.recent.length + 1 - 16)
      leadIn := if k.spans = [] ∧ starting = true then k.leadIn ++ [x] else []
      gap :=
        if k.spans = [] ∧ starting = false then
          ⟨if k.gap.samples = [] then s.tracker.belt + 1 - BitVec.ofNat 32 k.leadIn.length else k.gap.start,
            k.gap.samples ++ (k.leadIn ++ [x])⟩
        else k.gap }

/-- R3, R8, R11, R21: a leading edge at E in RUNNING, HELD or DRAINING with room in the table appends a ticket with
the next number, its lead, its gap (none for the first ticket after IDLE: R10, R134, R187) and GAP_SHORT, all else
as at creation; ENTERED is counted in both sets and the throttle evaluated. Lamp control then takes the edge. R3,
R11: a leading edge at E is counted in STRAY_EDGES outside RUNNING, HELD and DRAINING; with 32 tickets in the table
it makes no ticket and raises TABLE_FULL with its position. Lamp control takes it either way. That lamp control
comes last, that a gap of more than 2^31 steps counts as long, and that the first ticket after IDLE has no gap also
where a leftover letter's trail stands in the record, are the model's choices (logs 20, 38 and 40). `firstTicket`
is the model's own field (log 40). -/
def Obligations.EntryEdgeByRunState : Prop :=
  (∀ (s : State) (before behind : List Edge) (p : Pos), OldestEdge s before ⟨.e, true, p⟩ behind →
     tracks s.run.state = true → s.tracker.table.length < 32 →
     let gap := if s.tracker.firstTicket then none else s.tracker.prevTrail.map fun q => min 65535 (p - q).toNat
     let n := s.tracker.table.length + 1
     exec .entryLeadingEdge s = .next (lampEdge (inBothSets (bump .entered) { s with
       tracker := { s.tracker with
         edges := before ++ behind
         table := s.tracker.table ++ [{ blankTicket with
           number := s.tracker.nextTicket
           lead := p
           gap := gap
           gapShort := gap.any fun d =>
             decide (d < s.tracker.geometry.gateClear + s.tracker.geometry.gateLead) }]
         nextTicket := s.tracker.nextTicket + 1
         firstTicket := false
         throttle :=
           if s.tracker.geometry.holdMark ≤ n then true
           else if n + 4 ≤ s.tracker.geometry.holdMark then false else s.tracker.throttle } }))) ∧
  (∀ (s : State) (before behind : List Edge) (p : Pos), OldestEdge s before ⟨.e, true, p⟩ behind →
     (tracks s.run.state = false → exec .entryLeadingEdge s =
       .next (lampEdge (inBothSets (bump .strayEdges) (withEdges (before ++ behind) s)))) ∧
     (tracks s.run.state = true → 32 ≤ s.tracker.table.length → exec .entryLeadingEdge s =
       .next (lampEdge (raiseCause .tableFull (.tableFull p) none .request
         (withEdges (before ++ behind) s)))))

/-- R3, R10, R12: a trailing edge at E in RUNNING, HELD or DRAINING becomes the previous trail, and is the trail of
the youngest ticket if that has none: length, SHORT below min_len unless LONG, ENTERING to SCANNING. Outside these
states it is ignored. That a length of more than 2^31 steps counts as long is the model's choice (log 38). -/
def Obligations.TrailingEdgeRecorded : Prop :=
  ∀ (s : State) (before behind : List Edge) (p : Pos), OldestEdge s before ⟨.e, false, p⟩ behind →
    (tracks s.run.state = false → exec .entryTrailingEdge s = .next (withEdges (before ++ behind) s)) ∧
    (tracks s.run.state = true →
      (∀ y ∈ s.tracker.table.getLast?, y.trail ≠ none) →
      exec .entryTrailingEdge s = .next { s with tracker := { s.tracker with
        edges := before ++ behind, prevTrail := some p } }) ∧
    (∀ (older : List Ticket) (y : Ticket), tracks s.run.state = true → NumbersDiffer s →
      s.tracker.table = older ++ [y] → y.trail = none →
      let len := min 65535 (p - y.lead).toNat
      exec .entryTrailingEdge s = .next { s with tracker := { s.tracker with
        edges := before ++ behind
        prevTrail := some p
        table := older ++ [{ y with
          trail := some p
          length := some len
          size := if y.size ≠ some .long ∧ len < s.tracker.geometry.minLen then some .short else y.size
          state := if y.state = .entering then .scanning else y.state }] } })

/-- R13, R14: the LONG check and the stuck-letter check of the oldest ticket due are made once. With its trail
recorded, or accepted and about to be, neither does anything more; without it the LONG check sets LONG and is the
ticket's decision point, and the stuck-letter check raises JAM for cell E with the ticket's number. A check is due
from its position on, the model's reading of R1 (log 3), for a ticket that has not had it, and never again for one
that has. The two marks that a check has been made are the model's own fields (log 29). -/
def Obligations.LengthChecksOnce : Prop :=
  (∀ (s : State) (t0 : Ticket),
    (s.tracker.table.find? (longDue s) = some t0 →
      let s1 := withTable (rewrite t0.number (fun u => { u with longChecked := true }) s.tracker.table) s
      (trailAbsent s t0 = false → exec .longCheck s = .next s1) ∧
      (trailAbsent s t0 = true → exec .longCheck s =
        .next (decisionPoint t0.number (withTable (rewrite t0.number
          (fun u => { u with size := some .long, longChecked := true }) s.tracker.table) s)))) ∧
    (s.tracker.table.find? (stuckDue s) = some t0 →
      let s1 := withTable (rewrite t0.number (fun u => { u with stuckChecked := true }) s.tracker.table) s
      (trailAbsent s t0 = false → exec .stuckLetterCheck s = .next s1) ∧
      (trailAbsent s t0 = true → exec .stuckLetterCheck s =
        .next (raiseCause .jam (.jam .e .stuck none) (some t0.number) .request
          (inBothSets (bump .jams) s1))))) ∧
  (∀ (s : State) (y : Ticket),
    (y.longChecked = true → longDue s y = false) ∧ (y.stuckChecked = true → stuckDue s y = false) ∧
    (y.longChecked = false →
      (longDue s y = true ↔
        0 ≤ (s.tracker.belt - (y.lead + BitVec.ofNat 32 s.tracker.geometry.maxLen)).toInt)) ∧
    (y.stuckChecked = false →
      (stuckDue s y = true ↔
        0 ≤ (s.tracker.belt - (y.lead + BitVec.ofNat 32 (4 * s.tracker.geometry.maxLen))).toInt)))

/-- R3, R15, R16: a leading edge at G, M or K is matched to the oldest ticket eligible there whose window holds its
position, both ends included, and adds the cell to that ticket's cells seen. A ticket is matched only while none of
its windows has closed unmatched (R17). `missed`, which says that one has, is the model's own field (log 29).
Outside RUNNING, HELD and DRAINING an edge at G, M, K or S is ignored. The model's one stop (log 12): a match at S
of a ticket without an outcome, which R19 says cannot be, stops with the fault that names it. -/
def Obligations.ArrivalEdgesMatched : Prop :=
  (∀ (s : State) (x : ArrivalCell) (before behind : List Edge) (p : Pos),
     OldestEdge s before ⟨arrivalCell x, true, p⟩ behind →
     (tracks s.run.state = false → exec (.arrivalMatch x) s = .next (withEdges (before ++ behind) s)) ∧
     (∀ (older younger : List Ticket) (y : Ticket), x ≠ .s → tracks s.run.state = true → NumbersDiffer s →
       s.tracker.table = older ++ y :: younger →
       (∀ z ∈ older, matchesEdge s.tracker.geometry x p z = false) → eligible y x = true → y.missed = false →
       -(s.tracker.geometry.jamTol : Int) ≤
         (p - (y.lead + BitVec.ofNat 32 (cellPlace s.tracker.geometry x))).toInt →
       (p - (y.lead + BitVec.ofNat 32 (cellPlace s.tracker.geometry x))).toInt ≤ s.tracker.geometry.jamTol →
       exec (.arrivalMatch x) s = .next { s with tracker := { s.tracker with
         edges := before ++ behind
         table := older ++
           (match x with
             | .g => { y with seenG := true }
             | .m => { y with seenM := true }
             | .k => { y with seenK := true }
             | .s => y) :: younger } })) ∧
  (∀ (s : State) (before behind : List Edge) (p : Pos) (y : Ticket),
     OldestEdge s before ⟨.s, true, p⟩ behind → tracks s.run.state = true →
     s.tracker.table.find? (matchesEdge s.tracker.geometry .s p) = some y → y.outcome = none →
     exec (.arrivalMatch .s) s = .fault .undecidedCommit)

/-- R16 to R18: an edge that no ticket is matched by raises JAM as an unexpected letter with its position, and a
ticket's window that closes unmatched raises JAM as a missing letter with the ticket's number; JAMS is counted at
each. A window closes for a ticket eligible at its cell from expected + jam tolerance + filter on, the model's
reading of R1 (log 3), after every accepted edge that falls in it has been matched, and for a ticket once missed at
no cell again. A ticket once missed is matched at no cell either; any other exactly where it is eligible and its
window holds the position. `missed` is the model's own field (log 29).  -/
def Obligations.UnmatchedRaisesJam : Prop :=
  (∀ (s : State) (x : ArrivalCell) (before behind : List Edge) (p : Pos),
    OldestEdge s before ⟨arrivalCell x, true, p⟩ behind → tracks s.run.state = true →
    (∀ z ∈ s.tracker.table, matchesEdge s.tracker.geometry x p z = false) →
    exec (.arrivalMatch x) s = .next (raiseCause .jam (.jam (arrivalCell x) .unexpected (some p)) none
      .request (inBothSets (bump .jams) (withEdges (before ++ behind) s)))) ∧
  (∀ (s : State) (x : ArrivalCell) (y : Ticket), s.tracker.table.find? (closeDue s x) = some y →
    exec (.arrivalWindowClose x) s = .next (raiseCause .jam (.jam (arrivalCell x) .missing none)
      (some y.number) .request (inBothSets (bump .jams)
        (withTable (rewrite y.number (fun u => { u with missed := true }) s.tracker.table) s)))) ∧
  (∀ (s : State) (x : ArrivalCell) (y : Ticket),
    (y.missed = true → closeDue s x y = false) ∧
    (y.missed = false →
      let g := s.tracker.geometry
      (closeDue s x y = true ↔ eligible y x = true ∧
        (∀ p : Pos, ⟨arrivalCell x, true, p⟩ ∈ s.tracker.edges → matchesEdge g x p y = false) ∧
        0 ≤ (s.tracker.belt - (y.lead + BitVec.ofNat 32 (cellPlace g x) +
          BitVec.ofNat 32 (g.jamTol + g.filter))).toInt))) ∧
  (∀ (g : Geometry) (x : ArrivalCell) (p : Pos) (y : Ticket),
    (y.missed = true → matchesEdge g x p y = false) ∧
    (y.missed = false →
      (matchesEdge g x p y = true ↔ eligible y x = true ∧
        -(g.jamTol : Int) ≤ (p - (y.lead + BitVec.ofNat 32 (cellPlace g x))).toInt ∧
        (p - (y.lead + BitVec.ofNat 32 (cellPlace g x))).toInt ≤ g.jamTol)))

/-- R19, R108 to R116, R124, R125, R131, R133: a commit at S takes the ticket from the table and leaves the others
in order. It goes to the bin that `resolve` gives: COMMITTED, the OUTCOME of its outcome and the BIN of that bin
each rise by one in both sets, BIN_FORCED where it was forced, OVERRUN where the bin is CLOSED, BATCHES where it
fills the bin, and no other counter. The bin's count falls by one; at its last letter the bin is reloaded with a
tray-swap pulse in AUTO and closed in HOLD, with a BATCH notice. The route's actions are made where their due is
reached, the others queued. A COMMITTED LETTER notice with that bin follows. A drain ends where the table is left
empty (R140). That a ticket matched with its strike result still PENDING commits with it, and that a close made at
once leaves an OPEN of its flap queued, are the model's choices (logs 39 and 41). -/
def Obligations.CommitCountsOnce : Prop :=
  ∀ (s : State) (before behind : List Edge) (p : Pos) (older younger : List Ticket) (y : Ticket)
    (o : LetterOutcome),
    OldestEdge s before ⟨.s, true, p⟩ behind → tracks s.run.state = true → NumbersDiffer s →
    s.tracker.table = older ++ y :: younger →
    (∀ z ∈ older, matchesEdge s.tracker.geometry .s p z = false) →
    matchesEdge s.tracker.geometry .s p y = true → y.outcome = some o →
    let r := resolve s y o
    let b := r.bin
    let k := s.stacker.bins.get b
    let base := k.pendingBase.getD k.base
    let fills := k.state = .opened ∧ k.current ≤ 1
    let k' : BinRecord :=
      if k.state = .closed then k
      else if 1 < k.current then { k with current := k.current - 1 }
      else if k.mode = .auto then
        { k with base := base, pendingBase := none, current := base, batch := k.batch + 1 }
      else { k with current := 0, state := .closed, batch := k.batch + 1 }
    ∃ t : State, exec (.arrivalMatch .s) s = .next t ∧
      t = { s with tracker := t.tracker, stacker := t.stacker, tally := t.tally, run := t.run, link := t.link } ∧
      t.tracker.table = older ++ younger ∧ t.tracker.edges = before ++ behind ∧
      t.tracker.belt = s.tracker.belt ∧ t.tracker.geometry = s.tracker.geometry ∧
      t.run.causes = s.run.causes ∧
      t.run.state = (if older ++ younger = [] then
        (if s.run.state = .draining .finish then .idle
        else if s.run.state = .draining .hold then .held else s.run.state) else s.run.state) ∧
      t.stacker = { s.stacker with
        bins := s.stacker.bins.set b k'
        trays := if fills ∧ k.mode = .auto then s.stacker.trays.set b (some 50) else s.stacker.trays
        flaps := (r.actions.filter fun a => reached s.tracker.belt a.due).foldl
          (fun l a => l.set a.flap a.opens) s.stacker.flaps
        queue := (r.actions.filter fun a => !reached s.tracker.belt a.due).foldl
          (fun q a => insertAction a q) s.stacker.queue } ∧
      Posted ([.committed, .outcome o, .bin b] ++ (if r.forced then [.binForced] else []) ++
        (if k.state = .closed then [.overrun] else []) ++ (if fills then [.batches b] else [])) s t ∧
      (s.link.letterEnable = true → sharedUsed s.link < 58 →
        s.link.outbound ++
          (if fills then [.notice (.batch b (k.batch + 1) k.base .count k.mode k'.state k'.base k'.current
            s.uptime)] else []) ++
          [.notice (.letter ⟨none, p, s.uptime, { y with bin := some b, binForced := r.forced },
            if k.state = .opened then some (k.batch + 1) else none⟩)] <+: t.link.outbound)

/-! ### Detection and decision -/

/-- R33, R34, R41: the start of a ticket's window 1 brings each channel's pending record into force, binds a
copy of the record in force to a new span that holds the samples of every step from lead + scan line to the
belt's position, and discards the gap window in progress. That the span then holds one sample for each of those
steps, where the channel keeps as many, is how the model meets R33 for a scan line below the filter, whose
first steps come before the ticket (log 13). `spanStarted`, `recent` and `leadIn` are the model's own fields
(logs 13 and 29). -/
def Obligations.WindowOneStartsSpans : Prop :=
  ∀ (s : State) (y : Ticket), s.tracker.table.find? (windowDue s) = some y →
    let start := y.lead + BitVec.ofNat 32 s.tracker.geometry.scanLine
    let steps := (s.tracker.belt - start).toNat + 1
    exec .window1Start s = .next { s with
      tracker := { s.tracker with
        table := rewrite y.number (fun u => { u with spanStarted := true }) s.tracker.table }
      channels := s.channels.map fun k => { k with
        inForce := k.pendingRecord.getD k.inForce
        pendingRecord := none
        spans := k.spans ++ [{
          ticket := y.number
          bound := k.pendingRecord.getD k.inForce
          done := []
          start := start
          samples := k.recent.drop (k.recent.length - steps)
          mark := none }]
        leadIn := []
        gap := ⟨k.gap.start, []⟩ } } ∧
    ∀ k ∈ s.channels.toList, steps ≤ k.recent.length →
      (k.recent.drop (k.recent.length - steps)).length = steps ∧
      s.tracker.belt = start + BitVec.ofNat 32 steps - 1

/-- R34, R35, R37, R38: the completion of a gap window of eight steps on the first channel that holds a
completed window, with no letter window complete there, enters the window in the ring, and moves both
baselines and the fast-acquire count where it is neither cold nor clipped. No other channel changes. R38: a
baseline moves to a value between its old value and twice the window sum. R26, R31, R35, R36: the quantities and
the class of a window, and its clipped and cold flags. That one command completes one channel's window, in
channel order, is the model's choice (log 11). -/
def Obligations.GapWindowMovesBaselines : Prop :=
  (∀ (s : State) (c : Channel), allChannels.find? (fun d => windowReady (s.channels.get d)) = some c →
     (∀ sp ∈ (s.channels.get c).spans, sp.samples.length < 8) → (s.channels.get c).gap.samples.length = 8 →
     let k := s.channels.get c
     let w := windowOf k.inForce k.bp k.bf k.gap.start k.gap.samples
     let sp := (k.gap.samples.map Sample.p).sum
     let sf := (k.gap.samples.map Sample.f).sum
     let d : Int := if 0 < k.fast then 2 else 16
     let updates := !w.cold && !w.clipped
     exec .windowCompletion s = .next { s with channels := s.channels.set c { k with
       gap := ⟨k.gap.start + 8, []⟩
       ring := (k.ring ++ [(⟨w, none⟩ : RingEntry)]).drop (k.ring.length + 1 - 128)
       bp := if updates then (k.bp + Int.tdiv (2 * sp - k.bp) d).toNat else k.bp
       bf := if updates then (k.bf + Int.tdiv (2 * sf - k.bf) d).toNat else k.bf
       fast := if updates then k.fast - 1 else k.fast } }) ∧
  (∀ b sum d : Nat, 0 < d →
     (b ≤ 2 * sum → b ≤ moveBaseline b sum d ∧ moveBaseline b sum d ≤ 2 * sum) ∧
     (2 * sum ≤ b → 2 * sum ≤ moveBaseline b sum d ∧ moveBaseline b sum d ≤ b)) ∧
  (∀ (h : Threshold) (bp bf : Nat) (start : Pos) (xs : List Sample),
     let fs := xs.map Sample.f
     let ea := (xs.map Sample.p).sum - bp / 2
     let ef := fs.sum - bf / 2
     let level := min 255 (bf / 16 + h.transLevel)
     let t := ((fs.zip fs.tail).filter fun p => decide (¬(level ≤ p.1 ↔ level ≤ p.2))).length
     windowOf h bp bf start xs = {
       start := start
       ea := ea
       ef := ef
       t := t
       cls :=
         if h.tagHigh ≤ ea then .stamp
         else if h.tagLow ≤ ea then (if t ≤ h.transLow then .stamp else .none)
         else if h.meterHigh ≤ ef ∧ t ≤ h.transHigh then .meter
         else .none
       clipped := xs.any Sample.clipped
       cold := xs.any Sample.cold })

/-- R31, R37, R48: the completion of a letter window enters it in the ring with its ticket's number, classed
by the bound record, sets the cold flag of its side on its ticket where it is cold, and leaves the other
channels, the belt and the table's numbers as they were. R8, R33, R34, R37, R43 to R46, R50: then the marks that
the window closes reach the ticket in order; the span goes on with its next window, or, at window W, ends, a
gap window beginning at the next step, and is reported to the decision unit, which decides a ticket whose span
is then complete on all four channels, unless it is LONG or decided. A span without its ticket ends. A cold
flag that is set raises its side's wake-error count. That one command completes one window, in channel order,
is the model's choice (log 11). -/
def Obligations.LetterWindowCompletes : Prop :=
  (∀ (s : State) (c : Channel) (before behind : List Span) (sp : Span),
    allChannels.find? (fun d => windowReady (s.channels.get d)) = some c →
    (s.channels.get c).spans = before ++ sp :: behind → (∀ x ∈ before, x.samples.length < 8) →
    8 ≤ sp.samples.length → NumbersDiffer s →
    let k := s.channels.get c
    let w := windowOf sp.bound k.bp k.bf sp.start (sp.samples.take 8)
    let done := sp.done ++ [w]
    let ring := (k.ring ++ [(⟨w, some sp.ticket⟩ : RingEntry)]).drop (k.ring.length + 1 - 128)
    let s1 : State := { s with channels := s.channels.set c { k with ring := ring } }
    (∃ t : State, exec .windowCompletion s = .next t ∧
      (t.channels.get c).ring = ring ∧
      (t.channels.get c).bp = k.bp ∧ (t.channels.get c).bf = k.bf ∧ (t.channels.get c).fast = k.fast ∧
      (∀ d, d ≠ c → t.channels.get d = s.channels.get d) ∧ t.tracker.belt = s.tracker.belt ∧
      t.tracker.table.map Ticket.number = s.tracker.table.map Ticket.number ∧
      (∀ y ∈ t.tracker.table, y.number = sp.ticket → w.cold = true →
        y.cold.get (channelSide c) = true)) ∧
    ((∀ y ∈ s.tracker.table, y.number ≠ sp.ticket) →
      exec .windowCompletion s = .next { s with channels := s.channels.set c { k with
        ring := ring, spans := before ++ behind, gap := ⟨sp.start + 8, []⟩ } }) ∧
    (∀ y ∈ s.tracker.table, y.number = sp.ticket →
      let ends := (spanEnd s.tracker.geometry y).any fun last => decide (last ≤ done.length)
      let found := findMarks s.tracker.geometry y c ends done sp.mark
      let s2 := found.2.foldl (fun u m => deliverMark sp.ticket sp.bound.minMark m u)
        (if w.cold then flagCold sp.ticket (channelSide c) s1 else s1)
      let next : Span :=
        { sp with done := done, start := sp.start + 8, samples := sp.samples.drop 8, mark := found.1 }
      let goesOn : ScanChannel := { k with ring := ring, spans := before ++ next :: behind }
      let ended : ScanChannel := { k with ring := ring, spans := before ++ behind, gap := ⟨sp.start + 8, []⟩ }
      (ends = false →
        exec .windowCompletion s = .next { s2 with channels := s.channels.set c goesOn }) ∧
      (ends = true → exec .windowCompletion s =
        .next (judgeComplete sp.ticket { s2 with channels := s.channels.set c ended })))) ∧
  (∀ (s : State) (y : Ticket) (d : Side), ticketOf s y.number = some y →
    (y.cold.get d = true → flagCold y.number d s = s) ∧
    (y.cold.get d = false → flagCold y.number d s =
      withTable (rewrite y.number (fun u => { u with cold := u.cold.set d true }) s.tracker.table)
        { s with lamps := { s.lamps with
          wakeErrors := s.lamps.wakeErrors.set d (min 65535 (s.lamps.wakeErrors.get d + 1)) } }) ∧
    (judgeComplete y.number s =
      if y.spanStarted = true ∧ (∀ k ∈ s.channels.toList, ∀ sp ∈ k.spans, sp.ticket ≠ y.number) ∧
        y.size ≠ some .long ∧ y.state ≠ .decided then decisionPoint y.number s else s))

/-- R43, R46: mark finding by two of three. An open mark of a kind stays open while at least two of the windows
considered are of its class; an idle state opens a mark exactly where two of them share STAMP or METER, of that
kind and from the earliest such window; a mark that closes leaves the state to be tested as idle; and at the end of
the span a mark still open closes too. R44, R45: a closed mark's start, end and clamp, length, score, clipped flag
and peak, from its windows up to the last of its kind; that one whose ticket's length is not known is not clamped
is the model's reading (log 30). A closing mark joins a list of fewer than six, and takes the place of the lowest
score, the last to have closed of several, in a list of six if its score is higher. R8, R45: a mark shorter than
min_mark is a speck, counted and kept from the list; another joins its ticket's list, a full list setting
MANY_MARKS, counted once; for a ticket gone nothing happens. -/
def Obligations.MarksByTwoOfThree : Prop :=
  ∀ (g : Geometry) (y : Ticket) (c : Channel) (done : List Window),
    (∀ o : OpenMark, 2 ≤ countClass (classOfKind o.kind) (considered done) →
      findMarks g y c false done (some o) = (some o, [])) ∧
    (∀ o : OpenMark, countClass (classOfKind o.kind) (considered done) < 2 →
      findMarks g y c false done (some o) =
        ((findMarks g y c false done none).1, [closedMark g y c o done])) ∧
    (∀ ends : Bool, ((findMarks g y c ends done none).1 ≠ none ∨ (findMarks g y c ends done none).2 ≠ []) ↔
      (2 ≤ countClass .stamp (considered done) ∨ 2 ≤ countClass .meter (considered done))) ∧
    (∀ (kind : MarkKind) (before behind : List Window) (w : Window), done = before ++ w :: behind →
      behind.length ≤ 2 → w.cls = classOfKind kind →
      (∀ x ∈ before.drop (done.length - 3), x.cls ≠ classOfKind kind) →
      2 ≤ countClass (classOfKind kind) (considered done) →
      findMarks g y c false done none = (some ⟨kind, before.length + 1⟩, [])) ∧
    (∀ o : Option OpenMark, findMarks g y c true done o =
      (none, (findMarks g y c false done o).2 ++
        ((findMarks g y c false done o).1.map fun x => closedMark g y c x done).toList)) ∧
    (∀ (o : OpenMark) (before behind : List Window) (w : Window), done = before ++ w :: behind →
      w.cls = classOfKind o.kind → (∀ x ∈ behind, x.cls ≠ classOfKind o.kind) →
      let stop := 8 * (before.length + 1)
      let stop' :=
        match y.length with
        | some n => min stop n
        | none => if y.size = some .long then min stop g.maxLen else stop
      let ws := (before ++ [w]).drop (o.first - 1)
      let own := ws.filter fun x => decide (x.cls = classOfKind o.kind)
      let value := fun x : Window =>
        match o.kind with
        | .stamp => x.ea
        | .meter => x.ef
      let m := closedMark g y c o done
      m.channel = c ∧ m.kind = o.kind ∧ m.start = 8 * (o.first - 1) ∧ m.length = stop' - 8 * (o.first - 1) ∧
        m.score = min 65535 (own.map value).sum ∧ m.clipped = ws.any Window.clipped ∧
        (∀ x ∈ own, value x ≤ m.peak) ∧ (own ≠ [] → ∃ x ∈ own, value x = m.peak)) ∧
    (∀ (m : Mark) (ms : List Mark), ms.length < 6 → joinMarks m ms = ms ++ [m]) ∧
    (∀ (m x : Mark) (before behind : List Mark), before.length + behind.length = 5 →
      (∀ z ∈ before ++ behind, x.score ≤ z.score) → (∀ z ∈ behind, z.score ≠ x.score) → x.score ≤ 65535 →
      joinMarks m (before ++ x :: behind) =
        if x.score < m.score then before ++ behind ++ [m] else before ++ x :: behind) ∧
    (∀ (n : U16) (minMark : Nat) (m : Mark) (s : State),
      (ticketOf s n = none → deliverMark n minMark m s = s) ∧
      (∀ z, ticketOf s n = some z → m.length < minMark →
        deliverMark n minMark m s = inBothSets (bump .specks) s) ∧
      (∀ z, ticketOf s n = some z → minMark ≤ m.length →
        let full := decide (6 ≤ z.marks.length)
        let t := withTable (rewrite n (fun u => { u with
          marks := joinMarks m u.marks, manyMarks := u.manyMarks || full }) s.tracker.table) s
        deliverMark n minMark m s =
          if full = true ∧ z.manyMarks = false then inBothSets (bump .manyMarks) t else t))

/-- R57 to R60: a channel's score is the sum of its STAMP marks of at least the floor. With dominance of at least
12 eighths, a channel whose score is above 0 and at least dom8 eighths of every other channel's gives its class,
path and head, SECONDARY where another channel scores, and as cancel mark its STAMP mark of the highest score, the
earliest of several; where some channel scores and none dominates so, the class is AMBIG; where none scores it is
METER with a METER mark in the list, else NONE: these with path ANY, no head and SECONDARY clear. R56: a ticket
with a size flag or a cold flag is not judged on its marks: NONE, ANY, no head. -/
def Obligations.DominanceGivesClass : Prop :=
  (∀ (r : DecideRecord) (marks : List Mark), 12 ≤ r.dom8 →
    let cs := fun c : Channel =>
      ((marks.filter fun m => decide (m.channel = c ∧ m.kind = .stamp ∧ r.floor ≤ m.score)).map Mark.score).sum
    let v := scoreVerdict r marks
    (∀ c : Channel, 0 < cs c → (∀ d, d ≠ c → r.dom8 * cs d ≤ 8 * cs c) →
      (v.cls, v.required, v.head) =
        (match c with
        | .au => (.fa, .straight, .on .a)
        | .al => (.ia, .turn, .on .b)
        | .bu => (.fb, .straight, .on .b)
        | .bl => (.ib, .turn, .on .a)) ∧
      (v.secondary = true ↔ ∃ d, d ≠ c ∧ 0 < cs d) ∧
      ∃ (before behind : List Mark) (m : Mark), marks = before ++ m :: behind ∧ v.mark = some m ∧
        m.channel = c ∧ m.kind = .stamp ∧ r.floor ≤ m.score ∧
        (∀ x ∈ before, x.channel = c → x.kind = .stamp → x.score < m.score) ∧
        (∀ x ∈ behind, x.channel = c → x.kind = .stamp → x.score ≤ m.score)) ∧
    ((∃ c, 0 < cs c) → (∀ c, ∃ d, d ≠ c ∧ 8 * cs c < r.dom8 * cs d) →
      v = ⟨.ambig, .any, .none, false, none⟩) ∧
    ((∀ c, cs c = 0) → (∃ m ∈ marks, m.kind = .meter) → v = ⟨.meter, .any, .none, false, none⟩) ∧
    ((∀ c, cs c = 0) → (∀ m ∈ marks, m.kind ≠ .meter) → v = ⟨.none, .any, .none, false, none⟩)) ∧
  (∀ (r : DecideRecord) (y : Ticket),
    (y.size ≠ none ∨ y.cold.a = true ∨ y.cold.b = true → verdict r y = ⟨.none, .any, .none, false, none⟩) ∧
    (y.size = none → y.cold = ⟨false, false⟩ → verdict r y = scoreVerdict r y.marks))

/-- R50 to R52, R56, R63, R65: a ticket of the table that reaches its decision point with every older ticket
DECIDED, none waiting, becomes DECIDED with the class, required path and SECONDARY of its verdict; its outcome is
LONG, SHORT or LAMP_COLD where its size flag or a cold flag says so. A ticket with an undecided elder joins the
waiting list and nothing else changes. R52: the decision of a ticket frees the waiting ticket behind it, which is
decided next. R61 to R65, R89 to R93: a decision writes the ticket, its path request acts on the gate, and a head
gives it a strike plan: PENDING, or MISSED with its stamped outcome HAND_CANCEL; without a head the strike is
NOT_REQUIRED. That PM_SHORT and NO_POSTMARK are the plan's also where it has no band is the model's reading (log
22). A forced ticket is REFACE without a head. No other ticket changes. -/
def Obligations.DecisionPointDecides : Prop :=
  (∀ (s : State) (older younger : List Ticket) (y : Ticket), s.tracker.table = older ++ y :: younger →
    NumbersDiffer s →
    ((∀ z ∈ older, z.state = .decided) → s.facing.waiting = [] → ∃ (older' younger' : List Ticket)
        (z : Ticket), (decisionPoint y.number s).tracker.table = older' ++ z :: younger' ∧
      older'.length = older.length ∧ z.number = y.number ∧ z.state = .decided ∧
      z.cls = some (verdict s.facing.record y).cls ∧ z.required = some (verdict s.facing.record y).required ∧
      z.secondary = (verdict s.facing.record y).secondary ∧ z.marks = y.marks ∧
      (y.size = some .long → z.outcome = some .long) ∧ (y.size = some .short → z.outcome = some .short) ∧
      (y.size = none → y.cold.a = true ∨ y.cold.b = true → z.outcome = some .lampCold)) ∧
    ((∃ z ∈ older, z.state ≠ .decided) →
      decisionPoint y.number s = { s with facing := { s.facing with
        waiting := (decisionPoint y.number s).facing.waiting } } ∧
      y.number ∈ (decisionPoint y.number s).facing.waiting)) ∧
  (∀ (s : State) (older younger : List Ticket) (y : Ticket), s.tracker.table = older ++ y :: younger →
    NumbersDiffer s →
    let v := verdict s.facing.record y
    let a := pathAnswer s y v.required
    let o := decisionOutcome y a.2 v.cls
    let u := decideTicket y s
    ((∀ z ∈ older, z.state = .decided) → s.facing.waiting = [] → decisionPoint y.number s = u) ∧
    (∀ (w : Ticket) (rest : List Ticket), (∀ z ∈ older, z.state = .decided) → younger = w :: rest →
      s.facing.waiting = [w.number] →
      decisionPoint y.number s = decideTicket w { u with facing := { s.facing with waiting := [] } }) ∧
    u.facing = s.facing ∧ u.gate = (pathRequest y v.required s).gate ∧
    ∃ z : Ticket, u.tracker = { s.tracker with table := older ++ z :: younger } ∧
      z = { y with
        state := .decided
        cls := some v.cls
        required := some v.required
        head := some (if a.2 then .none else v.head)
        secondary := v.secondary
        taken := some a.1
        pathForced := a.2
        outcome := some (if z.strike = some .missed then handCancelled o else o)
        band := z.band
        strike := z.strike
        pmShort := z.pmShort
        noPostmark := z.noPostmark } ∧
      (a.2 = true ∨ v.head = .none → z.strike = some .notRequired ∧ z.band = y.band ∧
        z.pmShort = y.pmShort ∧ z.noPostmark = y.noPostmark ∧ u.cancel = s.cancel ∧
        Posted (if a.2 then [.pathForced] else []) s u) ∧
      (∀ h : Head, a.2 = false → v.head = .on h → ∃ m ∈ y.marks, v.mark = some m ∧
        (let p := planStrike s.cancel.record s.cancel.active m.start (m.start + m.length) (y.length.getD 0)
        let queued := p.band.isSome && decide ((s.cancel.heads.get h).queue.length < 8)
        z.band = p.band ∧ z.pmShort = p.pmShort ∧ z.noPostmark = p.noPostmark ∧
        z.strike = some (if queued then .pending else .missed) ∧
        u.cancel = (planFor y h m.start m.length (y.length.getD 0) s).cancel ∧
        Posted (if queued then [] else [.missed h]) s u))) ∧
  (∀ (y : Ticket) (c : LetterClass), y.size = none → y.cold = ⟨false, false⟩ →
    decisionOutcome y true c = .reface ∧
    decisionOutcome y false c =
      match c with
      | .fa => .facedA
      | .fb => .facedB
      | .ia => .turnedToB
      | .ib => .turnedToA
      | .meter => .meter
      | .none => .noMark
      | .ambig => .ambiguous)

/-! ### The gate -/

/-- R72 to R75, R78, R81: the oldest gate entry, its due reached, leaves the queue; a confirm and a gate
exercise in progress are ended; then the output is set and a confirm starts unless the input already reads the
target. A confirm ends as done where its target is read, else by raising ACTUATOR with the ticket marked
GATE_UNCONFIRMED; a gate exercise ends by its reply, OK with the ms since its start or REFUSED
ACTUATOR_TIMEOUT. R69 to R71: a path request for ANY or for the planned position takes that position; for the other
path it queues a switch at the young end where the gap and the room allow, else forces the ticket, counted in
PATH_FORCED. That the switch goes on where the earlier confirm's end stopped the belt is the model's choice
(log 16). -/
def Obligations.GateSwitchesAtDue : Prop :=
  (∀ (s : State) (e : GateEntry) (rest : List GateEntry), s.gate.queue = e :: rest →
    reached s.tracker.belt e.due = true →
    let u := endGateExercise (endConfirm { s with gate := { s.gate with queue := rest } })
    exec .gateDue s = .next { u with gate := { u.gate with
      output := e.target
      confirm := if gateReads u.pins e.target then none
        else some ⟨e.target, e.ticket, u.tracker.geometry.gateConfirm⟩ } }) ∧
  (∀ s : State, s.gate.confirm = none → endConfirm s = s) ∧
  (∀ (s : State) (c : Confirm), s.gate.confirm = some c → gateReads s.pins c.target = true →
    endConfirm s = { s with gate := { s.gate with confirm := none } }) ∧
  (∀ (s : State) (c : Confirm), s.gate.confirm = some c → gateReads s.pins c.target = false →
    endConfirm s = raiseCause .actuator (.actuator (.gate c.target)) (some c.ticket) .request
      (withTable (rewrite c.ticket (fun u => { u with gateUnconfirmed := true }) s.tracker.table)
        { s with gate := { s.gate with confirm := none } })) ∧
  (∀ s : State, exerciseReplyDue s.gate = false → endGateExercise s = s) ∧
  (∀ (s : State) (p : Path) (left : Nat) (started : U32) (tag : Byte),
    s.gate.exercise = some (.gate p left started tag) →
    endGateExercise s = { s with
      gate := { s.gate with exercise := none }
      link := { s.link with outbound := s.link.outbound ++ [.reply 0x38 tag
        (if gateReads s.pins p then .ok (u8 (pathNumber p) ++ u8 (s.uptime - started).toNat)
          else .refused .actuatorTimeout)] } }) ∧
  (∀ (s : State) (y : Ticket) (q : ReqPath),
    let planned := plannedGate s.gate
    let gapOk := ∀ n ∈ y.gap, s.tracker.geometry.gateClear + s.tracker.geometry.gateLead ≤ n
    let answered := fun (p : Path) (forced : Bool) (u : State) =>
      withTable (rewrite y.number (fun x => { x with taken := some p, pathForced := forced })
        s.tracker.table) u
    (q = .any ∨ (q = .straight ∧ planned = .straight) ∨ (q = .turn ∧ planned = .turn) →
      pathAnswer s y q = (planned, false) ∧ pathRequest y q s = answered planned false s) ∧
    (∀ p : Path, (q = .straight ∧ p = .straight) ∨ (q = .turn ∧ p = .turn) → p ≠ planned →
      (gapOk → s.gate.queue.length < 8 →
        pathAnswer s y q = (p, false) ∧
        pathRequest y q s = answered p false { s with gate := { s.gate with
          queue := s.gate.queue ++ [⟨y.lead + BitVec.ofNat 32 s.tracker.geometry.gate -
            BitVec.ofNat 32 s.tracker.geometry.gateLead, p, y.number⟩] } }) ∧
      (¬gapOk ∨ 8 ≤ s.gate.queue.length →
        pathAnswer s y q = (planned, true) ∧
        pathRequest y q s = inBothSets (bump .pathForced) (answered planned true s))))

/-- R73, R78: a change of the gate confirm input ends a confirm or a gate exercise whose target it now reads,
and no other; a level that stays changes nothing. R73, R75, R78: at the expiry of its timer a confirm, and a
gate exercise, ends. That a level that stays changes nothing, and that a timer's command lets the rest of its
time pass, are the model's choices (logs 2 and 5). -/
def Obligations.GateConfirmEnds : Prop :=
  (∀ (s : State) (level : Bool),
     let s1 : State := { s with pins := { s.pins with gateConfirm := level } }
     (s.pins.gateConfirm = level → exec (.gateConfirmInput level) s = .next s) ∧
     (s.pins.gateConfirm ≠ level → exerciseReplyDue s.gate = false →
       (∀ c ∈ s.gate.confirm, gateReads s1.pins c.target = true) →
       exec (.gateConfirmInput level) s = .next { s1 with gate := { s.gate with confirm := none } }) ∧
     (s.pins.gateConfirm ≠ level → exerciseReplyDue s.gate = false →
       (∃ c ∈ s.gate.confirm, gateReads s1.pins c.target = false) →
       exec (.gateConfirmInput level) s = .next s1) ∧
     (∀ (p : Path) (left : Nat) (started : U32) (tag : Byte), s.pins.gateConfirm ≠ level →
       s.gate.confirm = none → s.gate.exercise = some (.gate p left started tag) →
       exec (.gateConfirmInput level) s =
         .next (if gateReads s1.pins p then endGateExercise s1 else s1))) ∧
  ((∀ (s : State) (c : Confirm), s.gate.confirm = some c →
     exec .gateConfirmTimeout s = .next (endConfirm (advance c.left s))) ∧
   (∀ (s : State) (p : Path) (left : Nat) (started : U32) (tag : Byte),
     s.gate.exercise = some (.gate p left started tag) →
     exec .gateExerciseTimeout s = .next (endGateExercise (advance left s))))

/-! ### The cancel heads -/

/-- R91: a strike band lies on the letter, from clearance after its leading edge to clearance before its trailing
edge; its end lies after its start; the postmark is no longer than the record's; and it carries a plate slot
exactly where it carries a postmark. R90, R92, R93: the plan of a ticket writes its flags and band; with a band and
fewer than 8 entries queued the ticket is PENDING and an entry joins its head's queue behind every entry it finds
before one that starts after it; else the ticket is MISSED. That the two flags are written as found also where the
cut leaves no band is the model's reading (log 22). The entry keeps the placement and length of the postmark for
the driver, the model's choice (log 37). -/
def Obligations.StrikeBandOnLetter : Prop :=
  (∀ (r : CancelRecord) (active : Option Slot) (ms me len : Nat) (b : Band),
    (planStrike r active ms me len).band = some b →
    r.clearance ≤ b.start ∧ b.start < b.stop ∧ b.stop + r.clearance ≤ len ∧ b.pmLength ≤ r.postmark ∧
      (0 < b.pmLength ↔ b.slot ≠ none) ∧ (b.slot ≠ none → b.slot = active)) ∧
  (∀ (y : Ticket) (h : Head) (ms len letter : Nat) (s : State),
    let p := planStrike s.cancel.record s.cancel.active ms (ms + len) letter
    let u := s.cancel.heads.get h
    let planned := fun (strike : Option StrikeResult) (s : State) =>
      withTable (rewrite y.number (fun x => { x with
        band := p.band, pmShort := p.pmShort, noPostmark := p.noPostmark
        strike := if strike.isSome then strike else x.strike }) s.tracker.table) s
    (p.band = none ∨ 8 ≤ u.queue.length →
      planFor y h ms len letter s = missStrike y.number h (planned none s)) ∧
    (∀ b, p.band = some b → u.queue.length < 8 → ∃ ahead behind : List StrikeEntry,
      let lead := y.lead + BitVec.ofNat 32 s.tracker.geometry.headLine
      let e : StrikeEntry := {
        ticket := y.number
        start := lead + BitVec.ofNat 32 b.start
        stop := lead + BitVec.ofNat 32 b.stop
        deadline := lead + BitVec.ofNat 32 ms
        slot := b.slot
        placement := b.placement
        pmLength := b.pmLength }
      u.queue = ahead ++ behind ∧ (∀ x ∈ ahead, after x.start e.start = false) ∧
      (∀ x ∈ behind.head?, after x.start e.start = true) ∧
      planFor y h ms len letter s = planned (some .pending) { s with cancel := { s.cancel with
        heads := s.cancel.heads.set h { u with queue := ahead ++ e :: behind } } }))

/-- R94, R96 to R98: at its start an entry not yet waiting finds its head READY and begins: STRUCK where its ticket
is in the table, STRIKES and the impression counted, and the driver handed the postmark with the plate of the
entry's slot, the entry's own placement and length, ticket or not (the model's choice, log 37); DISABLED and
becomes MISSED; or busy, and waits if its deadline lies after its start, else becomes MISSED. A waiting entry is
MISSED at its deadline. R93, R64: a ticket that becomes MISSED has strike result MISSED and a stamped outcome
changed to HAND_CANCEL, and MISSED is counted for the head; for a ticket gone from the table nothing changes. -/
def Obligations.StrikeStartsWaitsOrMisses : Prop :=
  (∀ (s : State) (h : Head) (e : StrikeEntry) (rest : List StrikeEntry),
    (s.cancel.heads.get h).queue = e :: rest →
    (reached s.tracker.belt e.start = true → (s.cancel.heads.get h).waiting = false →
      ((s.cancel.heads.get h).state = .ready → ∃ t : State, exec (.strikeStart h) s = .next t ∧
        t.cancel.heads = s.cancel.heads.set h {
          state := .striking (.letter e.ticket e.stop e.slot)
          queue := rest
          waiting := false
          handed := some ⟨e.placement, e.pmLength, e.slot.bind fun p => (s.cancel.slots.get p).plate⟩ } ∧
        (∀ p ∈ e.slot, t.cancel.slots = s.cancel.slots.set p { s.cancel.slots.get p with
          impressions := (s.cancel.slots.get p).impressions + 1 }) ∧
        (e.slot = none → t.cancel.slots = s.cancel.slots) ∧
        Posted (.strikes h :: (e.slot.map Counter.impressions).toList) s t ∧
        t = { withTable (rewrite e.ticket (fun u => { u with strike := some .struck }) s.tracker.table) s with
          cancel := { s.cancel with heads := t.cancel.heads, slots := t.cancel.slots }
          tally := t.tally }) ∧
      ((s.cancel.heads.get h).state = .disabled →
        exec (.strikeStart h) s = .next (missStrike e.ticket h { s with cancel := { s.cancel with
          heads := s.cancel.heads.set h { s.cancel.heads.get h with queue := rest, waiting := false } } })) ∧
      ((s.cancel.heads.get h).state ≠ .ready → (s.cancel.heads.get h).state ≠ .disabled →
        after e.deadline e.start = true →
        exec (.strikeStart h) s = .next { s with cancel := { s.cancel with
          heads := s.cancel.heads.set h { s.cancel.heads.get h with waiting := true } } }) ∧
      ((s.cancel.heads.get h).state ≠ .ready → (s.cancel.heads.get h).state ≠ .disabled →
        after e.deadline e.start = false →
        exec (.strikeStart h) s = .next (missStrike e.ticket h { s with cancel := { s.cancel with
          heads := s.cancel.heads.set h { s.cancel.heads.get h with queue := rest, waiting := false } } }))) ∧
    (reached s.tracker.belt e.deadline = true → (s.cancel.heads.get h).waiting = true →
      (s.cancel.heads.get h).state ≠ .ready →
      exec (.strikeDeadline h) s = .next (missStrike e.ticket h { s with cancel := { s.cancel with
        heads := s.cancel.heads.set h { s.cancel.heads.get h with queue := rest, waiting := false } } }))) ∧
  (∀ (n : U16) (h : Head) (s : State),
    (ticketOf s n = none → missStrike n h s = s) ∧
    (∀ y, ticketOf s n = some y → missStrike n h s = inBothSets (bump (.missed h)) (withTable
      (rewrite n (fun u => { u with
        strike := some .missed
        outcome := u.outcome.map fun o =>
          if o = .facedA ∨ o = .facedB ∨ o = .turnedToA ∨ o = .turnedToB then .handCancel else o })
        s.tracker.table) s)))

/-- R94, R98, R99, R80: a strike ends at its end position, and a test strike after its 20 ms, with the head
RECHARGING for the recharge time; the recharge's expiry makes the head READY, and an entry that waits then
begins LATE. That a timer's command lets the rest of its time pass is the model's choice (log 5). -/
def Obligations.StrikeEndsAndRecharges : Prop :=
  (∀ (s : State) (h : Head) (n : U16) (stop : Pos) (slot : Option Slot),
    (s.cancel.heads.get h).state = .striking (.letter n stop slot) → reached s.tracker.belt stop = true →
    exec (.strikeEnd h) s = .next { s with cancel := { s.cancel with
      heads := s.cancel.heads.set h { s.cancel.heads.get h with
        state := .recharging s.cancel.record.recharge } } }) ∧
  (∀ (s : State) (h : Head) (left : Nat), s.gate.exercise = some (.head h) →
    (s.cancel.heads.get h).state = .striking (.test left) →
    let s1 := advance left s
    exec .testStrikeEnd s = .next { s1 with
      gate := { s1.gate with exercise := none }
      cancel := { s1.cancel with heads := s1.cancel.heads.set h { s1.cancel.heads.get h with
        state := .recharging s.cancel.record.recharge } } }) ∧
  (∀ (s : State) (h : Head) (left : Nat), (s.cancel.heads.get h).state = .recharging left →
    (s.cancel.heads.get h).waiting = false →
    let s1 := advance left s
    exec (.rechargeExpiry h) s = .next { s1 with cancel := { s1.cancel with
      heads := s1.cancel.heads.set h { s1.cancel.heads.get h with state := .ready } } }) ∧
  (∀ (s : State) (h : Head) (left : Nat) (e : StrikeEntry) (rest : List StrikeEntry),
    (s.cancel.heads.get h).state = .recharging left → (s.cancel.heads.get h).queue = e :: rest →
    (s.cancel.heads.get h).waiting = true → ∃ t : State, exec (.rechargeExpiry h) s = .next t ∧
      (t.cancel.heads.get h).state = .striking (.letter e.ticket e.stop e.slot) ∧
      (t.cancel.heads.get h).queue = rest ∧
      t.tally.life.strikes.get h = s.tally.life.strikes.get h + 1 ∧
      t.tally.life.late.get h = s.tally.life.late.get h + 1 ∧
      t = { withTable (rewrite e.ticket (fun u => { u with strike := some .late }) s.tracker.table)
          (advance left s) with
        cancel := t.cancel, tally := t.tally })

/-- R95: a head fault input going active disables its head, whatever its state, and raises ACTUATOR with the
ticket of a strike it cuts; of a head with no waiting entry it changes, before that request, only the input,
the head's state and a head exercise it cuts. Going inactive it lets an enabled head recharge. -/
def Obligations.HeadFaultDisables : Prop :=
  (∀ (s : State) (h : Head), s.pins.headFault.get h = false → ∃ t : State,
    exec (.headFaultInput h true) s = .next t ∧ (t.cancel.heads.get h).state = .disabled ∧
    t.pins = { s.pins with headFault := s.pins.headFault.set h true } ∧
    t.run.faults.latest = some ⟨.actuator, s.run.causes.actuator.masked, .actuator (.head h),
      s.tracker.belt, s.uptime, strikeTicket (s.cancel.heads.get h).state⟩ ∧
    t.run.causes.actuator.latch = true ∧
    ((s.cancel.heads.get h).waiting = false → t = raiseCause .actuator (.actuator (.head h))
      (strikeTicket (s.cancel.heads.get h).state) .request { s with
        pins := { s.pins with headFault := s.pins.headFault.set h true }
        gate := { s.gate with exercise := exerciseCut h (s.cancel.heads.get h).state s.gate.exercise }
        cancel := { s.cancel with heads := s.cancel.heads.set h { s.cancel.heads.get h with
          state := .disabled } } })) ∧
  (∀ (s : State) (h : Head), s.pins.headFault.get h = true → s.cancel.record.enable.get h = true →
    (s.cancel.heads.get h).state = .disabled →
    exec (.headFaultInput h false) s = .next { s with
      pins := { s.pins with headFault := s.pins.headFault.set h false }
      cancel := { s.cancel with heads := s.cancel.heads.set h { s.cancel.heads.get h with
        state := .recharging s.cancel.record.recharge } } }) ∧
  (∀ (s : State) (h : Head), s.pins.headFault.get h = true → s.cancel.record.enable.get h = false →
    (s.cancel.heads.get h).state = .disabled →
    exec (.headFaultInput h false) s = .next { s with
      pins := { s.pins with headFault := s.pins.headFault.set h false } })

/-! ### The stacker's events -/

/-- R79, R114, R151: a flap exercise ends after its 100 ms with the flap state untouched, a tray-swap pulse
after its 50 ms with its line inactive, and a phase of the flashing beacon by beginning the other phase. R108,
R116: the oldest flap action, its due reached, leaves the queue and sets its flap; a new action joins the
queue behind every action it finds before one that is due after it. That a timer's command lets the rest of
its time pass is the model's choice (log 5). -/
def Obligations.PulsesPhasesAndFlapsEnd : Prop :=
  ((∀ (s : State) (x : Flap) (left : Nat), s.gate.exercise = some (.flap x left) →
     exec .flapExerciseEnd s = .next { advance left s with gate := { (advance left s).gate with
       exercise := none } }) ∧
   (∀ (s : State) (b : Bin) (left : Nat), s.stacker.trays.get b = some left →
     exec (.traySwapPulseEnd b) s = .next { advance left s with stacker := { s.stacker with
       trays := (s.stacker.trays.map (timerAfter left)).set b none } }) ∧
   (∀ (s : State) (left : Nat), s.run.beacon = .flashOn left →
     exec .beaconFlash s = .next { advance left s with run := { (advance left s).run with
       beacon := .flashOff 900 } }) ∧
   (∀ (s : State) (left : Nat), s.run.beacon = .flashOff left →
     exec .beaconFlash s = .next { advance left s with run := { (advance left s).run with
       beacon := .flashOn 100 } })) ∧
  ((∀ (s : State) (a : FlapAction) (rest : List FlapAction), s.stacker.queue = a :: rest →
     reached s.tracker.belt a.due = true →
     exec .flapDue s = .next { s with stacker := { s.stacker with
       queue := rest, flaps := s.stacker.flaps.set a.flap a.opens } }) ∧
   (∀ (a : FlapAction) (q : List FlapAction), ∃ ahead behind : List FlapAction, q = ahead ++ behind ∧
     insertAction a q = ahead ++ a :: behind ∧ (∀ x ∈ ahead, after x.due a.due = false) ∧
     ∀ x ∈ behind.head?, after x.due a.due = true))

/-- R109 to R111: a letter whose wanted bin is the route goes there with no action; where the wanted bin differs, a
sufficient gap and room send it there with the actions needed; else it is forced into the route with BIN_FORCED and
no action. R107: a flap's planned state is that of its youngest action queued, else its own; the route is the
lowest-numbered bin of a flap planned OPEN, else 6. R110: the actions are an open of the wanted bin's flap if it is
planned CLOSED, due at lead + its place − flap_lead, and a close of every other flap planned OPEN, due at lead +
its place − flap_lead below the wanted bin and, above it, flap_clear behind its place after the previous trail, or
at once where that is absent. That the open stands before the closes, and these in flap order, is the model's
reading (log 25), as is the youngest action read as the last in due order (log 41). -/
def Obligations.RouteChangedOrForced : Prop :=
  (∀ (s : State) (y : Ticket) (o : LetterOutcome),
    let row := s.stacker.plan.get o
    let b := if usable s row.primary then row.primary
      else if row.alternate.any (usable s) then row.alternate.getD .b6 else .b6
    let g := s.tracker.geometry
    let acts : List FlapAction :=
      ((flapOfBin b).toList.filter fun x => !plannedFlap s.stacker x).map (fun x =>
        ⟨y.lead + BitVec.ofNat 32 (g.flaps.get x) - BitVec.ofNat 32 g.flapLead, x, true, y.number⟩) ++
      (([.f1, .f2, .f3, .f4, .f5] : List Flap).filter fun x =>
          plannedFlap s.stacker x && decide (flapOfBin b ≠ some x)).map fun x =>
        ⟨if flapNumber x < binNumber b then
            y.lead + BitVec.ofNat 32 (g.flaps.get x) - BitVec.ofNat 32 g.flapLead
          else match y.gap with
            | some n => y.lead - BitVec.ofNat 32 n + BitVec.ofNat 32 (g.flaps.get x + g.flapClear)
            | none => s.tracker.belt, x, false, y.number⟩
    let gapOk := y.gap = none ∨ ∃ n ∈ y.gap, g.flapClear + g.flapLead ≤ n
    (b = route s.stacker → resolve s y o = ⟨b, false, []⟩) ∧
    (b ≠ route s.stacker → gapOk → s.stacker.queue.length + acts.length ≤ 16 →
      resolve s y o = ⟨b, false, acts⟩) ∧
    (b ≠ route s.stacker → ¬gapOk ∨ 16 < s.stacker.queue.length + acts.length →
      resolve s y o = ⟨route s.stacker, true, []⟩)) ∧
  (∀ (k : Stacker) (x : Flap),
    ((∀ a ∈ k.queue, a.flap ≠ x) → plannedFlap k x = k.flaps.get x) ∧
    (∀ (before behind : List FlapAction) (a : FlapAction), k.queue = before ++ a :: behind → a.flap = x →
      (∀ z ∈ behind, z.flap ≠ x) → plannedFlap k x = a.opens) ∧
    (plannedFlap k x = true → (∀ z, flapNumber z < flapNumber x → plannedFlap k z = false) →
      flapOfBin (route k) = some x) ∧
    ((∀ z, plannedFlap k z = false) → route k = .b6))

/-- R106, R142: a change of a bin's full input is reported in a BIN notice with the bin's state and count,
and for bin 6 going active raises STACK_FULL; a door or external stop input going active raises its cause,
and going inactive only changes the level. -/
def Obligations.InputsReportAndRequest : Prop :=
  ∀ (s : State) (level : Bool),
    (∀ b : Bin, s.pins.binFull.get b ≠ level →
      let s1 := handNotice (.bin b level (s.stacker.bins.get b).state (s.stacker.bins.get b).current s.uptime)
        { s with pins := { s.pins with binFull := s.pins.binFull.set b level } }
      exec (.binFullInput b level) s =
        .next (if b = .b6 ∧ level = true then raiseCause .stackFull .none none .request s1 else s1)) ∧
    (s.pins.door ≠ level →
      let s1 : State := { s with pins := { s.pins with door := level } }
      exec (.doorInput level) s =
        .next (if level then raiseCause .door .none none .request s1 else s1)) ∧
    (s.pins.extStop ≠ level →
      let s1 : State := { s with pins := { s.pins with extStop := level } }
      exec (.extStopInput level) s =
        .next (if level then raiseCause .extStop .none none .request s1 else s1))

/-! ### Run control's events and shared operations -/

/-- R22, R139, R145: the belt stall, the start timer's expiry and the link loss each let their time pass and
raise their cause, the first and last once until a new pulse or a restart. R139, R143: when the belt reaches the
start position in STARTING, and no cause of reaction BELT_STOP is in service, the state becomes RUNNING, or HELD
where a FEED_HOLD cause is in service and the table is empty; the start timer stops and the link-loss timer
restarts. 00_scope.md, Time: as milliseconds of uptime pass every running timer counts down to 0 and the two
timers since an event count up, nothing else changes, and passing in parts is passing at once. That a timer's
command lets the rest of its time pass, and does nothing where its timer does not act, are the model's choices
(logs 2 and 5). -/
def Obligations.TimersRaiseAndStartEnds : Prop :=
  ((∀ s : State, tracks s.run.state = true → s.tracker.stallRaised = false →
     let s1 := advance (s.tracker.geometry.stallTime - s.tracker.sincePulse) s
     exec .beltStall s = .next (raiseCause .beltStall (.stall .run) none .request
       { s1 with tracker := { s1.tracker with stallRaised := true } })) ∧
   (∀ (s : State) (left : Nat), s.run.startTimer = some left →
     let s1 := advance left s
     exec .startTimerExpiry s = .next (raiseCause .beltStall (.stall .start) none .request
       { s1 with run := { s1.run with startTimer := none } })) ∧
   (∀ s : State, tracks s.run.state = true → s.run.linkRaised = false →
     let s1 := advance (s.run.linkTimeout - s.run.sinceLink) s
     exec .linkLoss s = .next (raiseCause .linkLoss (.linkLoss s.run.linkTimeout s.run.lastValid) none
       .request { s1 with run := { s1.run with linkRaised := true } })) ∧
   (∀ s : State, tracks s.run.state = false ∨ s.tracker.stallRaised = true → exec .beltStall s = .next s) ∧
   (∀ s : State, tracks s.run.state = false ∨ s.run.linkRaised = true → exec .linkLoss s = .next s)) ∧
  (∀ (s : State) (p : Pos), s.run.state = .starting → s.run.startPos = some p →
     reached s.tracker.belt p = true → beltStopGroup s = false → s.tracker.table = [] →
     ∃ t : State, exec .startDone s = .next t ∧
       t.run.state = (if feedHoldGroup s then .held else .running) ∧ t.run.startTimer = none ∧
       t.run.startPos = none ∧ t.run.sinceLink = 0 ∧ t.run.linkRaised = false ∧
       t.run.causes = s.run.causes ∧ t = { s with run := t.run, link := t.link }) ∧
  (∀ (dt : Nat) (s : State),
     let t := advance dt s
     t = { s with
       uptime := s.uptime + BitVec.ofNat 32 dt
       tracker := { s.tracker with sincePulse := s.tracker.sincePulse + dt }
       lamps := { s.lamps with state := t.lamps.state, saver := s.lamps.saver.map (· - dt) }
       gate := { s.gate with
         confirm := s.gate.confirm.map fun c => { c with left := c.left - dt }
         exercise := t.gate.exercise }
       cancel := { s.cancel with heads := t.cancel.heads }
       stacker := { s.stacker with trays := s.stacker.trays.map (Option.map (· - dt)) }
       run := { s.run with
         startTimer := s.run.startTimer.map (· - dt)
         sinceLink := s.run.sinceLink + dt
         beacon := t.run.beacon }
       link := { s.link with receiver := t.link.receiver } } ∧
     (∀ d : Side, t.lamps.state.get d =
       match s.lamps.state.get d with
       | .warming n => .warming (n - dt)
       | l => l) ∧
     t.gate.exercise = (s.gate.exercise.map fun e =>
       match e with
       | .gate p n started tag => .gate p (n - dt) started tag
       | .flap x n => .flap x (n - dt)
       | .head h => .head h) ∧
     (∀ h : Head, t.cancel.heads.get h = { s.cancel.heads.get h with state :=
       match (s.cancel.heads.get h).state with
       | .recharging n => .recharging (n - dt)
       | .striking (.test n) => .striking (.test (n - dt))
       | x => x }) ∧
     t.run.beacon = (match s.run.beacon with
       | .flashOn n => .flashOn (n - dt)
       | .flashOff n => .flashOff (n - dt)
       | b => b) ∧
     t.link.receiver = (match s.link.receiver with
       | .inFrame held n => .inFrame held (n - dt)
       | .hunting => .hunting) ∧
     ∀ more : Nat, advance more t = advance (dt + more) s)

/-- R142, R149: a request of a cause is entered in the fault record, the first entry kept and the count raised to
at most 65535; it sets an event cause's latch; a masked cause stays out of service and the run state stands; an
unmasked cause is in service after it. A request of a masked cause, or of one in service, does no more. R142, R143,
R148: that of an unmasked cause not in service puts it in service with a STOP notice, and then the cause table is
evaluated; when the beacon is judged is the model's choice (log 27). R143, R144: the evaluation makes the belt
stop, a purge and then STOPPED; ends STOPPED; drains RUNNING, at once to HELD with an empty table; or returns to
RUNNING; else it changes nothing. -/
def Obligations.RequestRecordedAndServed : Prop :=
  (∀ (c : Cause) (d : SourceDetail) (n : Option U16) (why : StopReason) (s : State),
    let e := s.run.causes.get c
    let entry : FaultEntry := ⟨c, e.masked, d, s.tracker.belt, s.uptime, n⟩
    let t := raiseCause c d n why s
    t.run.faults = ⟨some (s.run.faults.first.getD entry), some entry, min 65535 (s.run.faults.count + 1)⟩ ∧
      (t.run.causes.get c).latch = (e.latch || !isLevel c) ∧ (t.run.causes.get c).masked = e.masked ∧
      (e.masked = true → t.run.state = s.run.state ∧ (t.run.causes.get c).inService = e.inService ∧
        t.tracker = s.tracker ∧ t.link = s.link) ∧
      (e.masked = false → (t.run.causes.get c).inService = true) ∧
      (∀ x, x ≠ c → t.run.causes.get x = s.run.causes.get x) ∧ t.pins = s.pins ∧
      t.stacker.bins = s.stacker.bins ∧ t.tracker.belt = s.tracker.belt) ∧
  (∀ (c : Cause) (d : SourceDetail) (n : Option U16) (why : StopReason) (s : State),
    let e := s.run.causes.get c
    let noted := fun on : Bool => ({ s with run := { s.run with
      faults := ⟨some (s.run.faults.first.getD ⟨c, e.masked, d, s.tracker.belt, s.uptime, n⟩),
        some ⟨c, e.masked, d, s.tracker.belt, s.uptime, n⟩, min 65535 (s.run.faults.count + 1)⟩
      causes := s.run.causes.set c { e with latch := e.latch || !isLevel c, detail := d, inService := on } } } : State)
    (e.masked = true ∨ e.inService = true → raiseCause c d n why s = noted e.inService) ∧
    (e.masked = false → e.inService = false → ∃ u : State, raiseCause c d n why s = evaluate u ∧ BeaconFollows u ∧
      u = { handNotice (.stop c true why d (leadingCause (noted true)) s.run.state s.uptime) (noted true) with
        run := { (noted true).run with beacon := u.run.beacon } })) ∧
  (∀ s : State,
    (beltStopGroup s = true → s.run.state ≠ .idle → s.run.state ≠ .stopped →
      evaluate s = enterRunState .stopped .cause (purge .beltStop s)) ∧
    (beltStopGroup s = true → s.run.state = .idle ∨ s.run.state = .stopped → evaluate s = s) ∧
    (beltStopGroup s = false →
      (s.run.state = .stopped → evaluate s = enterRunState .idle .cause s) ∧
      (s.run.state = .running → feedHoldGroup s = true →
        let drained := enterRunState (.draining .hold) .cause s
        evaluate s = if s.tracker.table = [] then enterRunState .held .drainDone drained else drained) ∧
      (s.run.state = .draining .hold ∨ s.run.state = .held →
        evaluate s = if feedHoldGroup s then s else enterRunState .running .cause s) ∧
      (s.run.state = .running → feedHoldGroup s = false → evaluate s = s) ∧
      (s.run.state = .idle ∨ s.run.state = .starting ∨ s.run.state = .draining .finish → evaluate s = s)))

/-- R140, R143: the run state after an evaluation of the cause table, as its four steps in order give it. R10,
R135, R139, R151: a change of run state queues a RUNSTATE notice with the state left and entered, the reason, the
leading cause, the occupancy, the position and the uptime; entering IDLE makes the previous trail absent and the
next ticket the first after IDLE, which has no gap (`firstTicket` is the model's own field, log 40); a state other
than STARTING has no start timer; the beacon is re-judged. -/
def Obligations.RunStateByEvaluation : Prop :=
  (∀ s : State, (evaluate s).run.state =
     if beltStopGroup s then
       (if s.run.state = .idle ∨ s.run.state = .stopped then s.run.state else .stopped)
     else
       match s.run.state with
       | .stopped => .idle
       | .running =>
         if feedHoldGroup s then (if s.tracker.table = [] then .held else .draining .hold) else .running
       | .draining .hold => if feedHoldGroup s then .draining .hold else .running
       | .held => if feedHoldGroup s then .held else .running
       | r => r) ∧
  (∀ (new : RunState) (why : RunReason) (s : State), sharedUsed s.link < 60 →
     let t := enterRunState new why s
     t.run.state = new ∧ BeaconFollows t ∧
       t.link.outbound = s.link.outbound ++ [.notice (.runState s.run.state new why (leadingCause s)
         s.tracker.table.length s.tracker.belt s.uptime)] ∧
       t.tracker = { s.tracker with
         prevTrail := if new = .idle then none else s.tracker.prevTrail
         firstTicket := if new = .idle then true else s.tracker.firstTicket } ∧
       (new ≠ .starting → t.run.startTimer = none ∧ t.run.startPos = none) ∧
       t.run.causes = s.run.causes ∧ t.tally = s.tally)

/-- R20, R34, R66, R76, R100, R121, R144, R161: a purge empties the table, counting each ticket PURGED in
both sets, and with it the waiting list, the gate, strike and flap queues and every span; a strike of a ticket
is cut; the throttle is off and a running calibration is ABORTED. At a belt stop and at HALT a PURGED LETTER
notice of each ticket, oldest first, and then the ABORTED notice go to the link, in the queue's order where it
has room; at a warm reset no LETTER. Nothing else changes: the next state is given but for the link's queue
and lost counts. How the gap windows go on is the model's reading (log 19). -/
def Obligations.PurgeEmptiesWork : Prop :=
  ∀ (how : Purge) (s : State),
    let t := purge how s
    let n := BitVec.ofNat 32 s.tracker.table.length
    let letters := (purgeReason how).toList.flatMap fun r => s.tracker.table.map fun y =>
      OutFrame.notice (.letter ⟨some r, s.tracker.belt, s.uptime, y, none⟩)
    let aborted := (calRunning s.cal).toList.map fun r => OutFrame.notice (.cal r.channel .aborted
      (some (purgeCalReason how)) r.target r.cards r.valid r.clipped none none
      (s.channels.get r.channel).trim s.uptime)
    t = { s with
      tracker := { s.tracker with table := [], throttle := false }
      channels := s.channels.map fun k => { k with
        spans := []
        leadIn := []
        gap :=
          if how = .warmReset then ⟨k.gap.start, []⟩
          else if k.leadIn = [] then k.gap
          else ⟨if k.gap.samples = [] then s.tracker.belt - BitVec.ofNat 32 k.leadIn.length + 1
              else k.gap.start, k.gap.samples ++ k.leadIn⟩ }
      facing := { s.facing with waiting := [] }
      gate := { s.gate with
        queue := []
        exercise :=
          match how, s.gate.exercise with
          | .warmReset, some (.head _) => none
          | _, e => e }
      cancel := { s.cancel with heads := s.cancel.heads.map fun u => { u with
        queue := []
        waiting := false
        state :=
          match u.state with
          | .striking (.letter _ _ _) => .recharging s.cancel.record.recharge
          | .striking (.test left) =>
            if how = .warmReset then .recharging s.cancel.record.recharge else .striking (.test left)
          | x => x } }
      stacker := { s.stacker with queue := [] }
      tally := { s.tally with
        life := { s.tally.life with purged := s.tally.life.purged + n }
        shift := { s.tally.shift with purged := s.tally.shift.purged + n } }
      cal := .off
      link := { s.link with
        outbound := t.link.outbound
        reportsLost := t.link.reportsLost
        tracesLost := t.link.tracesLost
        eventsLost := t.link.eventsLost } } ∧
    (s.link.letterEnable = true → sharedUsed s.link + (letters ++ aborted).length ≤ 60 →
      t.link = { s.link with outbound := s.link.outbound ++ letters ++ aborted })
end

