-- ==== Sys2Proof/Laws/Word.lean ====
section
/-! SUPPORT. Laws of the tables: what an entry is after a set, a map, a join or a fill, that a table is given
by its entries, and which values its list holds. -/

namespace Sys2Proof

/-! ### PerCell -/

@[simp] theorem PerCell.get_set (t : PerCell α) (i j : Cell) (v : α) :
    (t.set i v).get j = if j = i then v else t.get j := by
  cases i <;> cases j <;> rfl

@[simp] theorem PerCell.get_map (f : α → β) (t : PerCell α) (i : Cell) : (t.map f).get i = f (t.get i) := by
  cases i <;> rfl

@[simp] theorem PerCell.get_zip (f : α → α → α) (t u : PerCell α) (i : Cell) :
    (t.zip f u).get i = f (t.get i) (u.get i) := by
  cases i <;> rfl

@[simp] theorem PerCell.get_all (v : α) (i : Cell) : (PerCell.all v).get i = v := by
  cases i <;> rfl

theorem PerCell.ext_get {t u : PerCell α} (h : ∀ i, t.get i = u.get i) : t = u := by
  cases t; cases u
  simp only [PerCell.mk.injEq]
  exact ⟨h .e, h .g, h .m, h .k, h .s⟩

theorem PerCell.mem_toList (t : PerCell α) (x : α) : x ∈ t.toList ↔ ∃ i, t.get i = x := by
  constructor
  · intro h
    simp only [PerCell.toList, List.mem_cons, List.not_mem_nil, or_false] at h
    rcases h with h | h | h | h | h
    · exact ⟨.e, h.symm⟩
    · exact ⟨.g, h.symm⟩
    · exact ⟨.m, h.symm⟩
    · exact ⟨.k, h.symm⟩
    · exact ⟨.s, h.symm⟩
  · rintro ⟨i, rfl⟩
    cases i <;> simp [PerCell.toList, PerCell.get]

/-! ### PerSide -/

@[simp] theorem PerSide.set_set (t : PerSide α) (i : Side) (v w : α) : (t.set i v).set i w = t.set i w := by
  cases i <;> rfl

@[simp] theorem PerSide.get_set (t : PerSide α) (i j : Side) (v : α) :
    (t.set i v).get j = if j = i then v else t.get j := by
  cases i <;> cases j <;> rfl

@[simp] theorem PerSide.get_map (f : α → β) (t : PerSide α) (i : Side) : (t.map f).get i = f (t.get i) := by
  cases i <;> rfl

@[simp] theorem PerSide.get_zip (f : α → α → α) (t u : PerSide α) (i : Side) :
    (t.zip f u).get i = f (t.get i) (u.get i) := by
  cases i <;> rfl

@[simp] theorem PerSide.get_all (v : α) (i : Side) : (PerSide.all v).get i = v := by
  cases i <;> rfl

theorem PerSide.ext_get {t u : PerSide α} (h : ∀ i, t.get i = u.get i) : t = u := by
  cases t; cases u
  simp only [PerSide.mk.injEq]
  exact ⟨h .a, h .b⟩

theorem PerSide.mem_toList (t : PerSide α) (x : α) : x ∈ t.toList ↔ ∃ i, t.get i = x := by
  constructor
  · intro h
    simp only [PerSide.toList, List.mem_cons, List.not_mem_nil, or_false] at h
    rcases h with h | h
    · exact ⟨.a, h.symm⟩
    · exact ⟨.b, h.symm⟩
  · rintro ⟨i, rfl⟩
    cases i <;> simp [PerSide.toList, PerSide.get]

/-! ### PerHead -/

@[simp] theorem PerHead.set_set (t : PerHead α) (i : Head) (v w : α) : (t.set i v).set i w = t.set i w := by
  cases i <;> rfl

@[simp] theorem PerHead.get_set (t : PerHead α) (i j : Head) (v : α) :
    (t.set i v).get j = if j = i then v else t.get j := by
  cases i <;> cases j <;> rfl

@[simp] theorem PerHead.get_map (f : α → β) (t : PerHead α) (i : Head) : (t.map f).get i = f (t.get i) := by
  cases i <;> rfl

@[simp] theorem PerHead.get_zip (f : α → α → α) (t u : PerHead α) (i : Head) :
    (t.zip f u).get i = f (t.get i) (u.get i) := by
  cases i <;> rfl

@[simp] theorem PerHead.get_all (v : α) (i : Head) : (PerHead.all v).get i = v := by
  cases i <;> rfl

theorem PerHead.ext_get {t u : PerHead α} (h : ∀ i, t.get i = u.get i) : t = u := by
  cases t; cases u
  simp only [PerHead.mk.injEq]
  exact ⟨h .a, h .b⟩

theorem PerHead.mem_toList (t : PerHead α) (x : α) : x ∈ t.toList ↔ ∃ i, t.get i = x := by
  constructor
  · intro h
    simp only [PerHead.toList, List.mem_cons, List.not_mem_nil, or_false] at h
    rcases h with h | h
    · exact ⟨.a, h.symm⟩
    · exact ⟨.b, h.symm⟩
  · rintro ⟨i, rfl⟩
    cases i <;> simp [PerHead.toList, PerHead.get]

/-! ### PerChannel -/

@[simp] theorem PerChannel.set_set (t : PerChannel α) (i : Channel) (v w : α) : (t.set i v).set i w = t.set i w := by
  cases i <;> rfl

@[simp] theorem PerChannel.get_set (t : PerChannel α) (i j : Channel) (v : α) :
    (t.set i v).get j = if j = i then v else t.get j := by
  cases i <;> cases j <;> rfl

@[simp] theorem PerChannel.get_map (f : α → β) (t : PerChannel α) (i : Channel) : (t.map f).get i = f (t.get i) := by
  cases i <;> rfl

@[simp] theorem PerChannel.get_zip (f : α → α → α) (t u : PerChannel α) (i : Channel) :
    (t.zip f u).get i = f (t.get i) (u.get i) := by
  cases i <;> rfl

@[simp] theorem PerChannel.get_all (v : α) (i : Channel) : (PerChannel.all v).get i = v := by
  cases i <;> rfl

theorem PerChannel.ext_get {t u : PerChannel α} (h : ∀ i, t.get i = u.get i) : t = u := by
  cases t; cases u
  simp only [PerChannel.mk.injEq]
  exact ⟨h .au, h .al, h .bu, h .bl⟩

theorem PerChannel.mem_toList (t : PerChannel α) (x : α) : x ∈ t.toList ↔ ∃ i, t.get i = x := by
  constructor
  · intro h
    simp only [PerChannel.toList, List.mem_cons, List.not_mem_nil, or_false] at h
    rcases h with h | h | h | h
    · exact ⟨.au, h.symm⟩
    · exact ⟨.al, h.symm⟩
    · exact ⟨.bu, h.symm⟩
    · exact ⟨.bl, h.symm⟩
  · rintro ⟨i, rfl⟩
    cases i <;> simp [PerChannel.toList, PerChannel.get]

/-! ### PerBin -/

@[simp] theorem PerBin.set_set (t : PerBin α) (i : Bin) (v w : α) : (t.set i v).set i w = t.set i w := by
  cases i <;> rfl

@[simp] theorem PerBin.get_set (t : PerBin α) (i j : Bin) (v : α) :
    (t.set i v).get j = if j = i then v else t.get j := by
  cases i <;> cases j <;> rfl

@[simp] theorem PerBin.get_map (f : α → β) (t : PerBin α) (i : Bin) : (t.map f).get i = f (t.get i) := by
  cases i <;> rfl

@[simp] theorem PerBin.get_zip (f : α → α → α) (t u : PerBin α) (i : Bin) :
    (t.zip f u).get i = f (t.get i) (u.get i) := by
  cases i <;> rfl

@[simp] theorem PerBin.get_all (v : α) (i : Bin) : (PerBin.all v).get i = v := by
  cases i <;> rfl

theorem PerBin.ext_get {t u : PerBin α} (h : ∀ i, t.get i = u.get i) : t = u := by
  cases t; cases u
  simp only [PerBin.mk.injEq]
  exact ⟨h .b1, h .b2, h .b3, h .b4, h .b5, h .b6⟩

theorem PerBin.mem_toList (t : PerBin α) (x : α) : x ∈ t.toList ↔ ∃ i, t.get i = x := by
  constructor
  · intro h
    simp only [PerBin.toList, List.mem_cons, List.not_mem_nil, or_false] at h
    rcases h with h | h | h | h | h | h
    · exact ⟨.b1, h.symm⟩
    · exact ⟨.b2, h.symm⟩
    · exact ⟨.b3, h.symm⟩
    · exact ⟨.b4, h.symm⟩
    · exact ⟨.b5, h.symm⟩
    · exact ⟨.b6, h.symm⟩
  · rintro ⟨i, rfl⟩
    cases i <;> simp [PerBin.toList, PerBin.get]

/-! ### PerFlap -/

@[simp] theorem PerFlap.set_set (t : PerFlap α) (i : Flap) (v w : α) : (t.set i v).set i w = t.set i w := by
  cases i <;> rfl

@[simp] theorem PerFlap.get_set (t : PerFlap α) (i j : Flap) (v : α) :
    (t.set i v).get j = if j = i then v else t.get j := by
  cases i <;> cases j <;> rfl

@[simp] theorem PerFlap.get_map (f : α → β) (t : PerFlap α) (i : Flap) : (t.map f).get i = f (t.get i) := by
  cases i <;> rfl

@[simp] theorem PerFlap.get_zip (f : α → α → α) (t u : PerFlap α) (i : Flap) :
    (t.zip f u).get i = f (t.get i) (u.get i) := by
  cases i <;> rfl

@[simp] theorem PerFlap.get_all (v : α) (i : Flap) : (PerFlap.all v).get i = v := by
  cases i <;> rfl

theorem PerFlap.ext_get {t u : PerFlap α} (h : ∀ i, t.get i = u.get i) : t = u := by
  cases t; cases u
  simp only [PerFlap.mk.injEq]
  exact ⟨h .f1, h .f2, h .f3, h .f4, h .f5⟩

theorem PerFlap.mem_toList (t : PerFlap α) (x : α) : x ∈ t.toList ↔ ∃ i, t.get i = x := by
  constructor
  · intro h
    simp only [PerFlap.toList, List.mem_cons, List.not_mem_nil, or_false] at h
    rcases h with h | h | h | h | h
    · exact ⟨.f1, h.symm⟩
    · exact ⟨.f2, h.symm⟩
    · exact ⟨.f3, h.symm⟩
    · exact ⟨.f4, h.symm⟩
    · exact ⟨.f5, h.symm⟩
  · rintro ⟨i, rfl⟩
    cases i <;> simp [PerFlap.toList, PerFlap.get]

/-! ### PerSlot -/

@[simp] theorem PerSlot.set_set (t : PerSlot α) (i : Slot) (v w : α) : (t.set i v).set i w = t.set i w := by
  cases i <;> rfl

@[simp] theorem PerSlot.get_set (t : PerSlot α) (i j : Slot) (v : α) :
    (t.set i v).get j = if j = i then v else t.get j := by
  cases i <;> cases j <;> rfl

@[simp] theorem PerSlot.get_map (f : α → β) (t : PerSlot α) (i : Slot) : (t.map f).get i = f (t.get i) := by
  cases i <;> rfl

@[simp] theorem PerSlot.get_zip (f : α → α → α) (t u : PerSlot α) (i : Slot) :
    (t.zip f u).get i = f (t.get i) (u.get i) := by
  cases i <;> rfl

@[simp] theorem PerSlot.get_all (v : α) (i : Slot) : (PerSlot.all v).get i = v := by
  cases i <;> rfl

theorem PerSlot.ext_get {t u : PerSlot α} (h : ∀ i, t.get i = u.get i) : t = u := by
  cases t; cases u
  simp only [PerSlot.mk.injEq]
  exact ⟨h .p1, h .p2, h .p3, h .p4⟩

theorem PerSlot.mem_toList (t : PerSlot α) (x : α) : x ∈ t.toList ↔ ∃ i, t.get i = x := by
  constructor
  · intro h
    simp only [PerSlot.toList, List.mem_cons, List.not_mem_nil, or_false] at h
    rcases h with h | h | h | h
    · exact ⟨.p1, h.symm⟩
    · exact ⟨.p2, h.symm⟩
    · exact ⟨.p3, h.symm⟩
    · exact ⟨.p4, h.symm⟩
  · rintro ⟨i, rfl⟩
    cases i <;> simp [PerSlot.toList, PerSlot.get]

/-! ### PerCause -/

@[simp] theorem PerCause.set_set (t : PerCause α) (i : Cause) (v w : α) : (t.set i v).set i w = t.set i w := by
  cases i <;> rfl

@[simp] theorem PerCause.get_set (t : PerCause α) (i j : Cause) (v : α) :
    (t.set i v).get j = if j = i then v else t.get j := by
  cases i <;> cases j <;> rfl

@[simp] theorem PerCause.get_map (f : α → β) (t : PerCause α) (i : Cause) : (t.map f).get i = f (t.get i) := by
  cases i <;> rfl

@[simp] theorem PerCause.get_zip (f : α → α → α) (t u : PerCause α) (i : Cause) :
    (t.zip f u).get i = f (t.get i) (u.get i) := by
  cases i <;> rfl

@[simp] theorem PerCause.get_all (v : α) (i : Cause) : (PerCause.all v).get i = v := by
  cases i <;> rfl

theorem PerCause.ext_get {t u : PerCause α} (h : ∀ i, t.get i = u.get i) : t = u := by
  cases t; cases u
  simp only [PerCause.mk.injEq]
  exact ⟨h .door, h .extStop, h .jam, h .beltStall, h .tableFull, h .actuator, h .stackFull, h .linkLoss⟩

theorem PerCause.mem_toList (t : PerCause α) (x : α) : x ∈ t.toList ↔ ∃ i, t.get i = x := by
  constructor
  · intro h
    simp only [PerCause.toList, List.mem_cons, List.not_mem_nil, or_false] at h
    rcases h with h | h | h | h | h | h | h | h
    · exact ⟨.door, h.symm⟩
    · exact ⟨.extStop, h.symm⟩
    · exact ⟨.jam, h.symm⟩
    · exact ⟨.beltStall, h.symm⟩
    · exact ⟨.tableFull, h.symm⟩
    · exact ⟨.actuator, h.symm⟩
    · exact ⟨.stackFull, h.symm⟩
    · exact ⟨.linkLoss, h.symm⟩
  · rintro ⟨i, rfl⟩
    cases i <;> simp [PerCause.toList, PerCause.get]

/-! ### PerOutcome -/

@[simp] theorem PerOutcome.get_set (t : PerOutcome α) (i j : LetterOutcome) (v : α) :
    (t.set i v).get j = if j = i then v else t.get j := by
  cases i <;> cases j <;> rfl

@[simp] theorem PerOutcome.get_map (f : α → β) (t : PerOutcome α) (i : LetterOutcome) : (t.map f).get i = f (t.get i) := by
  cases i <;> rfl

@[simp] theorem PerOutcome.get_zip (f : α → α → α) (t u : PerOutcome α) (i : LetterOutcome) :
    (t.zip f u).get i = f (t.get i) (u.get i) := by
  cases i <;> rfl

@[simp] theorem PerOutcome.get_all (v : α) (i : LetterOutcome) : (PerOutcome.all v).get i = v := by
  cases i <;> rfl

theorem PerOutcome.ext_get {t u : PerOutcome α} (h : ∀ i, t.get i = u.get i) : t = u := by
  cases t; cases u
  simp only [PerOutcome.mk.injEq]
  exact ⟨h .facedA, h .facedB, h .turnedToA, h .turnedToB, h .meter, h .noMark, h .ambiguous, h .short, h .long, h .lampCold, h .reface, h .handCancel⟩

theorem PerOutcome.mem_toList (t : PerOutcome α) (x : α) : x ∈ t.toList ↔ ∃ i, t.get i = x := by
  constructor
  · intro h
    simp only [PerOutcome.toList, List.mem_cons, List.not_mem_nil, or_false] at h
    rcases h with h | h | h | h | h | h | h | h | h | h | h | h
    · exact ⟨.facedA, h.symm⟩
    · exact ⟨.facedB, h.symm⟩
    · exact ⟨.turnedToA, h.symm⟩
    · exact ⟨.turnedToB, h.symm⟩
    · exact ⟨.meter, h.symm⟩
    · exact ⟨.noMark, h.symm⟩
    · exact ⟨.ambiguous, h.symm⟩
    · exact ⟨.short, h.symm⟩
    · exact ⟨.long, h.symm⟩
    · exact ⟨.lampCold, h.symm⟩
    · exact ⟨.reface, h.symm⟩
    · exact ⟨.handCancel, h.symm⟩
  · rintro ⟨i, rfl⟩
    cases i <;> simp [PerOutcome.toList, PerOutcome.get]

end Sys2Proof
end

