-- ==== Sys2Proof/Laws/State.lean ====
section
/-! SUPPORT. What the plain updates of the state do to each of its fields: one lemma for each field of each
update, true by unfolding. Whether a field changes is read here and nowhere else. -/

namespace Sys2Proof.Machine

/-! ### setTicket -/

section setTicketFields
variable (n : U16) (f : Ticket → Ticket) (s : State)

@[simp] theorem setTicket_pins : (setTicket n f s).pins = s.pins := rfl
@[simp] theorem setTicket_uptime : (setTicket n f s).uptime = s.uptime := rfl
@[simp] theorem setTicket_tracker_belt : (setTicket n f s).tracker.belt = s.tracker.belt := rfl
@[simp] theorem setTicket_tracker_filters : (setTicket n f s).tracker.filters = s.tracker.filters := rfl
@[simp] theorem setTicket_tracker_edges : (setTicket n f s).tracker.edges = s.tracker.edges := rfl
@[simp] theorem setTicket_tracker_geometry : (setTicket n f s).tracker.geometry = s.tracker.geometry := rfl
@[simp] theorem setTicket_tracker_table :
    (setTicket n f s).tracker.table = s.tracker.table.map fun t => if t.number = n then f t else t := rfl
@[simp] theorem setTicket_tracker_nextTicket :
    (setTicket n f s).tracker.nextTicket = s.tracker.nextTicket := rfl
@[simp] theorem setTicket_tracker_prevTrail : (setTicket n f s).tracker.prevTrail = s.tracker.prevTrail := rfl
@[simp] theorem setTicket_tracker_firstTicket : (setTicket n f s).tracker.firstTicket = s.tracker.firstTicket := rfl
@[simp] theorem setTicket_tracker_throttle : (setTicket n f s).tracker.throttle = s.tracker.throttle := rfl
@[simp] theorem setTicket_tracker_sincePulse :
    (setTicket n f s).tracker.sincePulse = s.tracker.sincePulse := rfl
@[simp] theorem setTicket_tracker_stallRaised :
    (setTicket n f s).tracker.stallRaised = s.tracker.stallRaised := rfl
@[simp] theorem setTicket_channels : (setTicket n f s).channels = s.channels := rfl
@[simp] theorem setTicket_lamps : (setTicket n f s).lamps = s.lamps := rfl
@[simp] theorem setTicket_facing : (setTicket n f s).facing = s.facing := rfl
@[simp] theorem setTicket_gate : (setTicket n f s).gate = s.gate := rfl
@[simp] theorem setTicket_cancel : (setTicket n f s).cancel = s.cancel := rfl
@[simp] theorem setTicket_stacker : (setTicket n f s).stacker = s.stacker := rfl
@[simp] theorem setTicket_tally : (setTicket n f s).tally = s.tally := rfl
@[simp] theorem setTicket_run : (setTicket n f s).run = s.run := rfl
@[simp] theorem setTicket_cal : (setTicket n f s).cal = s.cal := rfl
@[simp] theorem setTicket_trace : (setTicket n f s).trace = s.trace := rfl
@[simp] theorem setTicket_link : (setTicket n f s).link = s.link := rfl
@[simp] theorem setTicket_pending : (setTicket n f s).pending = s.pending := rfl

end setTicketFields

/-! ### removeTicket -/

section removeTicketFields
variable (n : U16) (s : State)

@[simp] theorem removeTicket_pins : (removeTicket n s).pins = s.pins := rfl
@[simp] theorem removeTicket_uptime : (removeTicket n s).uptime = s.uptime := rfl
@[simp] theorem removeTicket_tracker_belt : (removeTicket n s).tracker.belt = s.tracker.belt := rfl
@[simp] theorem removeTicket_tracker_filters : (removeTicket n s).tracker.filters = s.tracker.filters := rfl
@[simp] theorem removeTicket_tracker_edges : (removeTicket n s).tracker.edges = s.tracker.edges := rfl
@[simp] theorem removeTicket_tracker_geometry :
    (removeTicket n s).tracker.geometry = s.tracker.geometry := rfl
@[simp] theorem removeTicket_tracker_table :
    (removeTicket n s).tracker.table = s.tracker.table.eraseP fun t => t.number == n := rfl
@[simp] theorem removeTicket_tracker_nextTicket :
    (removeTicket n s).tracker.nextTicket = s.tracker.nextTicket := rfl
@[simp] theorem removeTicket_tracker_prevTrail :
    (removeTicket n s).tracker.prevTrail = s.tracker.prevTrail := rfl
@[simp] theorem removeTicket_tracker_firstTicket :
    (removeTicket n s).tracker.firstTicket = s.tracker.firstTicket := rfl
@[simp] theorem removeTicket_tracker_throttle :
    (removeTicket n s).tracker.throttle = s.tracker.throttle := rfl
@[simp] theorem removeTicket_tracker_sincePulse :
    (removeTicket n s).tracker.sincePulse = s.tracker.sincePulse := rfl
@[simp] theorem removeTicket_tracker_stallRaised :
    (removeTicket n s).tracker.stallRaised = s.tracker.stallRaised := rfl
@[simp] theorem removeTicket_channels : (removeTicket n s).channels = s.channels := rfl
@[simp] theorem removeTicket_lamps : (removeTicket n s).lamps = s.lamps := rfl
@[simp] theorem removeTicket_facing : (removeTicket n s).facing = s.facing := rfl
@[simp] theorem removeTicket_gate : (removeTicket n s).gate = s.gate := rfl
@[simp] theorem removeTicket_cancel : (removeTicket n s).cancel = s.cancel := rfl
@[simp] theorem removeTicket_stacker : (removeTicket n s).stacker = s.stacker := rfl
@[simp] theorem removeTicket_tally : (removeTicket n s).tally = s.tally := rfl
@[simp] theorem removeTicket_run : (removeTicket n s).run = s.run := rfl
@[simp] theorem removeTicket_cal : (removeTicket n s).cal = s.cal := rfl
@[simp] theorem removeTicket_trace : (removeTicket n s).trace = s.trace := rfl
@[simp] theorem removeTicket_link : (removeTicket n s).link = s.link := rfl
@[simp] theorem removeTicket_pending : (removeTicket n s).pending = s.pending := rfl

end removeTicketFields

/-! ### post -/

section postFields
variable (c : Counter) (s : State)

@[simp] theorem post_pins : (post c s).pins = s.pins := rfl
@[simp] theorem post_uptime : (post c s).uptime = s.uptime := rfl
@[simp] theorem post_tracker : (post c s).tracker = s.tracker := rfl
@[simp] theorem post_channels : (post c s).channels = s.channels := rfl
@[simp] theorem post_lamps : (post c s).lamps = s.lamps := rfl
@[simp] theorem post_facing : (post c s).facing = s.facing := rfl
@[simp] theorem post_gate : (post c s).gate = s.gate := rfl
@[simp] theorem post_cancel : (post c s).cancel = s.cancel := rfl
@[simp] theorem post_stacker : (post c s).stacker = s.stacker := rfl
@[simp] theorem post_tally_life : (post c s).tally.life = bump c s.tally.life := rfl
@[simp] theorem post_tally_shift : (post c s).tally.shift = bump c s.tally.shift := rfl
@[simp] theorem post_tally_baseOcc : (post c s).tally.baseOcc = s.tally.baseOcc := rfl
@[simp] theorem post_tally_held : (post c s).tally.held = s.tally.held := rfl
@[simp] theorem post_tally_nextSnapshot : (post c s).tally.nextSnapshot = s.tally.nextSnapshot := rfl
@[simp] theorem post_run : (post c s).run = s.run := rfl
@[simp] theorem post_cal : (post c s).cal = s.cal := rfl
@[simp] theorem post_trace : (post c s).trace = s.trace := rfl
@[simp] theorem post_link : (post c s).link = s.link := rfl
@[simp] theorem post_pending : (post c s).pending = s.pending := rfl

end postFields

/-! ### enqueue -/

section enqueueFields
variable (f : OutFrame) (s : State)

@[simp] theorem enqueue_pins : (enqueue f s).pins = s.pins := rfl
@[simp] theorem enqueue_uptime : (enqueue f s).uptime = s.uptime := rfl
@[simp] theorem enqueue_tracker : (enqueue f s).tracker = s.tracker := rfl
@[simp] theorem enqueue_channels : (enqueue f s).channels = s.channels := rfl
@[simp] theorem enqueue_lamps : (enqueue f s).lamps = s.lamps := rfl
@[simp] theorem enqueue_facing : (enqueue f s).facing = s.facing := rfl
@[simp] theorem enqueue_gate : (enqueue f s).gate = s.gate := rfl
@[simp] theorem enqueue_cancel : (enqueue f s).cancel = s.cancel := rfl
@[simp] theorem enqueue_stacker : (enqueue f s).stacker = s.stacker := rfl
@[simp] theorem enqueue_tally : (enqueue f s).tally = s.tally := rfl
@[simp] theorem enqueue_run : (enqueue f s).run = s.run := rfl
@[simp] theorem enqueue_cal : (enqueue f s).cal = s.cal := rfl
@[simp] theorem enqueue_trace : (enqueue f s).trace = s.trace := rfl
@[simp] theorem enqueue_link_rate : (enqueue f s).link.rate = s.link.rate := rfl
@[simp] theorem enqueue_link_receiver : (enqueue f s).link.receiver = s.link.receiver := rfl
@[simp] theorem enqueue_link_inbound : (enqueue f s).link.inbound = s.link.inbound := rfl
@[simp] theorem enqueue_link_outbound : (enqueue f s).link.outbound = s.link.outbound ++ [f] := rfl
@[simp] theorem enqueue_link_oversize : (enqueue f s).link.oversize = s.link.oversize := rfl
@[simp] theorem enqueue_link_bad : (enqueue f s).link.bad = s.link.bad := rfl
@[simp] theorem enqueue_link_broken : (enqueue f s).link.broken = s.link.broken := rfl
@[simp] theorem enqueue_link_dropped : (enqueue f s).link.dropped = s.link.dropped := rfl
@[simp] theorem enqueue_link_reportsLost : (enqueue f s).link.reportsLost = s.link.reportsLost := rfl
@[simp] theorem enqueue_link_tracesLost : (enqueue f s).link.tracesLost = s.link.tracesLost := rfl
@[simp] theorem enqueue_link_eventsLost : (enqueue f s).link.eventsLost = s.link.eventsLost := rfl
@[simp] theorem enqueue_link_letterEnable : (enqueue f s).link.letterEnable = s.link.letterEnable := rfl
@[simp] theorem enqueue_link_traceEnable : (enqueue f s).link.traceEnable = s.link.traceEnable := rfl
@[simp] theorem enqueue_link_reset : (enqueue f s).link.reset = s.link.reset := rfl
@[simp] theorem enqueue_link_line : (enqueue f s).link.line = s.link.line := rfl
@[simp] theorem enqueue_pending : (enqueue f s).pending = s.pending := rfl

end enqueueFields

/-! ### reply -/

section replyFields
variable (f : InFrame) (b : ReplyBody) (s : State)

@[simp] theorem reply_pins : (reply f b s).pins = s.pins := rfl
@[simp] theorem reply_uptime : (reply f b s).uptime = s.uptime := rfl
@[simp] theorem reply_tracker : (reply f b s).tracker = s.tracker := rfl
@[simp] theorem reply_channels : (reply f b s).channels = s.channels := rfl
@[simp] theorem reply_lamps : (reply f b s).lamps = s.lamps := rfl
@[simp] theorem reply_facing : (reply f b s).facing = s.facing := rfl
@[simp] theorem reply_gate : (reply f b s).gate = s.gate := rfl
@[simp] theorem reply_cancel : (reply f b s).cancel = s.cancel := rfl
@[simp] theorem reply_stacker : (reply f b s).stacker = s.stacker := rfl
@[simp] theorem reply_tally : (reply f b s).tally = s.tally := rfl
@[simp] theorem reply_run : (reply f b s).run = s.run := rfl
@[simp] theorem reply_cal : (reply f b s).cal = s.cal := rfl
@[simp] theorem reply_trace : (reply f b s).trace = s.trace := rfl
@[simp] theorem reply_link_rate : (reply f b s).link.rate = s.link.rate := rfl
@[simp] theorem reply_link_receiver : (reply f b s).link.receiver = s.link.receiver := rfl
@[simp] theorem reply_link_inbound : (reply f b s).link.inbound = s.link.inbound := rfl
@[simp] theorem reply_link_outbound :
    (reply f b s).link.outbound = s.link.outbound ++ [.reply f.code f.tag b] := rfl
@[simp] theorem reply_link_oversize : (reply f b s).link.oversize = s.link.oversize := rfl
@[simp] theorem reply_link_bad : (reply f b s).link.bad = s.link.bad := rfl
@[simp] theorem reply_link_broken : (reply f b s).link.broken = s.link.broken := rfl
@[simp] theorem reply_link_dropped : (reply f b s).link.dropped = s.link.dropped := rfl
@[simp] theorem reply_link_reportsLost : (reply f b s).link.reportsLost = s.link.reportsLost := rfl
@[simp] theorem reply_link_tracesLost : (reply f b s).link.tracesLost = s.link.tracesLost := rfl
@[simp] theorem reply_link_eventsLost : (reply f b s).link.eventsLost = s.link.eventsLost := rfl
@[simp] theorem reply_link_letterEnable : (reply f b s).link.letterEnable = s.link.letterEnable := rfl
@[simp] theorem reply_link_traceEnable : (reply f b s).link.traceEnable = s.link.traceEnable := rfl
@[simp] theorem reply_link_reset : (reply f b s).link.reset = s.link.reset := rfl
@[simp] theorem reply_link_line : (reply f b s).link.line = s.link.line := rfl
@[simp] theorem reply_pending : (reply f b s).pending = s.pending := rfl

end replyFields

/-! ### refuse -/

section refuseFields
variable (f : InFrame) (r : Reason) (s : State)

@[simp] theorem refuse_pins : (refuse f r s).pins = s.pins := rfl
@[simp] theorem refuse_uptime : (refuse f r s).uptime = s.uptime := rfl
@[simp] theorem refuse_tracker : (refuse f r s).tracker = s.tracker := rfl
@[simp] theorem refuse_channels : (refuse f r s).channels = s.channels := rfl
@[simp] theorem refuse_lamps : (refuse f r s).lamps = s.lamps := rfl
@[simp] theorem refuse_facing : (refuse f r s).facing = s.facing := rfl
@[simp] theorem refuse_gate : (refuse f r s).gate = s.gate := rfl
@[simp] theorem refuse_cancel : (refuse f r s).cancel = s.cancel := rfl
@[simp] theorem refuse_stacker : (refuse f r s).stacker = s.stacker := rfl
@[simp] theorem refuse_tally : (refuse f r s).tally = s.tally := rfl
@[simp] theorem refuse_run : (refuse f r s).run = s.run := rfl
@[simp] theorem refuse_cal : (refuse f r s).cal = s.cal := rfl
@[simp] theorem refuse_trace : (refuse f r s).trace = s.trace := rfl
@[simp] theorem refuse_link_rate : (refuse f r s).link.rate = s.link.rate := rfl
@[simp] theorem refuse_link_receiver : (refuse f r s).link.receiver = s.link.receiver := rfl
@[simp] theorem refuse_link_inbound : (refuse f r s).link.inbound = s.link.inbound := rfl
@[simp] theorem refuse_link_outbound :
    (refuse f r s).link.outbound = s.link.outbound ++ [.reply f.code f.tag (.refused r)] := rfl
@[simp] theorem refuse_link_oversize : (refuse f r s).link.oversize = s.link.oversize := rfl
@[simp] theorem refuse_link_bad : (refuse f r s).link.bad = s.link.bad := rfl
@[simp] theorem refuse_link_broken : (refuse f r s).link.broken = s.link.broken := rfl
@[simp] theorem refuse_link_dropped : (refuse f r s).link.dropped = s.link.dropped := rfl
@[simp] theorem refuse_link_reportsLost : (refuse f r s).link.reportsLost = s.link.reportsLost := rfl
@[simp] theorem refuse_link_tracesLost : (refuse f r s).link.tracesLost = s.link.tracesLost := rfl
@[simp] theorem refuse_link_eventsLost : (refuse f r s).link.eventsLost = s.link.eventsLost := rfl
@[simp] theorem refuse_link_letterEnable : (refuse f r s).link.letterEnable = s.link.letterEnable := rfl
@[simp] theorem refuse_link_traceEnable : (refuse f r s).link.traceEnable = s.link.traceEnable := rfl
@[simp] theorem refuse_link_reset : (refuse f r s).link.reset = s.link.reset := rfl
@[simp] theorem refuse_link_line : (refuse f r s).link.line = s.link.line := rfl
@[simp] theorem refuse_pending : (refuse f r s).pending = s.pending := rfl

end refuseFields

/-! ### evalThrottle -/

section evalThrottleFields
variable (s : State)

@[simp] theorem evalThrottle_pins : (evalThrottle s).pins = s.pins := rfl
@[simp] theorem evalThrottle_uptime : (evalThrottle s).uptime = s.uptime := rfl
@[simp] theorem evalThrottle_tracker_belt : (evalThrottle s).tracker.belt = s.tracker.belt := rfl
@[simp] theorem evalThrottle_tracker_filters : (evalThrottle s).tracker.filters = s.tracker.filters := rfl
@[simp] theorem evalThrottle_tracker_edges : (evalThrottle s).tracker.edges = s.tracker.edges := rfl
@[simp] theorem evalThrottle_tracker_geometry : (evalThrottle s).tracker.geometry = s.tracker.geometry := rfl
@[simp] theorem evalThrottle_tracker_table : (evalThrottle s).tracker.table = s.tracker.table := rfl
@[simp] theorem evalThrottle_tracker_nextTicket :
    (evalThrottle s).tracker.nextTicket = s.tracker.nextTicket := rfl
@[simp] theorem evalThrottle_tracker_prevTrail :
    (evalThrottle s).tracker.prevTrail = s.tracker.prevTrail := rfl
@[simp] theorem evalThrottle_tracker_firstTicket :
    (evalThrottle s).tracker.firstTicket = s.tracker.firstTicket := rfl
@[simp] theorem evalThrottle_tracker_throttle :
    (evalThrottle s).tracker.throttle = throttleAfter s.tracker.geometry (occupancy s) s.tracker.throttle :=
  rfl
@[simp] theorem evalThrottle_tracker_sincePulse :
    (evalThrottle s).tracker.sincePulse = s.tracker.sincePulse := rfl
@[simp] theorem evalThrottle_tracker_stallRaised :
    (evalThrottle s).tracker.stallRaised = s.tracker.stallRaised := rfl
@[simp] theorem evalThrottle_channels : (evalThrottle s).channels = s.channels := rfl
@[simp] theorem evalThrottle_lamps : (evalThrottle s).lamps = s.lamps := rfl
@[simp] theorem evalThrottle_facing : (evalThrottle s).facing = s.facing := rfl
@[simp] theorem evalThrottle_gate : (evalThrottle s).gate = s.gate := rfl
@[simp] theorem evalThrottle_cancel : (evalThrottle s).cancel = s.cancel := rfl
@[simp] theorem evalThrottle_stacker : (evalThrottle s).stacker = s.stacker := rfl
@[simp] theorem evalThrottle_tally : (evalThrottle s).tally = s.tally := rfl
@[simp] theorem evalThrottle_run : (evalThrottle s).run = s.run := rfl
@[simp] theorem evalThrottle_cal : (evalThrottle s).cal = s.cal := rfl
@[simp] theorem evalThrottle_trace : (evalThrottle s).trace = s.trace := rfl
@[simp] theorem evalThrottle_link : (evalThrottle s).link = s.link := rfl
@[simp] theorem evalThrottle_pending : (evalThrottle s).pending = s.pending := rfl

end evalThrottleFields

/-! ### judgeBeacon -/

section judgeBeaconFields
variable (s : State)

@[simp] theorem judgeBeacon_pins : (judgeBeacon s).pins = s.pins := rfl
@[simp] theorem judgeBeacon_uptime : (judgeBeacon s).uptime = s.uptime := rfl
@[simp] theorem judgeBeacon_tracker : (judgeBeacon s).tracker = s.tracker := rfl
@[simp] theorem judgeBeacon_channels : (judgeBeacon s).channels = s.channels := rfl
@[simp] theorem judgeBeacon_lamps : (judgeBeacon s).lamps = s.lamps := rfl
@[simp] theorem judgeBeacon_facing : (judgeBeacon s).facing = s.facing := rfl
@[simp] theorem judgeBeacon_gate : (judgeBeacon s).gate = s.gate := rfl
@[simp] theorem judgeBeacon_cancel : (judgeBeacon s).cancel = s.cancel := rfl
@[simp] theorem judgeBeacon_stacker : (judgeBeacon s).stacker = s.stacker := rfl
@[simp] theorem judgeBeacon_tally : (judgeBeacon s).tally = s.tally := rfl
@[simp] theorem judgeBeacon_run_state : (judgeBeacon s).run.state = s.run.state := rfl
@[simp] theorem judgeBeacon_run_startTimer : (judgeBeacon s).run.startTimer = s.run.startTimer := rfl
@[simp] theorem judgeBeacon_run_startPos : (judgeBeacon s).run.startPos = s.run.startPos := rfl
@[simp] theorem judgeBeacon_run_causes : (judgeBeacon s).run.causes = s.run.causes := rfl
@[simp] theorem judgeBeacon_run_linkTimeout : (judgeBeacon s).run.linkTimeout = s.run.linkTimeout := rfl
@[simp] theorem judgeBeacon_run_sinceLink : (judgeBeacon s).run.sinceLink = s.run.sinceLink := rfl
@[simp] theorem judgeBeacon_run_linkRaised : (judgeBeacon s).run.linkRaised = s.run.linkRaised := rfl
@[simp] theorem judgeBeacon_run_lastValid : (judgeBeacon s).run.lastValid = s.run.lastValid := rfl
@[simp] theorem judgeBeacon_run_faults : (judgeBeacon s).run.faults = s.run.faults := rfl
@[simp] theorem judgeBeacon_run_beacon : (judgeBeacon s).run.beacon = beaconAfter s := rfl
@[simp] theorem judgeBeacon_cal : (judgeBeacon s).cal = s.cal := rfl
@[simp] theorem judgeBeacon_trace : (judgeBeacon s).trace = s.trace := rfl
@[simp] theorem judgeBeacon_link : (judgeBeacon s).link = s.link := rfl
@[simp] theorem judgeBeacon_pending : (judgeBeacon s).pending = s.pending := rfl

end judgeBeaconFields

/-! ### setCause -/

section setCauseFields
variable (c : Cause) (f : CauseEntry → CauseEntry) (s : State)

@[simp] theorem setCause_pins : (setCause c f s).pins = s.pins := rfl
@[simp] theorem setCause_uptime : (setCause c f s).uptime = s.uptime := rfl
@[simp] theorem setCause_tracker : (setCause c f s).tracker = s.tracker := rfl
@[simp] theorem setCause_channels : (setCause c f s).channels = s.channels := rfl
@[simp] theorem setCause_lamps : (setCause c f s).lamps = s.lamps := rfl
@[simp] theorem setCause_facing : (setCause c f s).facing = s.facing := rfl
@[simp] theorem setCause_gate : (setCause c f s).gate = s.gate := rfl
@[simp] theorem setCause_cancel : (setCause c f s).cancel = s.cancel := rfl
@[simp] theorem setCause_stacker : (setCause c f s).stacker = s.stacker := rfl
@[simp] theorem setCause_tally : (setCause c f s).tally = s.tally := rfl
@[simp] theorem setCause_run_state : (setCause c f s).run.state = s.run.state := rfl
@[simp] theorem setCause_run_startTimer : (setCause c f s).run.startTimer = s.run.startTimer := rfl
@[simp] theorem setCause_run_startPos : (setCause c f s).run.startPos = s.run.startPos := rfl
@[simp] theorem setCause_run_causes :
    (setCause c f s).run.causes = s.run.causes.set c (f (s.run.causes.get c)) := rfl
@[simp] theorem setCause_run_linkTimeout : (setCause c f s).run.linkTimeout = s.run.linkTimeout := rfl
@[simp] theorem setCause_run_sinceLink : (setCause c f s).run.sinceLink = s.run.sinceLink := rfl
@[simp] theorem setCause_run_linkRaised : (setCause c f s).run.linkRaised = s.run.linkRaised := rfl
@[simp] theorem setCause_run_lastValid : (setCause c f s).run.lastValid = s.run.lastValid := rfl
@[simp] theorem setCause_run_faults : (setCause c f s).run.faults = s.run.faults := rfl
@[simp] theorem setCause_run_beacon : (setCause c f s).run.beacon = s.run.beacon := rfl
@[simp] theorem setCause_cal : (setCause c f s).cal = s.cal := rfl
@[simp] theorem setCause_trace : (setCause c f s).trace = s.trace := rfl
@[simp] theorem setCause_link : (setCause c f s).link = s.link := rfl
@[simp] theorem setCause_pending : (setCause c f s).pending = s.pending := rfl

end setCauseFields

/-! ### noteRequest -/

section noteRequestFields
variable (c : Cause) (d : SourceDetail) (n : Option U16) (s : State)

@[simp] theorem noteRequest_pins : (noteRequest c d n s).pins = s.pins := rfl
@[simp] theorem noteRequest_uptime : (noteRequest c d n s).uptime = s.uptime := rfl
@[simp] theorem noteRequest_tracker : (noteRequest c d n s).tracker = s.tracker := rfl
@[simp] theorem noteRequest_channels : (noteRequest c d n s).channels = s.channels := rfl
@[simp] theorem noteRequest_lamps : (noteRequest c d n s).lamps = s.lamps := rfl
@[simp] theorem noteRequest_facing : (noteRequest c d n s).facing = s.facing := rfl
@[simp] theorem noteRequest_gate : (noteRequest c d n s).gate = s.gate := rfl
@[simp] theorem noteRequest_cancel : (noteRequest c d n s).cancel = s.cancel := rfl
@[simp] theorem noteRequest_stacker : (noteRequest c d n s).stacker = s.stacker := rfl
@[simp] theorem noteRequest_tally : (noteRequest c d n s).tally = s.tally := rfl
@[simp] theorem noteRequest_run_state : (noteRequest c d n s).run.state = s.run.state := rfl
@[simp] theorem noteRequest_run_startTimer : (noteRequest c d n s).run.startTimer = s.run.startTimer := rfl
@[simp] theorem noteRequest_run_startPos : (noteRequest c d n s).run.startPos = s.run.startPos := rfl
@[simp] theorem noteRequest_run_linkTimeout : (noteRequest c d n s).run.linkTimeout = s.run.linkTimeout := rfl
@[simp] theorem noteRequest_run_sinceLink : (noteRequest c d n s).run.sinceLink = s.run.sinceLink := rfl
@[simp] theorem noteRequest_run_linkRaised : (noteRequest c d n s).run.linkRaised = s.run.linkRaised := rfl
@[simp] theorem noteRequest_run_lastValid : (noteRequest c d n s).run.lastValid = s.run.lastValid := rfl
@[simp] theorem noteRequest_run_faults :
    (noteRequest c d n s).run.faults = recordFault ⟨c, (s.run.causes.get c).masked, d, s.tracker.belt, s.uptime, n⟩ s.run.faults :=
  rfl
@[simp] theorem noteRequest_run_beacon : (noteRequest c d n s).run.beacon = s.run.beacon := rfl
@[simp] theorem noteRequest_cal : (noteRequest c d n s).cal = s.cal := rfl
@[simp] theorem noteRequest_trace : (noteRequest c d n s).trace = s.trace := rfl
@[simp] theorem noteRequest_link : (noteRequest c d n s).link = s.link := rfl
@[simp] theorem noteRequest_pending : (noteRequest c d n s).pending = s.pending := rfl

end noteRequestFields

/-! ### setChannel -/

section setChannelFields
variable (c : Channel) (f : ScanChannel → ScanChannel) (s : State)

@[simp] theorem setChannel_pins : (setChannel c f s).pins = s.pins := rfl
@[simp] theorem setChannel_uptime : (setChannel c f s).uptime = s.uptime := rfl
@[simp] theorem setChannel_tracker : (setChannel c f s).tracker = s.tracker := rfl
@[simp] theorem setChannel_channels :
    (setChannel c f s).channels = s.channels.set c (f (s.channels.get c)) := rfl
@[simp] theorem setChannel_lamps : (setChannel c f s).lamps = s.lamps := rfl
@[simp] theorem setChannel_facing : (setChannel c f s).facing = s.facing := rfl
@[simp] theorem setChannel_gate : (setChannel c f s).gate = s.gate := rfl
@[simp] theorem setChannel_cancel : (setChannel c f s).cancel = s.cancel := rfl
@[simp] theorem setChannel_stacker : (setChannel c f s).stacker = s.stacker := rfl
@[simp] theorem setChannel_tally : (setChannel c f s).tally = s.tally := rfl
@[simp] theorem setChannel_run : (setChannel c f s).run = s.run := rfl
@[simp] theorem setChannel_cal : (setChannel c f s).cal = s.cal := rfl
@[simp] theorem setChannel_trace : (setChannel c f s).trace = s.trace := rfl
@[simp] theorem setChannel_link : (setChannel c f s).link = s.link := rfl
@[simp] theorem setChannel_pending : (setChannel c f s).pending = s.pending := rfl

end setChannelFields

/-! ### installTrim -/

section installTrimFields
variable (c : Channel) (code : BitVec 4) (s : State)

@[simp] theorem installTrim_pins : (installTrim c code s).pins = s.pins := rfl
@[simp] theorem installTrim_uptime : (installTrim c code s).uptime = s.uptime := rfl
@[simp] theorem installTrim_tracker : (installTrim c code s).tracker = s.tracker := rfl
@[simp] theorem installTrim_lamps : (installTrim c code s).lamps = s.lamps := rfl
@[simp] theorem installTrim_facing : (installTrim c code s).facing = s.facing := rfl
@[simp] theorem installTrim_gate : (installTrim c code s).gate = s.gate := rfl
@[simp] theorem installTrim_cancel : (installTrim c code s).cancel = s.cancel := rfl
@[simp] theorem installTrim_stacker : (installTrim c code s).stacker = s.stacker := rfl
@[simp] theorem installTrim_tally : (installTrim c code s).tally = s.tally := rfl
@[simp] theorem installTrim_run : (installTrim c code s).run = s.run := rfl
@[simp] theorem installTrim_cal : (installTrim c code s).cal = s.cal := rfl
@[simp] theorem installTrim_trace : (installTrim c code s).trace = s.trace := rfl
@[simp] theorem installTrim_link : (installTrim c code s).link = s.link := rfl
@[simp] theorem installTrim_pending : (installTrim c code s).pending = s.pending := rfl

end installTrimFields

/-! ### setHead -/

section setHeadFields
variable (h : Head) (f : HeadUnit → HeadUnit) (s : State)

@[simp] theorem setHead_pins : (setHead h f s).pins = s.pins := rfl
@[simp] theorem setHead_uptime : (setHead h f s).uptime = s.uptime := rfl
@[simp] theorem setHead_tracker : (setHead h f s).tracker = s.tracker := rfl
@[simp] theorem setHead_channels : (setHead h f s).channels = s.channels := rfl
@[simp] theorem setHead_lamps : (setHead h f s).lamps = s.lamps := rfl
@[simp] theorem setHead_facing : (setHead h f s).facing = s.facing := rfl
@[simp] theorem setHead_gate : (setHead h f s).gate = s.gate := rfl
@[simp] theorem setHead_cancel_record : (setHead h f s).cancel.record = s.cancel.record := rfl
@[simp] theorem setHead_cancel_slots : (setHead h f s).cancel.slots = s.cancel.slots := rfl
@[simp] theorem setHead_cancel_active : (setHead h f s).cancel.active = s.cancel.active := rfl
@[simp] theorem setHead_cancel_heads :
    (setHead h f s).cancel.heads = s.cancel.heads.set h (f (s.cancel.heads.get h)) := rfl
@[simp] theorem setHead_stacker : (setHead h f s).stacker = s.stacker := rfl
@[simp] theorem setHead_tally : (setHead h f s).tally = s.tally := rfl
@[simp] theorem setHead_run : (setHead h f s).run = s.run := rfl
@[simp] theorem setHead_cal : (setHead h f s).cal = s.cal := rfl
@[simp] theorem setHead_trace : (setHead h f s).trace = s.trace := rfl
@[simp] theorem setHead_link : (setHead h f s).link = s.link := rfl
@[simp] theorem setHead_pending : (setHead h f s).pending = s.pending := rfl

end setHeadFields

/-! ### dropEntry -/

section dropEntryFields
variable (h : Head) (s : State)

@[simp] theorem dropEntry_pins : (dropEntry h s).pins = s.pins := rfl
@[simp] theorem dropEntry_uptime : (dropEntry h s).uptime = s.uptime := rfl
@[simp] theorem dropEntry_tracker : (dropEntry h s).tracker = s.tracker := rfl
@[simp] theorem dropEntry_channels : (dropEntry h s).channels = s.channels := rfl
@[simp] theorem dropEntry_lamps : (dropEntry h s).lamps = s.lamps := rfl
@[simp] theorem dropEntry_facing : (dropEntry h s).facing = s.facing := rfl
@[simp] theorem dropEntry_gate : (dropEntry h s).gate = s.gate := rfl
@[simp] theorem dropEntry_cancel_record : (dropEntry h s).cancel.record = s.cancel.record := rfl
@[simp] theorem dropEntry_cancel_slots : (dropEntry h s).cancel.slots = s.cancel.slots := rfl
@[simp] theorem dropEntry_cancel_active : (dropEntry h s).cancel.active = s.cancel.active := rfl
@[simp] theorem dropEntry_stacker : (dropEntry h s).stacker = s.stacker := rfl
@[simp] theorem dropEntry_tally : (dropEntry h s).tally = s.tally := rfl
@[simp] theorem dropEntry_run : (dropEntry h s).run = s.run := rfl
@[simp] theorem dropEntry_cal : (dropEntry h s).cal = s.cal := rfl
@[simp] theorem dropEntry_trace : (dropEntry h s).trace = s.trace := rfl
@[simp] theorem dropEntry_link : (dropEntry h s).link = s.link := rfl
@[simp] theorem dropEntry_pending : (dropEntry h s).pending = s.pending := rfl

end dropEntryFields

/-! ### recharge -/

section rechargeFields
variable (h : Head) (s : State)

@[simp] theorem recharge_pins : (recharge h s).pins = s.pins := rfl
@[simp] theorem recharge_uptime : (recharge h s).uptime = s.uptime := rfl
@[simp] theorem recharge_tracker : (recharge h s).tracker = s.tracker := rfl
@[simp] theorem recharge_channels : (recharge h s).channels = s.channels := rfl
@[simp] theorem recharge_lamps : (recharge h s).lamps = s.lamps := rfl
@[simp] theorem recharge_facing : (recharge h s).facing = s.facing := rfl
@[simp] theorem recharge_gate : (recharge h s).gate = s.gate := rfl
@[simp] theorem recharge_cancel_record : (recharge h s).cancel.record = s.cancel.record := rfl
@[simp] theorem recharge_cancel_slots : (recharge h s).cancel.slots = s.cancel.slots := rfl
@[simp] theorem recharge_cancel_active : (recharge h s).cancel.active = s.cancel.active := rfl
@[simp] theorem recharge_stacker : (recharge h s).stacker = s.stacker := rfl
@[simp] theorem recharge_tally : (recharge h s).tally = s.tally := rfl
@[simp] theorem recharge_run : (recharge h s).run = s.run := rfl
@[simp] theorem recharge_cal : (recharge h s).cal = s.cal := rfl
@[simp] theorem recharge_trace : (recharge h s).trace = s.trace := rfl
@[simp] theorem recharge_link : (recharge h s).link = s.link := rfl
@[simp] theorem recharge_pending : (recharge h s).pending = s.pending := rfl

end rechargeFields

/-! ### setBinRecord -/

section setBinRecordFields
variable (b : Bin) (f : BinRecord → BinRecord) (s : State)

@[simp] theorem setBinRecord_pins : (setBinRecord b f s).pins = s.pins := rfl
@[simp] theorem setBinRecord_uptime : (setBinRecord b f s).uptime = s.uptime := rfl
@[simp] theorem setBinRecord_tracker : (setBinRecord b f s).tracker = s.tracker := rfl
@[simp] theorem setBinRecord_channels : (setBinRecord b f s).channels = s.channels := rfl
@[simp] theorem setBinRecord_lamps : (setBinRecord b f s).lamps = s.lamps := rfl
@[simp] theorem setBinRecord_facing : (setBinRecord b f s).facing = s.facing := rfl
@[simp] theorem setBinRecord_gate : (setBinRecord b f s).gate = s.gate := rfl
@[simp] theorem setBinRecord_cancel : (setBinRecord b f s).cancel = s.cancel := rfl
@[simp] theorem setBinRecord_stacker_plan : (setBinRecord b f s).stacker.plan = s.stacker.plan := rfl
@[simp] theorem setBinRecord_stacker_bins :
    (setBinRecord b f s).stacker.bins = s.stacker.bins.set b (f (s.stacker.bins.get b)) := rfl
@[simp] theorem setBinRecord_stacker_flaps : (setBinRecord b f s).stacker.flaps = s.stacker.flaps := rfl
@[simp] theorem setBinRecord_stacker_queue : (setBinRecord b f s).stacker.queue = s.stacker.queue := rfl
@[simp] theorem setBinRecord_stacker_trays : (setBinRecord b f s).stacker.trays = s.stacker.trays := rfl
@[simp] theorem setBinRecord_tally : (setBinRecord b f s).tally = s.tally := rfl
@[simp] theorem setBinRecord_run : (setBinRecord b f s).run = s.run := rfl
@[simp] theorem setBinRecord_cal : (setBinRecord b f s).cal = s.cal := rfl
@[simp] theorem setBinRecord_trace : (setBinRecord b f s).trace = s.trace := rfl
@[simp] theorem setBinRecord_link : (setBinRecord b f s).link = s.link := rfl
@[simp] theorem setBinRecord_pending : (setBinRecord b f s).pending = s.pending := rfl

end setBinRecordFields

/-! ### makeAction -/

section makeActionFields
variable (a : FlapAction) (s : State)

@[simp] theorem makeAction_pins : (makeAction a s).pins = s.pins := rfl
@[simp] theorem makeAction_uptime : (makeAction a s).uptime = s.uptime := rfl
@[simp] theorem makeAction_tracker : (makeAction a s).tracker = s.tracker := rfl
@[simp] theorem makeAction_channels : (makeAction a s).channels = s.channels := rfl
@[simp] theorem makeAction_lamps : (makeAction a s).lamps = s.lamps := rfl
@[simp] theorem makeAction_facing : (makeAction a s).facing = s.facing := rfl
@[simp] theorem makeAction_gate : (makeAction a s).gate = s.gate := rfl
@[simp] theorem makeAction_cancel : (makeAction a s).cancel = s.cancel := rfl
@[simp] theorem makeAction_stacker_plan : (makeAction a s).stacker.plan = s.stacker.plan := rfl
@[simp] theorem makeAction_stacker_bins : (makeAction a s).stacker.bins = s.stacker.bins := rfl
@[simp] theorem makeAction_stacker_flaps :
    (makeAction a s).stacker.flaps = s.stacker.flaps.set a.flap a.opens := rfl
@[simp] theorem makeAction_stacker_queue : (makeAction a s).stacker.queue = s.stacker.queue := rfl
@[simp] theorem makeAction_stacker_trays : (makeAction a s).stacker.trays = s.stacker.trays := rfl
@[simp] theorem makeAction_tally : (makeAction a s).tally = s.tally := rfl
@[simp] theorem makeAction_run : (makeAction a s).run = s.run := rfl
@[simp] theorem makeAction_cal : (makeAction a s).cal = s.cal := rfl
@[simp] theorem makeAction_trace : (makeAction a s).trace = s.trace := rfl
@[simp] theorem makeAction_link : (makeAction a s).link = s.link := rfl
@[simp] theorem makeAction_pending : (makeAction a s).pending = s.pending := rfl

end makeActionFields

/-! ### restartSaver -/

section restartSaverFields
variable (s : State)

@[simp] theorem restartSaver_pins : (restartSaver s).pins = s.pins := rfl
@[simp] theorem restartSaver_uptime : (restartSaver s).uptime = s.uptime := rfl
@[simp] theorem restartSaver_tracker : (restartSaver s).tracker = s.tracker := rfl
@[simp] theorem restartSaver_channels : (restartSaver s).channels = s.channels := rfl
@[simp] theorem restartSaver_lamps_record : (restartSaver s).lamps.record = s.lamps.record := rfl
@[simp] theorem restartSaver_lamps_state : (restartSaver s).lamps.state = s.lamps.state := rfl
@[simp] theorem restartSaver_lamps_saver : (restartSaver s).lamps.saver = saverRestart s.lamps.record := rfl
@[simp] theorem restartSaver_lamps_wakeErrors : (restartSaver s).lamps.wakeErrors = s.lamps.wakeErrors := rfl
@[simp] theorem restartSaver_facing : (restartSaver s).facing = s.facing := rfl
@[simp] theorem restartSaver_gate : (restartSaver s).gate = s.gate := rfl
@[simp] theorem restartSaver_cancel : (restartSaver s).cancel = s.cancel := rfl
@[simp] theorem restartSaver_stacker : (restartSaver s).stacker = s.stacker := rfl
@[simp] theorem restartSaver_tally : (restartSaver s).tally = s.tally := rfl
@[simp] theorem restartSaver_run : (restartSaver s).run = s.run := rfl
@[simp] theorem restartSaver_cal : (restartSaver s).cal = s.cal := rfl
@[simp] theorem restartSaver_trace : (restartSaver s).trace = s.trace := rfl
@[simp] theorem restartSaver_link : (restartSaver s).link = s.link := rfl
@[simp] theorem restartSaver_pending : (restartSaver s).pending = s.pending := rfl

end restartSaverFields

/-! ### takeSnapshot -/

section takeSnapshotFields
variable (s : State)

@[simp] theorem takeSnapshot_pins : (takeSnapshot s).pins = s.pins := rfl
@[simp] theorem takeSnapshot_uptime : (takeSnapshot s).uptime = s.uptime := rfl
@[simp] theorem takeSnapshot_tracker : (takeSnapshot s).tracker = s.tracker := rfl
@[simp] theorem takeSnapshot_channels : (takeSnapshot s).channels = s.channels := rfl
@[simp] theorem takeSnapshot_lamps : (takeSnapshot s).lamps = s.lamps := rfl
@[simp] theorem takeSnapshot_facing : (takeSnapshot s).facing = s.facing := rfl
@[simp] theorem takeSnapshot_gate : (takeSnapshot s).gate = s.gate := rfl
@[simp] theorem takeSnapshot_cancel : (takeSnapshot s).cancel = s.cancel := rfl
@[simp] theorem takeSnapshot_stacker : (takeSnapshot s).stacker = s.stacker := rfl
@[simp] theorem takeSnapshot_tally_life : (takeSnapshot s).tally.life = s.tally.life := rfl
@[simp] theorem takeSnapshot_tally_shift : (takeSnapshot s).tally.shift = s.tally.shift := rfl
@[simp] theorem takeSnapshot_tally_baseOcc : (takeSnapshot s).tally.baseOcc = s.tally.baseOcc := rfl
@[simp] theorem takeSnapshot_tally_held : (takeSnapshot s).tally.held = some (snapshotNow s) := rfl
@[simp] theorem takeSnapshot_tally_nextSnapshot :
    (takeSnapshot s).tally.nextSnapshot = s.tally.nextSnapshot + 1 := rfl
@[simp] theorem takeSnapshot_run : (takeSnapshot s).run = s.run := rfl
@[simp] theorem takeSnapshot_cal : (takeSnapshot s).cal = s.cal := rfl
@[simp] theorem takeSnapshot_trace : (takeSnapshot s).trace = s.trace := rfl
@[simp] theorem takeSnapshot_link : (takeSnapshot s).link = s.link := rfl
@[simp] theorem takeSnapshot_pending : (takeSnapshot s).pending = s.pending := rfl

end takeSnapshotFields

/-! ### clearShift -/

section clearShiftFields
variable (n : Snapshot) (s : State)

@[simp] theorem clearShift_pins : (clearShift n s).pins = s.pins := rfl
@[simp] theorem clearShift_uptime : (clearShift n s).uptime = s.uptime := rfl
@[simp] theorem clearShift_tracker : (clearShift n s).tracker = s.tracker := rfl
@[simp] theorem clearShift_channels : (clearShift n s).channels = s.channels := rfl
@[simp] theorem clearShift_lamps : (clearShift n s).lamps = s.lamps := rfl
@[simp] theorem clearShift_facing : (clearShift n s).facing = s.facing := rfl
@[simp] theorem clearShift_gate : (clearShift n s).gate = s.gate := rfl
@[simp] theorem clearShift_cancel : (clearShift n s).cancel = s.cancel := rfl
@[simp] theorem clearShift_stacker : (clearShift n s).stacker = s.stacker := rfl
@[simp] theorem clearShift_tally_life : (clearShift n s).tally.life = s.tally.life := rfl
@[simp] theorem clearShift_tally_shift : (clearShift n s).tally.shift = s.tally.shift.minus n.shift := rfl
@[simp] theorem clearShift_tally_baseOcc : (clearShift n s).tally.baseOcc = n.occupancy := rfl
@[simp] theorem clearShift_tally_held : (clearShift n s).tally.held = s.tally.held := rfl
@[simp] theorem clearShift_tally_nextSnapshot :
    (clearShift n s).tally.nextSnapshot = s.tally.nextSnapshot := rfl
@[simp] theorem clearShift_run : (clearShift n s).run = s.run := rfl
@[simp] theorem clearShift_cal : (clearShift n s).cal = s.cal := rfl
@[simp] theorem clearShift_trace : (clearShift n s).trace = s.trace := rfl
@[simp] theorem clearShift_link : (clearShift n s).link = s.link := rfl
@[simp] theorem clearShift_pending : (clearShift n s).pending = s.pending := rfl

end clearShiftFields

/-! ### releaseSnapshot -/

section releaseSnapshotFields
variable (s : State)

@[simp] theorem releaseSnapshot_pins : (releaseSnapshot s).pins = s.pins := rfl
@[simp] theorem releaseSnapshot_uptime : (releaseSnapshot s).uptime = s.uptime := rfl
@[simp] theorem releaseSnapshot_tracker : (releaseSnapshot s).tracker = s.tracker := rfl
@[simp] theorem releaseSnapshot_channels : (releaseSnapshot s).channels = s.channels := rfl
@[simp] theorem releaseSnapshot_lamps : (releaseSnapshot s).lamps = s.lamps := rfl
@[simp] theorem releaseSnapshot_facing : (releaseSnapshot s).facing = s.facing := rfl
@[simp] theorem releaseSnapshot_gate : (releaseSnapshot s).gate = s.gate := rfl
@[simp] theorem releaseSnapshot_cancel : (releaseSnapshot s).cancel = s.cancel := rfl
@[simp] theorem releaseSnapshot_stacker : (releaseSnapshot s).stacker = s.stacker := rfl
@[simp] theorem releaseSnapshot_tally_life : (releaseSnapshot s).tally.life = s.tally.life := rfl
@[simp] theorem releaseSnapshot_tally_shift : (releaseSnapshot s).tally.shift = s.tally.shift := rfl
@[simp] theorem releaseSnapshot_tally_baseOcc : (releaseSnapshot s).tally.baseOcc = s.tally.baseOcc := rfl
@[simp] theorem releaseSnapshot_tally_held : (releaseSnapshot s).tally.held = none := rfl
@[simp] theorem releaseSnapshot_tally_nextSnapshot :
    (releaseSnapshot s).tally.nextSnapshot = s.tally.nextSnapshot := rfl
@[simp] theorem releaseSnapshot_run : (releaseSnapshot s).run = s.run := rfl
@[simp] theorem releaseSnapshot_cal : (releaseSnapshot s).cal = s.cal := rfl
@[simp] theorem releaseSnapshot_trace : (releaseSnapshot s).trace = s.trace := rfl
@[simp] theorem releaseSnapshot_link : (releaseSnapshot s).link = s.link := rfl
@[simp] theorem releaseSnapshot_pending : (releaseSnapshot s).pending = s.pending := rfl

end releaseSnapshotFields

/-! ### restartLinkTimer -/

section restartLinkTimerFields
variable (s : State)

@[simp] theorem restartLinkTimer_pins : (restartLinkTimer s).pins = s.pins := rfl
@[simp] theorem restartLinkTimer_uptime : (restartLinkTimer s).uptime = s.uptime := rfl
@[simp] theorem restartLinkTimer_tracker : (restartLinkTimer s).tracker = s.tracker := rfl
@[simp] theorem restartLinkTimer_channels : (restartLinkTimer s).channels = s.channels := rfl
@[simp] theorem restartLinkTimer_lamps : (restartLinkTimer s).lamps = s.lamps := rfl
@[simp] theorem restartLinkTimer_facing : (restartLinkTimer s).facing = s.facing := rfl
@[simp] theorem restartLinkTimer_gate : (restartLinkTimer s).gate = s.gate := rfl
@[simp] theorem restartLinkTimer_cancel : (restartLinkTimer s).cancel = s.cancel := rfl
@[simp] theorem restartLinkTimer_stacker : (restartLinkTimer s).stacker = s.stacker := rfl
@[simp] theorem restartLinkTimer_tally : (restartLinkTimer s).tally = s.tally := rfl
@[simp] theorem restartLinkTimer_run_state : (restartLinkTimer s).run.state = s.run.state := rfl
@[simp] theorem restartLinkTimer_run_startTimer :
    (restartLinkTimer s).run.startTimer = s.run.startTimer := rfl
@[simp] theorem restartLinkTimer_run_startPos : (restartLinkTimer s).run.startPos = s.run.startPos := rfl
@[simp] theorem restartLinkTimer_run_causes : (restartLinkTimer s).run.causes = s.run.causes := rfl
@[simp] theorem restartLinkTimer_run_linkTimeout :
    (restartLinkTimer s).run.linkTimeout = s.run.linkTimeout := rfl
@[simp] theorem restartLinkTimer_run_sinceLink : (restartLinkTimer s).run.sinceLink = 0 := rfl
@[simp] theorem restartLinkTimer_run_linkRaised : (restartLinkTimer s).run.linkRaised = false := rfl
@[simp] theorem restartLinkTimer_run_lastValid : (restartLinkTimer s).run.lastValid = s.run.lastValid := rfl
@[simp] theorem restartLinkTimer_run_faults : (restartLinkTimer s).run.faults = s.run.faults := rfl
@[simp] theorem restartLinkTimer_run_beacon : (restartLinkTimer s).run.beacon = s.run.beacon := rfl
@[simp] theorem restartLinkTimer_cal : (restartLinkTimer s).cal = s.cal := rfl
@[simp] theorem restartLinkTimer_trace : (restartLinkTimer s).trace = s.trace := rfl
@[simp] theorem restartLinkTimer_link : (restartLinkTimer s).link = s.link := rfl
@[simp] theorem restartLinkTimer_pending : (restartLinkTimer s).pending = s.pending := rfl

end restartLinkTimerFields

/-! ### switchGate -/

section switchGateFields
variable (e : GateEntry) (s : State)

@[simp] theorem switchGate_pins : (switchGate e s).pins = s.pins := rfl
@[simp] theorem switchGate_uptime : (switchGate e s).uptime = s.uptime := rfl
@[simp] theorem switchGate_tracker : (switchGate e s).tracker = s.tracker := rfl
@[simp] theorem switchGate_channels : (switchGate e s).channels = s.channels := rfl
@[simp] theorem switchGate_lamps : (switchGate e s).lamps = s.lamps := rfl
@[simp] theorem switchGate_facing : (switchGate e s).facing = s.facing := rfl
@[simp] theorem switchGate_gate_output : (switchGate e s).gate.output = e.target := rfl
@[simp] theorem switchGate_gate_queue : (switchGate e s).gate.queue = s.gate.queue := rfl
@[simp] theorem switchGate_gate_exercise : (switchGate e s).gate.exercise = s.gate.exercise := rfl
@[simp] theorem switchGate_cancel : (switchGate e s).cancel = s.cancel := rfl
@[simp] theorem switchGate_stacker : (switchGate e s).stacker = s.stacker := rfl
@[simp] theorem switchGate_tally : (switchGate e s).tally = s.tally := rfl
@[simp] theorem switchGate_run : (switchGate e s).run = s.run := rfl
@[simp] theorem switchGate_cal : (switchGate e s).cal = s.cal := rfl
@[simp] theorem switchGate_trace : (switchGate e s).trace = s.trace := rfl
@[simp] theorem switchGate_link : (switchGate e s).link = s.link := rfl
@[simp] theorem switchGate_pending : (switchGate e s).pending = s.pending := rfl

end switchGateFields

/-! ### unwait -/

section unwaitFields
variable (n : U16) (s : State)

@[simp] theorem unwait_pins : (unwait n s).pins = s.pins := rfl
@[simp] theorem unwait_uptime : (unwait n s).uptime = s.uptime := rfl
@[simp] theorem unwait_tracker : (unwait n s).tracker = s.tracker := rfl
@[simp] theorem unwait_channels : (unwait n s).channels = s.channels := rfl
@[simp] theorem unwait_lamps : (unwait n s).lamps = s.lamps := rfl
@[simp] theorem unwait_facing_record : (unwait n s).facing.record = s.facing.record := rfl
@[simp] theorem unwait_facing_waiting :
    (unwait n s).facing.waiting = s.facing.waiting.filter fun m => m != n := rfl
@[simp] theorem unwait_gate : (unwait n s).gate = s.gate := rfl
@[simp] theorem unwait_cancel : (unwait n s).cancel = s.cancel := rfl
@[simp] theorem unwait_stacker : (unwait n s).stacker = s.stacker := rfl
@[simp] theorem unwait_tally : (unwait n s).tally = s.tally := rfl
@[simp] theorem unwait_run : (unwait n s).run = s.run := rfl
@[simp] theorem unwait_cal : (unwait n s).cal = s.cal := rfl
@[simp] theorem unwait_trace : (unwait n s).trace = s.trace := rfl
@[simp] theorem unwait_link : (unwait n s).link = s.link := rfl
@[simp] theorem unwait_pending : (unwait n s).pending = s.pending := rfl

end unwaitFields

/-! ### joinWaiting -/

section joinWaitingFields
variable (n : U16) (s : State)

@[simp] theorem joinWaiting_pins : (joinWaiting n s).pins = s.pins := rfl
@[simp] theorem joinWaiting_uptime : (joinWaiting n s).uptime = s.uptime := rfl
@[simp] theorem joinWaiting_tracker : (joinWaiting n s).tracker = s.tracker := rfl
@[simp] theorem joinWaiting_channels : (joinWaiting n s).channels = s.channels := rfl
@[simp] theorem joinWaiting_lamps : (joinWaiting n s).lamps = s.lamps := rfl
@[simp] theorem joinWaiting_facing_record : (joinWaiting n s).facing.record = s.facing.record := rfl
@[simp] theorem joinWaiting_gate : (joinWaiting n s).gate = s.gate := rfl
@[simp] theorem joinWaiting_cancel : (joinWaiting n s).cancel = s.cancel := rfl
@[simp] theorem joinWaiting_stacker : (joinWaiting n s).stacker = s.stacker := rfl
@[simp] theorem joinWaiting_tally : (joinWaiting n s).tally = s.tally := rfl
@[simp] theorem joinWaiting_run : (joinWaiting n s).run = s.run := rfl
@[simp] theorem joinWaiting_cal : (joinWaiting n s).cal = s.cal := rfl
@[simp] theorem joinWaiting_trace : (joinWaiting n s).trace = s.trace := rfl
@[simp] theorem joinWaiting_link : (joinWaiting n s).link = s.link := rfl
@[simp] theorem joinWaiting_pending : (joinWaiting n s).pending = s.pending := rfl

end joinWaitingFields

end Sys2Proof.Machine
end

