-- ==== Sys2Proof/Laws/Ops.lean ====
section
/-! SUPPORT. What each shared operation of the controller can do: the fields it leaves alone, field by field,
and the equations its callers cite in place of its definition. -/

namespace Sys2Proof.Machine

/-! ### Counters -/

@[simp] theorem counterOf_bump (c d : Counter) (t : TallySet) :
    counterOf (bump c t) d = if d = c then counterOf t d + 1 else counterOf t d := by
  cases c <;> cases d <;> simp [bump, counterOf, apply_ite]
  all_goals (split <;> simp_all)

/-! ### Notices (R174 to R176) -/

section postIfFields
variable (b : Bool) (c : Counter) (s : State)

@[simp] theorem postIf_pins : (postIf b c s).pins = s.pins := by unfold postIf; split <;> simp
@[simp] theorem postIf_uptime : (postIf b c s).uptime = s.uptime := by unfold postIf; split <;> simp
@[simp] theorem postIf_tracker : (postIf b c s).tracker = s.tracker := by unfold postIf; split <;> simp
@[simp] theorem postIf_channels : (postIf b c s).channels = s.channels := by unfold postIf; split <;> simp
@[simp] theorem postIf_lamps : (postIf b c s).lamps = s.lamps := by unfold postIf; split <;> simp
@[simp] theorem postIf_facing : (postIf b c s).facing = s.facing := by unfold postIf; split <;> simp
@[simp] theorem postIf_gate : (postIf b c s).gate = s.gate := by unfold postIf; split <;> simp
@[simp] theorem postIf_cancel : (postIf b c s).cancel = s.cancel := by unfold postIf; split <;> simp
@[simp] theorem postIf_stacker : (postIf b c s).stacker = s.stacker := by unfold postIf; split <;> simp
@[simp] theorem postIf_tally_baseOcc :
    (postIf b c s).tally.baseOcc = s.tally.baseOcc := by unfold postIf; split <;> simp
@[simp] theorem postIf_tally_held :
    (postIf b c s).tally.held = s.tally.held := by unfold postIf; split <;> simp
@[simp] theorem postIf_tally_nextSnapshot :
    (postIf b c s).tally.nextSnapshot = s.tally.nextSnapshot := by unfold postIf; split <;> simp
@[simp] theorem postIf_run : (postIf b c s).run = s.run := by unfold postIf; split <;> simp
@[simp] theorem postIf_cal : (postIf b c s).cal = s.cal := by unfold postIf; split <;> simp
@[simp] theorem postIf_trace : (postIf b c s).trace = s.trace := by unfold postIf; split <;> simp
@[simp] theorem postIf_link : (postIf b c s).link = s.link := by unfold postIf; split <;> simp
@[simp] theorem postIf_pending : (postIf b c s).pending = s.pending := by unfold postIf; split <;> simp

end postIfFields

section testLostFields
variable (s : State)

@[simp] theorem testLost_pins : (testLost s).pins = s.pins := by unfold testLost; split <;> rfl
@[simp] theorem testLost_uptime : (testLost s).uptime = s.uptime := by unfold testLost; split <;> rfl
@[simp] theorem testLost_tracker : (testLost s).tracker = s.tracker := by unfold testLost; split <;> rfl
@[simp] theorem testLost_channels : (testLost s).channels = s.channels := by unfold testLost; split <;> rfl
@[simp] theorem testLost_lamps : (testLost s).lamps = s.lamps := by unfold testLost; split <;> rfl
@[simp] theorem testLost_facing : (testLost s).facing = s.facing := by unfold testLost; split <;> rfl
@[simp] theorem testLost_gate : (testLost s).gate = s.gate := by unfold testLost; split <;> rfl
@[simp] theorem testLost_cancel : (testLost s).cancel = s.cancel := by unfold testLost; split <;> rfl
@[simp] theorem testLost_stacker : (testLost s).stacker = s.stacker := by unfold testLost; split <;> rfl
@[simp] theorem testLost_tally : (testLost s).tally = s.tally := by unfold testLost; split <;> rfl
@[simp] theorem testLost_run : (testLost s).run = s.run := by unfold testLost; split <;> rfl
@[simp] theorem testLost_cal : (testLost s).cal = s.cal := by unfold testLost; split <;> rfl
@[simp] theorem testLost_trace : (testLost s).trace = s.trace := by unfold testLost; split <;> rfl
@[simp] theorem testLost_link_rate : (testLost s).link.rate = s.link.rate := by unfold testLost; split <;> rfl
@[simp] theorem testLost_link_receiver :
    (testLost s).link.receiver = s.link.receiver := by unfold testLost; split <;> rfl
@[simp] theorem testLost_link_inbound :
    (testLost s).link.inbound = s.link.inbound := by unfold testLost; split <;> rfl
@[simp] theorem testLost_link_oversize :
    (testLost s).link.oversize = s.link.oversize := by unfold testLost; split <;> rfl
@[simp] theorem testLost_link_bad : (testLost s).link.bad = s.link.bad := by unfold testLost; split <;> rfl
@[simp] theorem testLost_link_broken :
    (testLost s).link.broken = s.link.broken := by unfold testLost; split <;> rfl
@[simp] theorem testLost_link_dropped :
    (testLost s).link.dropped = s.link.dropped := by unfold testLost; split <;> rfl
@[simp] theorem testLost_link_letterEnable :
    (testLost s).link.letterEnable = s.link.letterEnable := by unfold testLost; split <;> rfl
@[simp] theorem testLost_link_traceEnable :
    (testLost s).link.traceEnable = s.link.traceEnable := by unfold testLost; split <;> rfl
@[simp] theorem testLost_link_reset :
    (testLost s).link.reset = s.link.reset := by unfold testLost; split <;> rfl
@[simp] theorem testLost_link_line : (testLost s).link.line = s.link.line := by unfold testLost; split <;> rfl
@[simp] theorem testLost_pending : (testLost s).pending = s.pending := by unfold testLost; split <;> rfl

end testLostFields

theorem countLost_eq (f : OutFrame) (l : Link) : ∃ a b c, countLost f l =
    { l with reportsLost := a, tracesLost := b, eventsLost := c } := by
  unfold countLost
  split <;> exact ⟨_, _, _, rfl⟩

section countLostFields
variable (f : OutFrame) (l : Link)

@[simp] theorem countLost_rate : (countLost f l).rate = l.rate := by
  unfold countLost; split <;> rfl
@[simp] theorem countLost_receiver : (countLost f l).receiver = l.receiver := by
  unfold countLost; split <;> rfl
@[simp] theorem countLost_inbound : (countLost f l).inbound = l.inbound := by
  unfold countLost; split <;> rfl
@[simp] theorem countLost_outbound : (countLost f l).outbound = l.outbound := by
  unfold countLost; split <;> rfl
@[simp] theorem countLost_oversize : (countLost f l).oversize = l.oversize := by
  unfold countLost; split <;> rfl
@[simp] theorem countLost_bad : (countLost f l).bad = l.bad := by
  unfold countLost; split <;> rfl
@[simp] theorem countLost_broken : (countLost f l).broken = l.broken := by
  unfold countLost; split <;> rfl
@[simp] theorem countLost_dropped : (countLost f l).dropped = l.dropped := by
  unfold countLost; split <;> rfl
@[simp] theorem countLost_letterEnable : (countLost f l).letterEnable = l.letterEnable := by
  unfold countLost; split <;> rfl
@[simp] theorem countLost_traceEnable : (countLost f l).traceEnable = l.traceEnable := by
  unfold countLost; split <;> rfl
@[simp] theorem countLost_reset : (countLost f l).reset = l.reset := by
  unfold countLost; split <;> rfl
@[simp] theorem countLost_line : (countLost f l).line = l.line := by
  unfold countLost; split <;> rfl

end countLostFields

section dropNoticeFields
variable (n : Notice) (s : State)

@[simp] theorem dropNotice_pins : (dropNotice n s).pins = s.pins := by simp [dropNotice]
@[simp] theorem dropNotice_uptime : (dropNotice n s).uptime = s.uptime := by simp [dropNotice]
@[simp] theorem dropNotice_tracker : (dropNotice n s).tracker = s.tracker := by simp [dropNotice]
@[simp] theorem dropNotice_channels : (dropNotice n s).channels = s.channels := by simp [dropNotice]
@[simp] theorem dropNotice_lamps : (dropNotice n s).lamps = s.lamps := by simp [dropNotice]
@[simp] theorem dropNotice_facing : (dropNotice n s).facing = s.facing := by simp [dropNotice]
@[simp] theorem dropNotice_gate : (dropNotice n s).gate = s.gate := by simp [dropNotice]
@[simp] theorem dropNotice_cancel : (dropNotice n s).cancel = s.cancel := by simp [dropNotice]
@[simp] theorem dropNotice_stacker : (dropNotice n s).stacker = s.stacker := by simp [dropNotice]
@[simp] theorem dropNotice_tally : (dropNotice n s).tally = s.tally := by simp [dropNotice]
@[simp] theorem dropNotice_run : (dropNotice n s).run = s.run := by simp [dropNotice]
@[simp] theorem dropNotice_cal : (dropNotice n s).cal = s.cal := by simp [dropNotice]
@[simp] theorem dropNotice_trace : (dropNotice n s).trace = s.trace := by simp [dropNotice]
@[simp] theorem dropNotice_link_rate : (dropNotice n s).link.rate = s.link.rate := by simp [dropNotice]
@[simp] theorem dropNotice_link_receiver :
    (dropNotice n s).link.receiver = s.link.receiver := by simp [dropNotice]
@[simp] theorem dropNotice_link_inbound :
    (dropNotice n s).link.inbound = s.link.inbound := by simp [dropNotice]
@[simp] theorem dropNotice_link_oversize :
    (dropNotice n s).link.oversize = s.link.oversize := by simp [dropNotice]
@[simp] theorem dropNotice_link_bad : (dropNotice n s).link.bad = s.link.bad := by simp [dropNotice]
@[simp] theorem dropNotice_link_broken : (dropNotice n s).link.broken = s.link.broken := by simp [dropNotice]
@[simp] theorem dropNotice_link_dropped :
    (dropNotice n s).link.dropped = s.link.dropped := by simp [dropNotice]
@[simp] theorem dropNotice_link_letterEnable :
    (dropNotice n s).link.letterEnable = s.link.letterEnable := by simp [dropNotice]
@[simp] theorem dropNotice_link_traceEnable :
    (dropNotice n s).link.traceEnable = s.link.traceEnable := by simp [dropNotice]
@[simp] theorem dropNotice_link_reset : (dropNotice n s).link.reset = s.link.reset := by simp [dropNotice]
@[simp] theorem dropNotice_link_line : (dropNotice n s).link.line = s.link.line := by simp [dropNotice]
@[simp] theorem dropNotice_pending : (dropNotice n s).pending = s.pending := by simp [dropNotice]

end dropNoticeFields

section displaceFields
variable (n : Notice) (s : State)

@[simp] theorem displace_pins : (displace n s).pins = s.pins := by unfold displace; split <;> simp
@[simp] theorem displace_uptime : (displace n s).uptime = s.uptime := by unfold displace; split <;> simp
@[simp] theorem displace_tracker : (displace n s).tracker = s.tracker := by unfold displace; split <;> simp
@[simp] theorem displace_channels : (displace n s).channels = s.channels := by unfold displace; split <;> simp
@[simp] theorem displace_lamps : (displace n s).lamps = s.lamps := by unfold displace; split <;> simp
@[simp] theorem displace_facing : (displace n s).facing = s.facing := by unfold displace; split <;> simp
@[simp] theorem displace_gate : (displace n s).gate = s.gate := by unfold displace; split <;> simp
@[simp] theorem displace_cancel : (displace n s).cancel = s.cancel := by unfold displace; split <;> simp
@[simp] theorem displace_stacker : (displace n s).stacker = s.stacker := by unfold displace; split <;> simp
@[simp] theorem displace_tally : (displace n s).tally = s.tally := by unfold displace; split <;> simp
@[simp] theorem displace_run : (displace n s).run = s.run := by unfold displace; split <;> simp
@[simp] theorem displace_cal : (displace n s).cal = s.cal := by unfold displace; split <;> simp
@[simp] theorem displace_trace : (displace n s).trace = s.trace := by unfold displace; split <;> simp
@[simp] theorem displace_link_rate :
    (displace n s).link.rate = s.link.rate := by unfold displace; split <;> simp
@[simp] theorem displace_link_receiver :
    (displace n s).link.receiver = s.link.receiver := by unfold displace; split <;> simp
@[simp] theorem displace_link_inbound :
    (displace n s).link.inbound = s.link.inbound := by unfold displace; split <;> simp
@[simp] theorem displace_link_oversize :
    (displace n s).link.oversize = s.link.oversize := by unfold displace; split <;> simp
@[simp] theorem displace_link_bad : (displace n s).link.bad = s.link.bad := by unfold displace; split <;> simp
@[simp] theorem displace_link_broken :
    (displace n s).link.broken = s.link.broken := by unfold displace; split <;> simp
@[simp] theorem displace_link_dropped :
    (displace n s).link.dropped = s.link.dropped := by unfold displace; split <;> simp
@[simp] theorem displace_link_letterEnable :
    (displace n s).link.letterEnable = s.link.letterEnable := by unfold displace; split <;> simp
@[simp] theorem displace_link_traceEnable :
    (displace n s).link.traceEnable = s.link.traceEnable := by unfold displace; split <;> simp
@[simp] theorem displace_link_reset :
    (displace n s).link.reset = s.link.reset := by unfold displace; split <;> simp
@[simp] theorem displace_link_line :
    (displace n s).link.line = s.link.line := by unfold displace; split <;> simp
@[simp] theorem displace_pending : (displace n s).pending = s.pending := by unfold displace; split <;> simp

end displaceFields

section handNoticeFields
variable (n : Notice) (s : State)

@[simp] theorem handNotice_pins :
    (handNotice n s).pins = s.pins := by unfold handNotice; split <;> repeat (first | rfl | split | simp)
@[simp] theorem handNotice_uptime :
    (handNotice n s).uptime = s.uptime := by unfold handNotice; split <;> repeat (first | rfl | split | simp)
@[simp] theorem handNotice_tracker :
    (handNotice n s).tracker = s.tracker := by
  unfold handNotice; split <;> repeat (first | rfl | split | simp)
@[simp] theorem handNotice_channels :
    (handNotice n s).channels = s.channels := by
  unfold handNotice; split <;> repeat (first | rfl | split | simp)
@[simp] theorem handNotice_lamps :
    (handNotice n s).lamps = s.lamps := by unfold handNotice; split <;> repeat (first | rfl | split | simp)
@[simp] theorem handNotice_facing :
    (handNotice n s).facing = s.facing := by unfold handNotice; split <;> repeat (first | rfl | split | simp)
@[simp] theorem handNotice_gate :
    (handNotice n s).gate = s.gate := by unfold handNotice; split <;> repeat (first | rfl | split | simp)
@[simp] theorem handNotice_cancel :
    (handNotice n s).cancel = s.cancel := by unfold handNotice; split <;> repeat (first | rfl | split | simp)
@[simp] theorem handNotice_stacker :
    (handNotice n s).stacker = s.stacker := by
  unfold handNotice; split <;> repeat (first | rfl | split | simp)
@[simp] theorem handNotice_tally :
    (handNotice n s).tally = s.tally := by unfold handNotice; split <;> repeat (first | rfl | split | simp)
@[simp] theorem handNotice_run :
    (handNotice n s).run = s.run := by unfold handNotice; split <;> repeat (first | rfl | split | simp)
@[simp] theorem handNotice_cal :
    (handNotice n s).cal = s.cal := by unfold handNotice; split <;> repeat (first | rfl | split | simp)
@[simp] theorem handNotice_trace :
    (handNotice n s).trace = s.trace := by unfold handNotice; split <;> repeat (first | rfl | split | simp)
@[simp] theorem handNotice_link_rate :
    (handNotice n s).link.rate = s.link.rate := by
  unfold handNotice; split <;> repeat (first | rfl | split | simp)
@[simp] theorem handNotice_link_receiver :
    (handNotice n s).link.receiver = s.link.receiver := by
  unfold handNotice; split <;> repeat (first | rfl | split | simp)
@[simp] theorem handNotice_link_inbound :
    (handNotice n s).link.inbound = s.link.inbound := by
  unfold handNotice; split <;> repeat (first | rfl | split | simp)
@[simp] theorem handNotice_link_oversize :
    (handNotice n s).link.oversize = s.link.oversize := by
  unfold handNotice; split <;> repeat (first | rfl | split | simp)
@[simp] theorem handNotice_link_bad :
    (handNotice n s).link.bad = s.link.bad := by
  unfold handNotice; split <;> repeat (first | rfl | split | simp)
@[simp] theorem handNotice_link_broken :
    (handNotice n s).link.broken = s.link.broken := by
  unfold handNotice; split <;> repeat (first | rfl | split | simp)
@[simp] theorem handNotice_link_dropped :
    (handNotice n s).link.dropped = s.link.dropped := by
  unfold handNotice; split <;> repeat (first | rfl | split | simp)
@[simp] theorem handNotice_link_letterEnable :
    (handNotice n s).link.letterEnable = s.link.letterEnable := by
  unfold handNotice; split <;> repeat (first | rfl | split | simp)
@[simp] theorem handNotice_link_traceEnable :
    (handNotice n s).link.traceEnable = s.link.traceEnable := by
  unfold handNotice; split <;> repeat (first | rfl | split | simp)
@[simp] theorem handNotice_link_reset :
    (handNotice n s).link.reset = s.link.reset := by
  unfold handNotice; split <;> repeat (first | rfl | split | simp)
@[simp] theorem handNotice_link_line :
    (handNotice n s).link.line = s.link.line := by
  unfold handNotice; split <;> repeat (first | rfl | split | simp)
@[simp] theorem handNotice_pending :
    (handNotice n s).pending = s.pending := by
  unfold handNotice; split <;> repeat (first | rfl | split | simp)

end handNoticeFields

/-- The test of R176 changes the link alone. -/
theorem testLost_eq (s : State) : testLost s = { s with link := (testLost s).link } := by
  unfold testLost; split <;> rfl

/-- Handing a notice to the link changes the link alone (R174, R175). -/
theorem handNotice_eq (n : Notice) (s : State) : handNotice n s = { s with link := (handNotice n s).link } := by
  have drop (s : State) : dropNotice n s = { s with link := (dropNotice n s).link } :=
    testLost_eq { s with link := countLost (.notice n) s.link }
  have disp (s : State) : displace n s = { s with link := (displace n s).link } := by
    unfold displace
    split
    · exact testLost_eq _
    · exact drop s
  unfold handNotice
  repeat' split
  all_goals first | rfl | exact drop s | exact disp s

/-! ### Calibration's end (R159, R161) -/

section calNoticeFields
variable (r : CalRecord) (st : CalStatus) (why : Option CalAbortReason) (avg : Option Nat) (code : Option (BitVec 4)) (s : State)

@[simp] theorem calNotice_pins : (calNotice r st why avg code s).pins = s.pins := by simp [calNotice]
@[simp] theorem calNotice_uptime : (calNotice r st why avg code s).uptime = s.uptime := by simp [calNotice]
@[simp] theorem calNotice_tracker : (calNotice r st why avg code s).tracker = s.tracker := by simp [calNotice]
@[simp] theorem calNotice_channels :
    (calNotice r st why avg code s).channels = s.channels := by simp [calNotice]
@[simp] theorem calNotice_lamps : (calNotice r st why avg code s).lamps = s.lamps := by simp [calNotice]
@[simp] theorem calNotice_facing : (calNotice r st why avg code s).facing = s.facing := by simp [calNotice]
@[simp] theorem calNotice_gate : (calNotice r st why avg code s).gate = s.gate := by simp [calNotice]
@[simp] theorem calNotice_cancel : (calNotice r st why avg code s).cancel = s.cancel := by simp [calNotice]
@[simp] theorem calNotice_stacker : (calNotice r st why avg code s).stacker = s.stacker := by simp [calNotice]
@[simp] theorem calNotice_tally : (calNotice r st why avg code s).tally = s.tally := by simp [calNotice]
@[simp] theorem calNotice_run : (calNotice r st why avg code s).run = s.run := by simp [calNotice]
@[simp] theorem calNotice_cal : (calNotice r st why avg code s).cal = s.cal := by simp [calNotice]
@[simp] theorem calNotice_trace : (calNotice r st why avg code s).trace = s.trace := by simp [calNotice]
@[simp] theorem calNotice_link_rate :
    (calNotice r st why avg code s).link.rate = s.link.rate := by simp [calNotice]
@[simp] theorem calNotice_link_receiver :
    (calNotice r st why avg code s).link.receiver = s.link.receiver := by simp [calNotice]
@[simp] theorem calNotice_link_inbound :
    (calNotice r st why avg code s).link.inbound = s.link.inbound := by simp [calNotice]
@[simp] theorem calNotice_link_oversize :
    (calNotice r st why avg code s).link.oversize = s.link.oversize := by simp [calNotice]
@[simp] theorem calNotice_link_bad :
    (calNotice r st why avg code s).link.bad = s.link.bad := by simp [calNotice]
@[simp] theorem calNotice_link_broken :
    (calNotice r st why avg code s).link.broken = s.link.broken := by simp [calNotice]
@[simp] theorem calNotice_link_dropped :
    (calNotice r st why avg code s).link.dropped = s.link.dropped := by simp [calNotice]
@[simp] theorem calNotice_link_letterEnable :
    (calNotice r st why avg code s).link.letterEnable = s.link.letterEnable := by simp [calNotice]
@[simp] theorem calNotice_link_traceEnable :
    (calNotice r st why avg code s).link.traceEnable = s.link.traceEnable := by simp [calNotice]
@[simp] theorem calNotice_link_reset :
    (calNotice r st why avg code s).link.reset = s.link.reset := by simp [calNotice]
@[simp] theorem calNotice_link_line :
    (calNotice r st why avg code s).link.line = s.link.line := by simp [calNotice]
@[simp] theorem calNotice_pending : (calNotice r st why avg code s).pending = s.pending := by simp [calNotice]

end calNoticeFields

section abortCalFields
variable (why : CalAbortReason) (s : State)

@[simp] theorem abortCal_pins : (abortCal why s).pins = s.pins := by unfold abortCal; split <;> simp
@[simp] theorem abortCal_uptime : (abortCal why s).uptime = s.uptime := by unfold abortCal; split <;> simp
@[simp] theorem abortCal_tracker : (abortCal why s).tracker = s.tracker := by unfold abortCal; split <;> simp
@[simp] theorem abortCal_channels :
    (abortCal why s).channels = s.channels := by unfold abortCal; split <;> simp
@[simp] theorem abortCal_lamps : (abortCal why s).lamps = s.lamps := by unfold abortCal; split <;> simp
@[simp] theorem abortCal_facing : (abortCal why s).facing = s.facing := by unfold abortCal; split <;> simp
@[simp] theorem abortCal_gate : (abortCal why s).gate = s.gate := by unfold abortCal; split <;> simp
@[simp] theorem abortCal_cancel : (abortCal why s).cancel = s.cancel := by unfold abortCal; split <;> simp
@[simp] theorem abortCal_stacker : (abortCal why s).stacker = s.stacker := by unfold abortCal; split <;> simp
@[simp] theorem abortCal_tally : (abortCal why s).tally = s.tally := by unfold abortCal; split <;> simp
@[simp] theorem abortCal_run : (abortCal why s).run = s.run := by unfold abortCal; split <;> simp
@[simp] theorem abortCal_trace : (abortCal why s).trace = s.trace := by unfold abortCal; split <;> simp
@[simp] theorem abortCal_link_rate :
    (abortCal why s).link.rate = s.link.rate := by unfold abortCal; split <;> simp
@[simp] theorem abortCal_link_receiver :
    (abortCal why s).link.receiver = s.link.receiver := by unfold abortCal; split <;> simp
@[simp] theorem abortCal_link_inbound :
    (abortCal why s).link.inbound = s.link.inbound := by unfold abortCal; split <;> simp
@[simp] theorem abortCal_link_oversize :
    (abortCal why s).link.oversize = s.link.oversize := by unfold abortCal; split <;> simp
@[simp] theorem abortCal_link_bad :
    (abortCal why s).link.bad = s.link.bad := by unfold abortCal; split <;> simp
@[simp] theorem abortCal_link_broken :
    (abortCal why s).link.broken = s.link.broken := by unfold abortCal; split <;> simp
@[simp] theorem abortCal_link_dropped :
    (abortCal why s).link.dropped = s.link.dropped := by unfold abortCal; split <;> simp
@[simp] theorem abortCal_link_letterEnable :
    (abortCal why s).link.letterEnable = s.link.letterEnable := by unfold abortCal; split <;> simp
@[simp] theorem abortCal_link_traceEnable :
    (abortCal why s).link.traceEnable = s.link.traceEnable := by unfold abortCal; split <;> simp
@[simp] theorem abortCal_link_reset :
    (abortCal why s).link.reset = s.link.reset := by unfold abortCal; split <;> simp
@[simp] theorem abortCal_link_line :
    (abortCal why s).link.line = s.link.line := by unfold abortCal; split <;> simp
@[simp] theorem abortCal_pending : (abortCal why s).pending = s.pending := by unfold abortCal; split <;> simp
@[simp] theorem abortCal_cal : (abortCal why s).cal = .off := by
  unfold abortCal
  split
  · rename_i h
    cases hc : s.cal <;> simp_all [calRunning]
  · simp

end abortCalFields

section abortCalOfFields
variable (c : Channel) (why : CalAbortReason) (s : State)

@[simp] theorem abortCalOf_pins : (abortCalOf c why s).pins = s.pins := by unfold abortCalOf; split <;> simp
@[simp] theorem abortCalOf_uptime :
    (abortCalOf c why s).uptime = s.uptime := by unfold abortCalOf; split <;> simp
@[simp] theorem abortCalOf_tracker :
    (abortCalOf c why s).tracker = s.tracker := by unfold abortCalOf; split <;> simp
@[simp] theorem abortCalOf_channels :
    (abortCalOf c why s).channels = s.channels := by unfold abortCalOf; split <;> simp
@[simp] theorem abortCalOf_lamps :
    (abortCalOf c why s).lamps = s.lamps := by unfold abortCalOf; split <;> simp
@[simp] theorem abortCalOf_facing :
    (abortCalOf c why s).facing = s.facing := by unfold abortCalOf; split <;> simp
@[simp] theorem abortCalOf_gate : (abortCalOf c why s).gate = s.gate := by unfold abortCalOf; split <;> simp
@[simp] theorem abortCalOf_cancel :
    (abortCalOf c why s).cancel = s.cancel := by unfold abortCalOf; split <;> simp
@[simp] theorem abortCalOf_stacker :
    (abortCalOf c why s).stacker = s.stacker := by unfold abortCalOf; split <;> simp
@[simp] theorem abortCalOf_tally :
    (abortCalOf c why s).tally = s.tally := by unfold abortCalOf; split <;> simp
@[simp] theorem abortCalOf_run : (abortCalOf c why s).run = s.run := by unfold abortCalOf; split <;> simp
@[simp] theorem abortCalOf_trace :
    (abortCalOf c why s).trace = s.trace := by unfold abortCalOf; split <;> simp
@[simp] theorem abortCalOf_link_rate :
    (abortCalOf c why s).link.rate = s.link.rate := by unfold abortCalOf; split <;> simp
@[simp] theorem abortCalOf_link_receiver :
    (abortCalOf c why s).link.receiver = s.link.receiver := by unfold abortCalOf; split <;> simp
@[simp] theorem abortCalOf_link_inbound :
    (abortCalOf c why s).link.inbound = s.link.inbound := by unfold abortCalOf; split <;> simp
@[simp] theorem abortCalOf_link_oversize :
    (abortCalOf c why s).link.oversize = s.link.oversize := by unfold abortCalOf; split <;> simp
@[simp] theorem abortCalOf_link_bad :
    (abortCalOf c why s).link.bad = s.link.bad := by unfold abortCalOf; split <;> simp
@[simp] theorem abortCalOf_link_broken :
    (abortCalOf c why s).link.broken = s.link.broken := by unfold abortCalOf; split <;> simp
@[simp] theorem abortCalOf_link_dropped :
    (abortCalOf c why s).link.dropped = s.link.dropped := by unfold abortCalOf; split <;> simp
@[simp] theorem abortCalOf_link_letterEnable :
    (abortCalOf c why s).link.letterEnable = s.link.letterEnable := by unfold abortCalOf; split <;> simp
@[simp] theorem abortCalOf_link_traceEnable :
    (abortCalOf c why s).link.traceEnable = s.link.traceEnable := by unfold abortCalOf; split <;> simp
@[simp] theorem abortCalOf_link_reset :
    (abortCalOf c why s).link.reset = s.link.reset := by unfold abortCalOf; split <;> simp
@[simp] theorem abortCalOf_link_line :
    (abortCalOf c why s).link.line = s.link.line := by unfold abortCalOf; split <;> simp
@[simp] theorem abortCalOf_pending :
    (abortCalOf c why s).pending = s.pending := by unfold abortCalOf; split <;> simp

end abortCalOfFields

/-! ### The purge and the belt stop (R20, R144) -/

section purgeTicketFields
variable (how : Purge) (t : Ticket) (s : State)

@[simp] theorem purgeTicket_pins :
    (purgeTicket how t s).pins = s.pins := by unfold purgeTicket; dsimp only; split <;> simp
@[simp] theorem purgeTicket_uptime :
    (purgeTicket how t s).uptime = s.uptime := by unfold purgeTicket; dsimp only; split <;> simp
@[simp] theorem purgeTicket_tracker_belt :
    (purgeTicket how t s).tracker.belt = s.tracker.belt := by unfold purgeTicket; dsimp only; split <;> simp
@[simp] theorem purgeTicket_tracker_filters :
    (purgeTicket how t s).tracker.filters = s.tracker.filters := by
  unfold purgeTicket; dsimp only; split <;> simp
@[simp] theorem purgeTicket_tracker_edges :
    (purgeTicket how t s).tracker.edges = s.tracker.edges := by unfold purgeTicket; dsimp only; split <;> simp
@[simp] theorem purgeTicket_tracker_geometry :
    (purgeTicket how t s).tracker.geometry = s.tracker.geometry := by
  unfold purgeTicket; dsimp only; split <;> simp
@[simp] theorem purgeTicket_tracker_nextTicket :
    (purgeTicket how t s).tracker.nextTicket = s.tracker.nextTicket := by
  unfold purgeTicket; dsimp only; split <;> simp
@[simp] theorem purgeTicket_tracker_prevTrail :
    (purgeTicket how t s).tracker.prevTrail = s.tracker.prevTrail := by
  unfold purgeTicket; dsimp only; split <;> simp
@[simp] theorem purgeTicket_tracker_firstTicket :
    (purgeTicket how t s).tracker.firstTicket = s.tracker.firstTicket := by
  unfold purgeTicket; dsimp only; split <;> simp
@[simp] theorem purgeTicket_tracker_throttle :
    (purgeTicket how t s).tracker.throttle = s.tracker.throttle := by
  unfold purgeTicket; dsimp only; split <;> simp
@[simp] theorem purgeTicket_tracker_sincePulse :
    (purgeTicket how t s).tracker.sincePulse = s.tracker.sincePulse := by
  unfold purgeTicket; dsimp only; split <;> simp
@[simp] theorem purgeTicket_tracker_stallRaised :
    (purgeTicket how t s).tracker.stallRaised = s.tracker.stallRaised := by
  unfold purgeTicket; dsimp only; split <;> simp
@[simp] theorem purgeTicket_channels :
    (purgeTicket how t s).channels = s.channels := by unfold purgeTicket; dsimp only; split <;> simp
@[simp] theorem purgeTicket_lamps :
    (purgeTicket how t s).lamps = s.lamps := by unfold purgeTicket; dsimp only; split <;> simp
@[simp] theorem purgeTicket_facing :
    (purgeTicket how t s).facing = s.facing := by unfold purgeTicket; dsimp only; split <;> simp
@[simp] theorem purgeTicket_gate :
    (purgeTicket how t s).gate = s.gate := by unfold purgeTicket; dsimp only; split <;> simp
@[simp] theorem purgeTicket_cancel :
    (purgeTicket how t s).cancel = s.cancel := by unfold purgeTicket; dsimp only; split <;> simp
@[simp] theorem purgeTicket_stacker :
    (purgeTicket how t s).stacker = s.stacker := by unfold purgeTicket; dsimp only; split <;> simp
@[simp] theorem purgeTicket_tally_baseOcc :
    (purgeTicket how t s).tally.baseOcc = s.tally.baseOcc := by unfold purgeTicket; dsimp only; split <;> simp
@[simp] theorem purgeTicket_tally_held :
    (purgeTicket how t s).tally.held = s.tally.held := by unfold purgeTicket; dsimp only; split <;> simp
@[simp] theorem purgeTicket_tally_nextSnapshot :
    (purgeTicket how t s).tally.nextSnapshot = s.tally.nextSnapshot := by
  unfold purgeTicket; dsimp only; split <;> simp
@[simp] theorem purgeTicket_run :
    (purgeTicket how t s).run = s.run := by unfold purgeTicket; dsimp only; split <;> simp
@[simp] theorem purgeTicket_cal :
    (purgeTicket how t s).cal = s.cal := by unfold purgeTicket; dsimp only; split <;> simp
@[simp] theorem purgeTicket_trace :
    (purgeTicket how t s).trace = s.trace := by unfold purgeTicket; dsimp only; split <;> simp
@[simp] theorem purgeTicket_link_rate :
    (purgeTicket how t s).link.rate = s.link.rate := by unfold purgeTicket; dsimp only; split <;> simp
@[simp] theorem purgeTicket_link_receiver :
    (purgeTicket how t s).link.receiver = s.link.receiver := by unfold purgeTicket; dsimp only; split <;> simp
@[simp] theorem purgeTicket_link_inbound :
    (purgeTicket how t s).link.inbound = s.link.inbound := by unfold purgeTicket; dsimp only; split <;> simp
@[simp] theorem purgeTicket_link_oversize :
    (purgeTicket how t s).link.oversize = s.link.oversize := by unfold purgeTicket; dsimp only; split <;> simp
@[simp] theorem purgeTicket_link_bad :
    (purgeTicket how t s).link.bad = s.link.bad := by unfold purgeTicket; dsimp only; split <;> simp
@[simp] theorem purgeTicket_link_broken :
    (purgeTicket how t s).link.broken = s.link.broken := by unfold purgeTicket; dsimp only; split <;> simp
@[simp] theorem purgeTicket_link_dropped :
    (purgeTicket how t s).link.dropped = s.link.dropped := by unfold purgeTicket; dsimp only; split <;> simp
@[simp] theorem purgeTicket_link_letterEnable :
    (purgeTicket how t s).link.letterEnable = s.link.letterEnable := by
  unfold purgeTicket; dsimp only; split <;> simp
@[simp] theorem purgeTicket_link_traceEnable :
    (purgeTicket how t s).link.traceEnable = s.link.traceEnable := by
  unfold purgeTicket; dsimp only; split <;> simp
@[simp] theorem purgeTicket_link_reset :
    (purgeTicket how t s).link.reset = s.link.reset := by unfold purgeTicket; dsimp only; split <;> simp
@[simp] theorem purgeTicket_link_line :
    (purgeTicket how t s).link.line = s.link.line := by unfold purgeTicket; dsimp only; split <;> simp
@[simp] theorem purgeTicket_pending :
    (purgeTicket how t s).pending = s.pending := by unfold purgeTicket; dsimp only; split <;> simp
@[simp] theorem purgeTicket_tracker_table :
    (purgeTicket how t s).tracker.table = s.tracker.table.tail := by
  unfold purgeTicket; dsimp only; split <;> simp
@[simp] theorem purgeTicket_tally_life :
    (purgeTicket how t s).tally.life = bump .purged s.tally.life := by
  unfold purgeTicket; dsimp only; split <;> simp
@[simp] theorem purgeTicket_tally_shift :
    (purgeTicket how t s).tally.shift = bump .purged s.tally.shift := by
  unfold purgeTicket; dsimp only; split <;> simp

end purgeTicketFields

section purgeTicketsFields
variable (how : Purge) (ts : List Ticket) (s : State)

@[simp] theorem purgeTickets_pins :
    (purgeTickets how ts s).pins = s.pins := by
  induction ts generalizing s with | nil => rfl | cons t ts ih => simp [purgeTickets, ih]
@[simp] theorem purgeTickets_uptime :
    (purgeTickets how ts s).uptime = s.uptime := by
  induction ts generalizing s with | nil => rfl | cons t ts ih => simp [purgeTickets, ih]
@[simp] theorem purgeTickets_tracker_belt :
    (purgeTickets how ts s).tracker.belt = s.tracker.belt := by
  induction ts generalizing s with | nil => rfl | cons t ts ih => simp [purgeTickets, ih]
@[simp] theorem purgeTickets_tracker_filters :
    (purgeTickets how ts s).tracker.filters = s.tracker.filters := by
  induction ts generalizing s with | nil => rfl | cons t ts ih => simp [purgeTickets, ih]
@[simp] theorem purgeTickets_tracker_edges :
    (purgeTickets how ts s).tracker.edges = s.tracker.edges := by
  induction ts generalizing s with | nil => rfl | cons t ts ih => simp [purgeTickets, ih]
@[simp] theorem purgeTickets_tracker_geometry :
    (purgeTickets how ts s).tracker.geometry = s.tracker.geometry := by
  induction ts generalizing s with | nil => rfl | cons t ts ih => simp [purgeTickets, ih]
@[simp] theorem purgeTickets_tracker_nextTicket :
    (purgeTickets how ts s).tracker.nextTicket = s.tracker.nextTicket := by
  induction ts generalizing s with | nil => rfl | cons t ts ih => simp [purgeTickets, ih]
@[simp] theorem purgeTickets_tracker_prevTrail :
    (purgeTickets how ts s).tracker.prevTrail = s.tracker.prevTrail := by
  induction ts generalizing s with | nil => rfl | cons t ts ih => simp [purgeTickets, ih]
@[simp] theorem purgeTickets_tracker_firstTicket :
    (purgeTickets how ts s).tracker.firstTicket = s.tracker.firstTicket := by
  induction ts generalizing s with | nil => rfl | cons t ts ih => simp [purgeTickets, ih]
@[simp] theorem purgeTickets_tracker_throttle :
    (purgeTickets how ts s).tracker.throttle = s.tracker.throttle := by
  induction ts generalizing s with | nil => rfl | cons t ts ih => simp [purgeTickets, ih]
@[simp] theorem purgeTickets_tracker_sincePulse :
    (purgeTickets how ts s).tracker.sincePulse = s.tracker.sincePulse := by
  induction ts generalizing s with | nil => rfl | cons t ts ih => simp [purgeTickets, ih]
@[simp] theorem purgeTickets_tracker_stallRaised :
    (purgeTickets how ts s).tracker.stallRaised = s.tracker.stallRaised := by
  induction ts generalizing s with | nil => rfl | cons t ts ih => simp [purgeTickets, ih]
@[simp] theorem purgeTickets_channels :
    (purgeTickets how ts s).channels = s.channels := by
  induction ts generalizing s with | nil => rfl | cons t ts ih => simp [purgeTickets, ih]
@[simp] theorem purgeTickets_lamps :
    (purgeTickets how ts s).lamps = s.lamps := by
  induction ts generalizing s with | nil => rfl | cons t ts ih => simp [purgeTickets, ih]
@[simp] theorem purgeTickets_facing :
    (purgeTickets how ts s).facing = s.facing := by
  induction ts generalizing s with | nil => rfl | cons t ts ih => simp [purgeTickets, ih]
@[simp] theorem purgeTickets_gate :
    (purgeTickets how ts s).gate = s.gate := by
  induction ts generalizing s with | nil => rfl | cons t ts ih => simp [purgeTickets, ih]
@[simp] theorem purgeTickets_cancel :
    (purgeTickets how ts s).cancel = s.cancel := by
  induction ts generalizing s with | nil => rfl | cons t ts ih => simp [purgeTickets, ih]
@[simp] theorem purgeTickets_stacker :
    (purgeTickets how ts s).stacker = s.stacker := by
  induction ts generalizing s with | nil => rfl | cons t ts ih => simp [purgeTickets, ih]
@[simp] theorem purgeTickets_tally_baseOcc :
    (purgeTickets how ts s).tally.baseOcc = s.tally.baseOcc := by
  induction ts generalizing s with | nil => rfl | cons t ts ih => simp [purgeTickets, ih]
@[simp] theorem purgeTickets_tally_held :
    (purgeTickets how ts s).tally.held = s.tally.held := by
  induction ts generalizing s with | nil => rfl | cons t ts ih => simp [purgeTickets, ih]
@[simp] theorem purgeTickets_tally_nextSnapshot :
    (purgeTickets how ts s).tally.nextSnapshot = s.tally.nextSnapshot := by
  induction ts generalizing s with | nil => rfl | cons t ts ih => simp [purgeTickets, ih]
@[simp] theorem purgeTickets_run :
    (purgeTickets how ts s).run = s.run := by
  induction ts generalizing s with | nil => rfl | cons t ts ih => simp [purgeTickets, ih]
@[simp] theorem purgeTickets_cal :
    (purgeTickets how ts s).cal = s.cal := by
  induction ts generalizing s with | nil => rfl | cons t ts ih => simp [purgeTickets, ih]
@[simp] theorem purgeTickets_trace :
    (purgeTickets how ts s).trace = s.trace := by
  induction ts generalizing s with | nil => rfl | cons t ts ih => simp [purgeTickets, ih]
@[simp] theorem purgeTickets_link_rate :
    (purgeTickets how ts s).link.rate = s.link.rate := by
  induction ts generalizing s with | nil => rfl | cons t ts ih => simp [purgeTickets, ih]
@[simp] theorem purgeTickets_link_receiver :
    (purgeTickets how ts s).link.receiver = s.link.receiver := by
  induction ts generalizing s with | nil => rfl | cons t ts ih => simp [purgeTickets, ih]
@[simp] theorem purgeTickets_link_inbound :
    (purgeTickets how ts s).link.inbound = s.link.inbound := by
  induction ts generalizing s with | nil => rfl | cons t ts ih => simp [purgeTickets, ih]
@[simp] theorem purgeTickets_link_oversize :
    (purgeTickets how ts s).link.oversize = s.link.oversize := by
  induction ts generalizing s with | nil => rfl | cons t ts ih => simp [purgeTickets, ih]
@[simp] theorem purgeTickets_link_bad :
    (purgeTickets how ts s).link.bad = s.link.bad := by
  induction ts generalizing s with | nil => rfl | cons t ts ih => simp [purgeTickets, ih]
@[simp] theorem purgeTickets_link_broken :
    (purgeTickets how ts s).link.broken = s.link.broken := by
  induction ts generalizing s with | nil => rfl | cons t ts ih => simp [purgeTickets, ih]
@[simp] theorem purgeTickets_link_dropped :
    (purgeTickets how ts s).link.dropped = s.link.dropped := by
  induction ts generalizing s with | nil => rfl | cons t ts ih => simp [purgeTickets, ih]
@[simp] theorem purgeTickets_link_letterEnable :
    (purgeTickets how ts s).link.letterEnable = s.link.letterEnable := by
  induction ts generalizing s with | nil => rfl | cons t ts ih => simp [purgeTickets, ih]
@[simp] theorem purgeTickets_link_traceEnable :
    (purgeTickets how ts s).link.traceEnable = s.link.traceEnable := by
  induction ts generalizing s with | nil => rfl | cons t ts ih => simp [purgeTickets, ih]
@[simp] theorem purgeTickets_link_reset :
    (purgeTickets how ts s).link.reset = s.link.reset := by
  induction ts generalizing s with | nil => rfl | cons t ts ih => simp [purgeTickets, ih]
@[simp] theorem purgeTickets_link_line :
    (purgeTickets how ts s).link.line = s.link.line := by
  induction ts generalizing s with | nil => rfl | cons t ts ih => simp [purgeTickets, ih]
@[simp] theorem purgeTickets_pending :
    (purgeTickets how ts s).pending = s.pending := by
  induction ts generalizing s with | nil => rfl | cons t ts ih => simp [purgeTickets, ih]
@[simp] theorem purgeTickets_tracker_table :
    (purgeTickets how ts s).tracker.table = s.tracker.table.drop ts.length := by
  induction ts generalizing s with
  | nil => rfl
  | cons t ts ih => simp [purgeTickets, ih]

end purgeTicketsFields

section dropWorkFields
variable (how : Purge) (s : State)

@[simp] theorem dropWork_pins : (dropWork how s).pins = s.pins := rfl
@[simp] theorem dropWork_uptime : (dropWork how s).uptime = s.uptime := rfl
@[simp] theorem dropWork_tracker_belt : (dropWork how s).tracker.belt = s.tracker.belt := rfl
@[simp] theorem dropWork_tracker_filters : (dropWork how s).tracker.filters = s.tracker.filters := rfl
@[simp] theorem dropWork_tracker_edges : (dropWork how s).tracker.edges = s.tracker.edges := rfl
@[simp] theorem dropWork_tracker_geometry : (dropWork how s).tracker.geometry = s.tracker.geometry := rfl
@[simp] theorem dropWork_tracker_table : (dropWork how s).tracker.table = s.tracker.table := rfl
@[simp] theorem dropWork_tracker_nextTicket :
    (dropWork how s).tracker.nextTicket = s.tracker.nextTicket := rfl
@[simp] theorem dropWork_tracker_prevTrail : (dropWork how s).tracker.prevTrail = s.tracker.prevTrail := rfl
@[simp] theorem dropWork_tracker_firstTicket : (dropWork how s).tracker.firstTicket = s.tracker.firstTicket := rfl
@[simp] theorem dropWork_tracker_sincePulse :
    (dropWork how s).tracker.sincePulse = s.tracker.sincePulse := rfl
@[simp] theorem dropWork_tracker_stallRaised :
    (dropWork how s).tracker.stallRaised = s.tracker.stallRaised := rfl
@[simp] theorem dropWork_lamps : (dropWork how s).lamps = s.lamps := rfl
@[simp] theorem dropWork_facing_record : (dropWork how s).facing.record = s.facing.record := rfl
@[simp] theorem dropWork_gate_output : (dropWork how s).gate.output = s.gate.output := rfl
@[simp] theorem dropWork_gate_confirm : (dropWork how s).gate.confirm = s.gate.confirm := rfl
@[simp] theorem dropWork_cancel_record : (dropWork how s).cancel.record = s.cancel.record := rfl
@[simp] theorem dropWork_cancel_slots : (dropWork how s).cancel.slots = s.cancel.slots := rfl
@[simp] theorem dropWork_cancel_active : (dropWork how s).cancel.active = s.cancel.active := rfl
@[simp] theorem dropWork_stacker_plan : (dropWork how s).stacker.plan = s.stacker.plan := rfl
@[simp] theorem dropWork_stacker_bins : (dropWork how s).stacker.bins = s.stacker.bins := rfl
@[simp] theorem dropWork_stacker_flaps : (dropWork how s).stacker.flaps = s.stacker.flaps := rfl
@[simp] theorem dropWork_stacker_trays : (dropWork how s).stacker.trays = s.stacker.trays := rfl
@[simp] theorem dropWork_tally : (dropWork how s).tally = s.tally := rfl
@[simp] theorem dropWork_run : (dropWork how s).run = s.run := rfl
@[simp] theorem dropWork_cal : (dropWork how s).cal = s.cal := rfl
@[simp] theorem dropWork_trace : (dropWork how s).trace = s.trace := rfl
@[simp] theorem dropWork_link : (dropWork how s).link = s.link := rfl
@[simp] theorem dropWork_pending : (dropWork how s).pending = s.pending := rfl
@[simp] theorem dropWork_tracker_throttle : (dropWork how s).tracker.throttle = false := rfl
@[simp] theorem dropWork_facing_waiting : (dropWork how s).facing.waiting = [] := rfl
@[simp] theorem dropWork_gate_queue : (dropWork how s).gate.queue = [] := rfl
@[simp] theorem dropWork_gate_exercise :
    (dropWork how s).gate.exercise = purgeExercise how s.gate.exercise := rfl
@[simp] theorem dropWork_stacker_queue : (dropWork how s).stacker.queue = [] := rfl
@[simp] theorem dropWork_channels : (dropWork how s).channels =
      s.channels.map (purgeChannel how s.tracker.belt) := rfl
@[simp] theorem dropWork_cancel_heads :
    (dropWork how s).cancel.heads = s.cancel.heads.map (purgeHead how s.cancel.record.recharge) := rfl

end dropWorkFields

section purgeFields
variable (how : Purge) (s : State)

@[simp] theorem purge_pins : (purge how s).pins = s.pins := by simp [purge]
@[simp] theorem purge_uptime : (purge how s).uptime = s.uptime := by simp [purge]
@[simp] theorem purge_tracker_belt : (purge how s).tracker.belt = s.tracker.belt := by simp [purge]
@[simp] theorem purge_tracker_filters : (purge how s).tracker.filters = s.tracker.filters := by simp [purge]
@[simp] theorem purge_tracker_edges : (purge how s).tracker.edges = s.tracker.edges := by simp [purge]
@[simp] theorem purge_tracker_geometry :
    (purge how s).tracker.geometry = s.tracker.geometry := by simp [purge]
@[simp] theorem purge_tracker_nextTicket :
    (purge how s).tracker.nextTicket = s.tracker.nextTicket := by simp [purge]
@[simp] theorem purge_tracker_prevTrail :
    (purge how s).tracker.prevTrail = s.tracker.prevTrail := by simp [purge]
@[simp] theorem purge_tracker_firstTicket :
    (purge how s).tracker.firstTicket = s.tracker.firstTicket := by simp [purge]
@[simp] theorem purge_tracker_sincePulse :
    (purge how s).tracker.sincePulse = s.tracker.sincePulse := by simp [purge]
@[simp] theorem purge_tracker_stallRaised :
    (purge how s).tracker.stallRaised = s.tracker.stallRaised := by simp [purge]
@[simp] theorem purge_lamps : (purge how s).lamps = s.lamps := by simp [purge]
@[simp] theorem purge_facing_record : (purge how s).facing.record = s.facing.record := by simp [purge]
@[simp] theorem purge_gate_output : (purge how s).gate.output = s.gate.output := by simp [purge]
@[simp] theorem purge_gate_confirm : (purge how s).gate.confirm = s.gate.confirm := by simp [purge]
@[simp] theorem purge_cancel_record : (purge how s).cancel.record = s.cancel.record := by simp [purge]
@[simp] theorem purge_cancel_slots : (purge how s).cancel.slots = s.cancel.slots := by simp [purge]
@[simp] theorem purge_cancel_active : (purge how s).cancel.active = s.cancel.active := by simp [purge]
@[simp] theorem purge_stacker_plan : (purge how s).stacker.plan = s.stacker.plan := by simp [purge]
@[simp] theorem purge_stacker_bins : (purge how s).stacker.bins = s.stacker.bins := by simp [purge]
@[simp] theorem purge_stacker_flaps : (purge how s).stacker.flaps = s.stacker.flaps := by simp [purge]
@[simp] theorem purge_stacker_trays : (purge how s).stacker.trays = s.stacker.trays := by simp [purge]
@[simp] theorem purge_tally_baseOcc : (purge how s).tally.baseOcc = s.tally.baseOcc := by simp [purge]
@[simp] theorem purge_tally_held : (purge how s).tally.held = s.tally.held := by simp [purge]
@[simp] theorem purge_tally_nextSnapshot :
    (purge how s).tally.nextSnapshot = s.tally.nextSnapshot := by simp [purge]
@[simp] theorem purge_run : (purge how s).run = s.run := by simp [purge]
@[simp] theorem purge_trace : (purge how s).trace = s.trace := by simp [purge]
@[simp] theorem purge_link_rate : (purge how s).link.rate = s.link.rate := by simp [purge]
@[simp] theorem purge_link_receiver : (purge how s).link.receiver = s.link.receiver := by simp [purge]
@[simp] theorem purge_link_inbound : (purge how s).link.inbound = s.link.inbound := by simp [purge]
@[simp] theorem purge_link_oversize : (purge how s).link.oversize = s.link.oversize := by simp [purge]
@[simp] theorem purge_link_bad : (purge how s).link.bad = s.link.bad := by simp [purge]
@[simp] theorem purge_link_broken : (purge how s).link.broken = s.link.broken := by simp [purge]
@[simp] theorem purge_link_dropped : (purge how s).link.dropped = s.link.dropped := by simp [purge]
@[simp] theorem purge_link_letterEnable :
    (purge how s).link.letterEnable = s.link.letterEnable := by simp [purge]
@[simp] theorem purge_link_traceEnable :
    (purge how s).link.traceEnable = s.link.traceEnable := by simp [purge]
@[simp] theorem purge_link_reset : (purge how s).link.reset = s.link.reset := by simp [purge]
@[simp] theorem purge_link_line : (purge how s).link.line = s.link.line := by simp [purge]
@[simp] theorem purge_pending : (purge how s).pending = s.pending := by simp [purge]
@[simp] theorem purge_tracker_table : (purge how s).tracker.table = [] := by simp [purge]
@[simp] theorem purge_tracker_throttle : (purge how s).tracker.throttle = false := by simp [purge]
@[simp] theorem purge_facing_waiting : (purge how s).facing.waiting = [] := by simp [purge]
@[simp] theorem purge_gate_queue : (purge how s).gate.queue = [] := by simp [purge]
@[simp] theorem purge_gate_exercise :
    (purge how s).gate.exercise = purgeExercise how s.gate.exercise := by simp [purge]
@[simp] theorem purge_stacker_queue : (purge how s).stacker.queue = [] := by simp [purge]
@[simp] theorem purge_channels :
    (purge how s).channels = s.channels.map (purgeChannel how s.tracker.belt) := by simp [purge]
@[simp] theorem purge_cancel_heads :
    (purge how s).cancel.heads = s.cancel.heads.map (purgeHead how s.cancel.record.recharge) := by
  simp [purge]
@[simp] theorem purge_cal : (purge how s).cal = .off := by simp [purge]

end purgeFields

/-! ### The run state (R135, R140, R143) -/

section enterRunStateFields
variable (new : RunState) (why : RunReason) (s : State)

@[simp] theorem enterRunState_pins : (enterRunState new why s).pins = s.pins := by simp [enterRunState]
@[simp] theorem enterRunState_uptime : (enterRunState new why s).uptime = s.uptime := by simp [enterRunState]
@[simp] theorem enterRunState_tracker_belt :
    (enterRunState new why s).tracker.belt = s.tracker.belt := by simp [enterRunState]
@[simp] theorem enterRunState_tracker_filters :
    (enterRunState new why s).tracker.filters = s.tracker.filters := by simp [enterRunState]
@[simp] theorem enterRunState_tracker_edges :
    (enterRunState new why s).tracker.edges = s.tracker.edges := by simp [enterRunState]
@[simp] theorem enterRunState_tracker_geometry :
    (enterRunState new why s).tracker.geometry = s.tracker.geometry := by simp [enterRunState]
@[simp] theorem enterRunState_tracker_table :
    (enterRunState new why s).tracker.table = s.tracker.table := by simp [enterRunState]
@[simp] theorem enterRunState_tracker_nextTicket :
    (enterRunState new why s).tracker.nextTicket = s.tracker.nextTicket := by simp [enterRunState]
@[simp] theorem enterRunState_tracker_throttle :
    (enterRunState new why s).tracker.throttle = s.tracker.throttle := by simp [enterRunState]
@[simp] theorem enterRunState_tracker_sincePulse :
    (enterRunState new why s).tracker.sincePulse = s.tracker.sincePulse := by simp [enterRunState]
@[simp] theorem enterRunState_tracker_stallRaised :
    (enterRunState new why s).tracker.stallRaised = s.tracker.stallRaised := by simp [enterRunState]
@[simp] theorem enterRunState_channels :
    (enterRunState new why s).channels = s.channels := by simp [enterRunState]
@[simp] theorem enterRunState_lamps : (enterRunState new why s).lamps = s.lamps := by simp [enterRunState]
@[simp] theorem enterRunState_facing : (enterRunState new why s).facing = s.facing := by simp [enterRunState]
@[simp] theorem enterRunState_gate : (enterRunState new why s).gate = s.gate := by simp [enterRunState]
@[simp] theorem enterRunState_cancel : (enterRunState new why s).cancel = s.cancel := by simp [enterRunState]
@[simp] theorem enterRunState_stacker :
    (enterRunState new why s).stacker = s.stacker := by simp [enterRunState]
@[simp] theorem enterRunState_tally : (enterRunState new why s).tally = s.tally := by simp [enterRunState]
@[simp] theorem enterRunState_run_causes :
    (enterRunState new why s).run.causes = s.run.causes := by simp [enterRunState]
@[simp] theorem enterRunState_run_linkTimeout :
    (enterRunState new why s).run.linkTimeout = s.run.linkTimeout := by simp [enterRunState]
@[simp] theorem enterRunState_run_sinceLink :
    (enterRunState new why s).run.sinceLink = s.run.sinceLink := by simp [enterRunState]
@[simp] theorem enterRunState_run_linkRaised :
    (enterRunState new why s).run.linkRaised = s.run.linkRaised := by simp [enterRunState]
@[simp] theorem enterRunState_run_lastValid :
    (enterRunState new why s).run.lastValid = s.run.lastValid := by simp [enterRunState]
@[simp] theorem enterRunState_run_faults :
    (enterRunState new why s).run.faults = s.run.faults := by simp [enterRunState]
@[simp] theorem enterRunState_cal : (enterRunState new why s).cal = s.cal := by simp [enterRunState]
@[simp] theorem enterRunState_trace : (enterRunState new why s).trace = s.trace := by simp [enterRunState]
@[simp] theorem enterRunState_link_rate :
    (enterRunState new why s).link.rate = s.link.rate := by simp [enterRunState]
@[simp] theorem enterRunState_link_receiver :
    (enterRunState new why s).link.receiver = s.link.receiver := by simp [enterRunState]
@[simp] theorem enterRunState_link_inbound :
    (enterRunState new why s).link.inbound = s.link.inbound := by simp [enterRunState]
@[simp] theorem enterRunState_link_oversize :
    (enterRunState new why s).link.oversize = s.link.oversize := by simp [enterRunState]
@[simp] theorem enterRunState_link_bad :
    (enterRunState new why s).link.bad = s.link.bad := by simp [enterRunState]
@[simp] theorem enterRunState_link_broken :
    (enterRunState new why s).link.broken = s.link.broken := by simp [enterRunState]
@[simp] theorem enterRunState_link_dropped :
    (enterRunState new why s).link.dropped = s.link.dropped := by simp [enterRunState]
@[simp] theorem enterRunState_link_letterEnable :
    (enterRunState new why s).link.letterEnable = s.link.letterEnable := by simp [enterRunState]
@[simp] theorem enterRunState_link_traceEnable :
    (enterRunState new why s).link.traceEnable = s.link.traceEnable := by simp [enterRunState]
@[simp] theorem enterRunState_link_reset :
    (enterRunState new why s).link.reset = s.link.reset := by simp [enterRunState]
@[simp] theorem enterRunState_link_line :
    (enterRunState new why s).link.line = s.link.line := by simp [enterRunState]
@[simp] theorem enterRunState_pending :
    (enterRunState new why s).pending = s.pending := by simp [enterRunState]
@[simp] theorem enterRunState_tracker_prevTrail :
    (enterRunState new why s).tracker.prevTrail = if new = .idle then none else s.tracker.prevTrail := by
  simp [enterRunState]
@[simp] theorem enterRunState_tracker_firstTicket :
    (enterRunState new why s).tracker.firstTicket = if new = .idle then true else s.tracker.firstTicket := by
  simp [enterRunState]
@[simp] theorem enterRunState_run_state : (enterRunState new why s).run.state = new := by simp [enterRunState]
@[simp] theorem enterRunState_run_startTimer :
    (enterRunState new why s).run.startTimer = if new = .starting then s.run.startTimer else none := by
  simp [enterRunState]
@[simp] theorem enterRunState_run_startPos :
    (enterRunState new why s).run.startPos = if new = .starting then s.run.startPos else none := by
  simp [enterRunState]

end enterRunStateFields

section endDrainFields
variable (s : State)

@[simp] theorem endDrain_pins :
    (endDrain s).pins = s.pins := by unfold endDrain; split <;> (try split) <;> simp
@[simp] theorem endDrain_uptime :
    (endDrain s).uptime = s.uptime := by unfold endDrain; split <;> (try split) <;> simp
@[simp] theorem endDrain_tracker_belt :
    (endDrain s).tracker.belt = s.tracker.belt := by unfold endDrain; split <;> (try split) <;> simp
@[simp] theorem endDrain_tracker_filters :
    (endDrain s).tracker.filters = s.tracker.filters := by unfold endDrain; split <;> (try split) <;> simp
@[simp] theorem endDrain_tracker_edges :
    (endDrain s).tracker.edges = s.tracker.edges := by unfold endDrain; split <;> (try split) <;> simp
@[simp] theorem endDrain_tracker_geometry :
    (endDrain s).tracker.geometry = s.tracker.geometry := by unfold endDrain; split <;> (try split) <;> simp
@[simp] theorem endDrain_tracker_table :
    (endDrain s).tracker.table = s.tracker.table := by unfold endDrain; split <;> (try split) <;> simp
@[simp] theorem endDrain_tracker_nextTicket :
    (endDrain s).tracker.nextTicket = s.tracker.nextTicket := by
  unfold endDrain; split <;> (try split) <;> simp
@[simp] theorem endDrain_tracker_throttle :
    (endDrain s).tracker.throttle = s.tracker.throttle := by unfold endDrain; split <;> (try split) <;> simp
@[simp] theorem endDrain_tracker_sincePulse :
    (endDrain s).tracker.sincePulse = s.tracker.sincePulse := by
  unfold endDrain; split <;> (try split) <;> simp
@[simp] theorem endDrain_tracker_stallRaised :
    (endDrain s).tracker.stallRaised = s.tracker.stallRaised := by
  unfold endDrain; split <;> (try split) <;> simp
@[simp] theorem endDrain_channels :
    (endDrain s).channels = s.channels := by unfold endDrain; split <;> (try split) <;> simp
@[simp] theorem endDrain_lamps :
    (endDrain s).lamps = s.lamps := by unfold endDrain; split <;> (try split) <;> simp
@[simp] theorem endDrain_facing :
    (endDrain s).facing = s.facing := by unfold endDrain; split <;> (try split) <;> simp
@[simp] theorem endDrain_gate :
    (endDrain s).gate = s.gate := by unfold endDrain; split <;> (try split) <;> simp
@[simp] theorem endDrain_cancel :
    (endDrain s).cancel = s.cancel := by unfold endDrain; split <;> (try split) <;> simp
@[simp] theorem endDrain_stacker :
    (endDrain s).stacker = s.stacker := by unfold endDrain; split <;> (try split) <;> simp
@[simp] theorem endDrain_tally :
    (endDrain s).tally = s.tally := by unfold endDrain; split <;> (try split) <;> simp
@[simp] theorem endDrain_run_causes :
    (endDrain s).run.causes = s.run.causes := by unfold endDrain; split <;> (try split) <;> simp
@[simp] theorem endDrain_run_linkTimeout :
    (endDrain s).run.linkTimeout = s.run.linkTimeout := by unfold endDrain; split <;> (try split) <;> simp
@[simp] theorem endDrain_run_sinceLink :
    (endDrain s).run.sinceLink = s.run.sinceLink := by unfold endDrain; split <;> (try split) <;> simp
@[simp] theorem endDrain_run_linkRaised :
    (endDrain s).run.linkRaised = s.run.linkRaised := by unfold endDrain; split <;> (try split) <;> simp
@[simp] theorem endDrain_run_lastValid :
    (endDrain s).run.lastValid = s.run.lastValid := by unfold endDrain; split <;> (try split) <;> simp
@[simp] theorem endDrain_run_faults :
    (endDrain s).run.faults = s.run.faults := by unfold endDrain; split <;> (try split) <;> simp
@[simp] theorem endDrain_cal : (endDrain s).cal = s.cal := by unfold endDrain; split <;> (try split) <;> simp
@[simp] theorem endDrain_trace :
    (endDrain s).trace = s.trace := by unfold endDrain; split <;> (try split) <;> simp
@[simp] theorem endDrain_link_rate :
    (endDrain s).link.rate = s.link.rate := by unfold endDrain; split <;> (try split) <;> simp
@[simp] theorem endDrain_link_receiver :
    (endDrain s).link.receiver = s.link.receiver := by unfold endDrain; split <;> (try split) <;> simp
@[simp] theorem endDrain_link_inbound :
    (endDrain s).link.inbound = s.link.inbound := by unfold endDrain; split <;> (try split) <;> simp
@[simp] theorem endDrain_link_oversize :
    (endDrain s).link.oversize = s.link.oversize := by unfold endDrain; split <;> (try split) <;> simp
@[simp] theorem endDrain_link_bad :
    (endDrain s).link.bad = s.link.bad := by unfold endDrain; split <;> (try split) <;> simp
@[simp] theorem endDrain_link_broken :
    (endDrain s).link.broken = s.link.broken := by unfold endDrain; split <;> (try split) <;> simp
@[simp] theorem endDrain_link_dropped :
    (endDrain s).link.dropped = s.link.dropped := by unfold endDrain; split <;> (try split) <;> simp
@[simp] theorem endDrain_link_letterEnable :
    (endDrain s).link.letterEnable = s.link.letterEnable := by unfold endDrain; split <;> (try split) <;> simp
@[simp] theorem endDrain_link_traceEnable :
    (endDrain s).link.traceEnable = s.link.traceEnable := by unfold endDrain; split <;> (try split) <;> simp
@[simp] theorem endDrain_link_reset :
    (endDrain s).link.reset = s.link.reset := by unfold endDrain; split <;> (try split) <;> simp
@[simp] theorem endDrain_link_line :
    (endDrain s).link.line = s.link.line := by unfold endDrain; split <;> (try split) <;> simp
@[simp] theorem endDrain_pending :
    (endDrain s).pending = s.pending := by unfold endDrain; split <;> (try split) <;> simp

end endDrainFields

section beltStopFields
variable (s : State)

@[simp] theorem beltStop_pins : (beltStop s).pins = s.pins := by simp [beltStop]
@[simp] theorem beltStop_uptime : (beltStop s).uptime = s.uptime := by simp [beltStop]
@[simp] theorem beltStop_tracker_belt : (beltStop s).tracker.belt = s.tracker.belt := by simp [beltStop]
@[simp] theorem beltStop_tracker_filters :
    (beltStop s).tracker.filters = s.tracker.filters := by simp [beltStop]
@[simp] theorem beltStop_tracker_edges : (beltStop s).tracker.edges = s.tracker.edges := by simp [beltStop]
@[simp] theorem beltStop_tracker_geometry :
    (beltStop s).tracker.geometry = s.tracker.geometry := by simp [beltStop]
@[simp] theorem beltStop_tracker_nextTicket :
    (beltStop s).tracker.nextTicket = s.tracker.nextTicket := by simp [beltStop]
@[simp] theorem beltStop_tracker_sincePulse :
    (beltStop s).tracker.sincePulse = s.tracker.sincePulse := by simp [beltStop]
@[simp] theorem beltStop_tracker_stallRaised :
    (beltStop s).tracker.stallRaised = s.tracker.stallRaised := by simp [beltStop]
@[simp] theorem beltStop_lamps : (beltStop s).lamps = s.lamps := by simp [beltStop]
@[simp] theorem beltStop_facing_record : (beltStop s).facing.record = s.facing.record := by simp [beltStop]
@[simp] theorem beltStop_gate_output : (beltStop s).gate.output = s.gate.output := by simp [beltStop]
@[simp] theorem beltStop_gate_confirm : (beltStop s).gate.confirm = s.gate.confirm := by simp [beltStop]
@[simp] theorem beltStop_cancel_record : (beltStop s).cancel.record = s.cancel.record := by simp [beltStop]
@[simp] theorem beltStop_cancel_slots : (beltStop s).cancel.slots = s.cancel.slots := by simp [beltStop]
@[simp] theorem beltStop_cancel_active : (beltStop s).cancel.active = s.cancel.active := by simp [beltStop]
@[simp] theorem beltStop_stacker_plan : (beltStop s).stacker.plan = s.stacker.plan := by simp [beltStop]
@[simp] theorem beltStop_stacker_bins : (beltStop s).stacker.bins = s.stacker.bins := by simp [beltStop]
@[simp] theorem beltStop_stacker_flaps : (beltStop s).stacker.flaps = s.stacker.flaps := by simp [beltStop]
@[simp] theorem beltStop_stacker_trays : (beltStop s).stacker.trays = s.stacker.trays := by simp [beltStop]
@[simp] theorem beltStop_tally_baseOcc : (beltStop s).tally.baseOcc = s.tally.baseOcc := by simp [beltStop]
@[simp] theorem beltStop_tally_held : (beltStop s).tally.held = s.tally.held := by simp [beltStop]
@[simp] theorem beltStop_tally_nextSnapshot :
    (beltStop s).tally.nextSnapshot = s.tally.nextSnapshot := by simp [beltStop]
@[simp] theorem beltStop_run_causes : (beltStop s).run.causes = s.run.causes := by simp [beltStop]
@[simp] theorem beltStop_run_linkTimeout :
    (beltStop s).run.linkTimeout = s.run.linkTimeout := by simp [beltStop]
@[simp] theorem beltStop_run_sinceLink : (beltStop s).run.sinceLink = s.run.sinceLink := by simp [beltStop]
@[simp] theorem beltStop_run_linkRaised : (beltStop s).run.linkRaised = s.run.linkRaised := by simp [beltStop]
@[simp] theorem beltStop_run_lastValid : (beltStop s).run.lastValid = s.run.lastValid := by simp [beltStop]
@[simp] theorem beltStop_run_faults : (beltStop s).run.faults = s.run.faults := by simp [beltStop]
@[simp] theorem beltStop_trace : (beltStop s).trace = s.trace := by simp [beltStop]
@[simp] theorem beltStop_link_rate : (beltStop s).link.rate = s.link.rate := by simp [beltStop]
@[simp] theorem beltStop_link_receiver : (beltStop s).link.receiver = s.link.receiver := by simp [beltStop]
@[simp] theorem beltStop_link_inbound : (beltStop s).link.inbound = s.link.inbound := by simp [beltStop]
@[simp] theorem beltStop_link_oversize : (beltStop s).link.oversize = s.link.oversize := by simp [beltStop]
@[simp] theorem beltStop_link_bad : (beltStop s).link.bad = s.link.bad := by simp [beltStop]
@[simp] theorem beltStop_link_broken : (beltStop s).link.broken = s.link.broken := by simp [beltStop]
@[simp] theorem beltStop_link_dropped : (beltStop s).link.dropped = s.link.dropped := by simp [beltStop]
@[simp] theorem beltStop_link_letterEnable :
    (beltStop s).link.letterEnable = s.link.letterEnable := by simp [beltStop]
@[simp] theorem beltStop_link_traceEnable :
    (beltStop s).link.traceEnable = s.link.traceEnable := by simp [beltStop]
@[simp] theorem beltStop_link_reset : (beltStop s).link.reset = s.link.reset := by simp [beltStop]
@[simp] theorem beltStop_link_line : (beltStop s).link.line = s.link.line := by simp [beltStop]
@[simp] theorem beltStop_pending : (beltStop s).pending = s.pending := by simp [beltStop]

end beltStopFields

section evalStopFields
variable (s : State)

@[simp] theorem evalStop_pins : (evalStop s).pins = s.pins := by unfold evalStop; split <;> simp
@[simp] theorem evalStop_uptime : (evalStop s).uptime = s.uptime := by unfold evalStop; split <;> simp
@[simp] theorem evalStop_tracker_belt :
    (evalStop s).tracker.belt = s.tracker.belt := by unfold evalStop; split <;> simp
@[simp] theorem evalStop_tracker_filters :
    (evalStop s).tracker.filters = s.tracker.filters := by unfold evalStop; split <;> simp
@[simp] theorem evalStop_tracker_edges :
    (evalStop s).tracker.edges = s.tracker.edges := by unfold evalStop; split <;> simp
@[simp] theorem evalStop_tracker_geometry :
    (evalStop s).tracker.geometry = s.tracker.geometry := by unfold evalStop; split <;> simp
@[simp] theorem evalStop_tracker_nextTicket :
    (evalStop s).tracker.nextTicket = s.tracker.nextTicket := by unfold evalStop; split <;> simp
@[simp] theorem evalStop_tracker_sincePulse :
    (evalStop s).tracker.sincePulse = s.tracker.sincePulse := by unfold evalStop; split <;> simp
@[simp] theorem evalStop_tracker_stallRaised :
    (evalStop s).tracker.stallRaised = s.tracker.stallRaised := by unfold evalStop; split <;> simp
@[simp] theorem evalStop_lamps : (evalStop s).lamps = s.lamps := by unfold evalStop; split <;> simp
@[simp] theorem evalStop_facing_record :
    (evalStop s).facing.record = s.facing.record := by unfold evalStop; split <;> simp
@[simp] theorem evalStop_gate_output :
    (evalStop s).gate.output = s.gate.output := by unfold evalStop; split <;> simp
@[simp] theorem evalStop_gate_confirm :
    (evalStop s).gate.confirm = s.gate.confirm := by unfold evalStop; split <;> simp
@[simp] theorem evalStop_cancel_record :
    (evalStop s).cancel.record = s.cancel.record := by unfold evalStop; split <;> simp
@[simp] theorem evalStop_cancel_slots :
    (evalStop s).cancel.slots = s.cancel.slots := by unfold evalStop; split <;> simp
@[simp] theorem evalStop_cancel_active :
    (evalStop s).cancel.active = s.cancel.active := by unfold evalStop; split <;> simp
@[simp] theorem evalStop_stacker_plan :
    (evalStop s).stacker.plan = s.stacker.plan := by unfold evalStop; split <;> simp
@[simp] theorem evalStop_stacker_bins :
    (evalStop s).stacker.bins = s.stacker.bins := by unfold evalStop; split <;> simp
@[simp] theorem evalStop_stacker_flaps :
    (evalStop s).stacker.flaps = s.stacker.flaps := by unfold evalStop; split <;> simp
@[simp] theorem evalStop_stacker_trays :
    (evalStop s).stacker.trays = s.stacker.trays := by unfold evalStop; split <;> simp
@[simp] theorem evalStop_tally_baseOcc :
    (evalStop s).tally.baseOcc = s.tally.baseOcc := by unfold evalStop; split <;> simp
@[simp] theorem evalStop_tally_held :
    (evalStop s).tally.held = s.tally.held := by unfold evalStop; split <;> simp
@[simp] theorem evalStop_tally_nextSnapshot :
    (evalStop s).tally.nextSnapshot = s.tally.nextSnapshot := by unfold evalStop; split <;> simp
@[simp] theorem evalStop_run_causes :
    (evalStop s).run.causes = s.run.causes := by unfold evalStop; split <;> simp
@[simp] theorem evalStop_run_linkTimeout :
    (evalStop s).run.linkTimeout = s.run.linkTimeout := by unfold evalStop; split <;> simp
@[simp] theorem evalStop_run_sinceLink :
    (evalStop s).run.sinceLink = s.run.sinceLink := by unfold evalStop; split <;> simp
@[simp] theorem evalStop_run_linkRaised :
    (evalStop s).run.linkRaised = s.run.linkRaised := by unfold evalStop; split <;> simp
@[simp] theorem evalStop_run_lastValid :
    (evalStop s).run.lastValid = s.run.lastValid := by unfold evalStop; split <;> simp
@[simp] theorem evalStop_run_faults :
    (evalStop s).run.faults = s.run.faults := by unfold evalStop; split <;> simp
@[simp] theorem evalStop_trace : (evalStop s).trace = s.trace := by unfold evalStop; split <;> simp
@[simp] theorem evalStop_link_rate :
    (evalStop s).link.rate = s.link.rate := by unfold evalStop; split <;> simp
@[simp] theorem evalStop_link_receiver :
    (evalStop s).link.receiver = s.link.receiver := by unfold evalStop; split <;> simp
@[simp] theorem evalStop_link_inbound :
    (evalStop s).link.inbound = s.link.inbound := by unfold evalStop; split <;> simp
@[simp] theorem evalStop_link_oversize :
    (evalStop s).link.oversize = s.link.oversize := by unfold evalStop; split <;> simp
@[simp] theorem evalStop_link_bad : (evalStop s).link.bad = s.link.bad := by unfold evalStop; split <;> simp
@[simp] theorem evalStop_link_broken :
    (evalStop s).link.broken = s.link.broken := by unfold evalStop; split <;> simp
@[simp] theorem evalStop_link_dropped :
    (evalStop s).link.dropped = s.link.dropped := by unfold evalStop; split <;> simp
@[simp] theorem evalStop_link_letterEnable :
    (evalStop s).link.letterEnable = s.link.letterEnable := by unfold evalStop; split <;> simp
@[simp] theorem evalStop_link_traceEnable :
    (evalStop s).link.traceEnable = s.link.traceEnable := by unfold evalStop; split <;> simp
@[simp] theorem evalStop_link_reset :
    (evalStop s).link.reset = s.link.reset := by unfold evalStop; split <;> simp
@[simp] theorem evalStop_link_line :
    (evalStop s).link.line = s.link.line := by unfold evalStop; split <;> simp
@[simp] theorem evalStop_pending : (evalStop s).pending = s.pending := by unfold evalStop; split <;> simp

end evalStopFields

section evalIdleFields
variable (s : State)

@[simp] theorem evalIdle_pins : (evalIdle s).pins = s.pins := by unfold evalIdle; split <;> simp
@[simp] theorem evalIdle_uptime : (evalIdle s).uptime = s.uptime := by unfold evalIdle; split <;> simp
@[simp] theorem evalIdle_tracker_belt :
    (evalIdle s).tracker.belt = s.tracker.belt := by unfold evalIdle; split <;> simp
@[simp] theorem evalIdle_tracker_filters :
    (evalIdle s).tracker.filters = s.tracker.filters := by unfold evalIdle; split <;> simp
@[simp] theorem evalIdle_tracker_edges :
    (evalIdle s).tracker.edges = s.tracker.edges := by unfold evalIdle; split <;> simp
@[simp] theorem evalIdle_tracker_geometry :
    (evalIdle s).tracker.geometry = s.tracker.geometry := by unfold evalIdle; split <;> simp
@[simp] theorem evalIdle_tracker_table :
    (evalIdle s).tracker.table = s.tracker.table := by unfold evalIdle; split <;> simp
@[simp] theorem evalIdle_tracker_nextTicket :
    (evalIdle s).tracker.nextTicket = s.tracker.nextTicket := by unfold evalIdle; split <;> simp
@[simp] theorem evalIdle_tracker_throttle :
    (evalIdle s).tracker.throttle = s.tracker.throttle := by unfold evalIdle; split <;> simp
@[simp] theorem evalIdle_tracker_sincePulse :
    (evalIdle s).tracker.sincePulse = s.tracker.sincePulse := by unfold evalIdle; split <;> simp
@[simp] theorem evalIdle_tracker_stallRaised :
    (evalIdle s).tracker.stallRaised = s.tracker.stallRaised := by unfold evalIdle; split <;> simp
@[simp] theorem evalIdle_channels : (evalIdle s).channels = s.channels := by unfold evalIdle; split <;> simp
@[simp] theorem evalIdle_lamps : (evalIdle s).lamps = s.lamps := by unfold evalIdle; split <;> simp
@[simp] theorem evalIdle_facing : (evalIdle s).facing = s.facing := by unfold evalIdle; split <;> simp
@[simp] theorem evalIdle_gate : (evalIdle s).gate = s.gate := by unfold evalIdle; split <;> simp
@[simp] theorem evalIdle_cancel : (evalIdle s).cancel = s.cancel := by unfold evalIdle; split <;> simp
@[simp] theorem evalIdle_stacker : (evalIdle s).stacker = s.stacker := by unfold evalIdle; split <;> simp
@[simp] theorem evalIdle_tally : (evalIdle s).tally = s.tally := by unfold evalIdle; split <;> simp
@[simp] theorem evalIdle_run_causes :
    (evalIdle s).run.causes = s.run.causes := by unfold evalIdle; split <;> simp
@[simp] theorem evalIdle_run_linkTimeout :
    (evalIdle s).run.linkTimeout = s.run.linkTimeout := by unfold evalIdle; split <;> simp
@[simp] theorem evalIdle_run_sinceLink :
    (evalIdle s).run.sinceLink = s.run.sinceLink := by unfold evalIdle; split <;> simp
@[simp] theorem evalIdle_run_linkRaised :
    (evalIdle s).run.linkRaised = s.run.linkRaised := by unfold evalIdle; split <;> simp
@[simp] theorem evalIdle_run_lastValid :
    (evalIdle s).run.lastValid = s.run.lastValid := by unfold evalIdle; split <;> simp
@[simp] theorem evalIdle_run_faults :
    (evalIdle s).run.faults = s.run.faults := by unfold evalIdle; split <;> simp
@[simp] theorem evalIdle_cal : (evalIdle s).cal = s.cal := by unfold evalIdle; split <;> simp
@[simp] theorem evalIdle_trace : (evalIdle s).trace = s.trace := by unfold evalIdle; split <;> simp
@[simp] theorem evalIdle_link_rate :
    (evalIdle s).link.rate = s.link.rate := by unfold evalIdle; split <;> simp
@[simp] theorem evalIdle_link_receiver :
    (evalIdle s).link.receiver = s.link.receiver := by unfold evalIdle; split <;> simp
@[simp] theorem evalIdle_link_inbound :
    (evalIdle s).link.inbound = s.link.inbound := by unfold evalIdle; split <;> simp
@[simp] theorem evalIdle_link_oversize :
    (evalIdle s).link.oversize = s.link.oversize := by unfold evalIdle; split <;> simp
@[simp] theorem evalIdle_link_bad : (evalIdle s).link.bad = s.link.bad := by unfold evalIdle; split <;> simp
@[simp] theorem evalIdle_link_broken :
    (evalIdle s).link.broken = s.link.broken := by unfold evalIdle; split <;> simp
@[simp] theorem evalIdle_link_dropped :
    (evalIdle s).link.dropped = s.link.dropped := by unfold evalIdle; split <;> simp
@[simp] theorem evalIdle_link_letterEnable :
    (evalIdle s).link.letterEnable = s.link.letterEnable := by unfold evalIdle; split <;> simp
@[simp] theorem evalIdle_link_traceEnable :
    (evalIdle s).link.traceEnable = s.link.traceEnable := by unfold evalIdle; split <;> simp
@[simp] theorem evalIdle_link_reset :
    (evalIdle s).link.reset = s.link.reset := by unfold evalIdle; split <;> simp
@[simp] theorem evalIdle_link_line :
    (evalIdle s).link.line = s.link.line := by unfold evalIdle; split <;> simp
@[simp] theorem evalIdle_pending : (evalIdle s).pending = s.pending := by unfold evalIdle; split <;> simp

end evalIdleFields

section evalHoldFields
variable (s : State)

@[simp] theorem evalHold_pins : (evalHold s).pins = s.pins := by unfold evalHold; split <;> simp
@[simp] theorem evalHold_uptime : (evalHold s).uptime = s.uptime := by unfold evalHold; split <;> simp
@[simp] theorem evalHold_tracker_belt :
    (evalHold s).tracker.belt = s.tracker.belt := by unfold evalHold; split <;> simp
@[simp] theorem evalHold_tracker_filters :
    (evalHold s).tracker.filters = s.tracker.filters := by unfold evalHold; split <;> simp
@[simp] theorem evalHold_tracker_edges :
    (evalHold s).tracker.edges = s.tracker.edges := by unfold evalHold; split <;> simp
@[simp] theorem evalHold_tracker_geometry :
    (evalHold s).tracker.geometry = s.tracker.geometry := by unfold evalHold; split <;> simp
@[simp] theorem evalHold_tracker_table :
    (evalHold s).tracker.table = s.tracker.table := by unfold evalHold; split <;> simp
@[simp] theorem evalHold_tracker_nextTicket :
    (evalHold s).tracker.nextTicket = s.tracker.nextTicket := by unfold evalHold; split <;> simp
@[simp] theorem evalHold_tracker_throttle :
    (evalHold s).tracker.throttle = s.tracker.throttle := by unfold evalHold; split <;> simp
@[simp] theorem evalHold_tracker_sincePulse :
    (evalHold s).tracker.sincePulse = s.tracker.sincePulse := by unfold evalHold; split <;> simp
@[simp] theorem evalHold_tracker_stallRaised :
    (evalHold s).tracker.stallRaised = s.tracker.stallRaised := by unfold evalHold; split <;> simp
@[simp] theorem evalHold_channels : (evalHold s).channels = s.channels := by unfold evalHold; split <;> simp
@[simp] theorem evalHold_lamps : (evalHold s).lamps = s.lamps := by unfold evalHold; split <;> simp
@[simp] theorem evalHold_facing : (evalHold s).facing = s.facing := by unfold evalHold; split <;> simp
@[simp] theorem evalHold_gate : (evalHold s).gate = s.gate := by unfold evalHold; split <;> simp
@[simp] theorem evalHold_cancel : (evalHold s).cancel = s.cancel := by unfold evalHold; split <;> simp
@[simp] theorem evalHold_stacker : (evalHold s).stacker = s.stacker := by unfold evalHold; split <;> simp
@[simp] theorem evalHold_tally : (evalHold s).tally = s.tally := by unfold evalHold; split <;> simp
@[simp] theorem evalHold_run_causes :
    (evalHold s).run.causes = s.run.causes := by unfold evalHold; split <;> simp
@[simp] theorem evalHold_run_linkTimeout :
    (evalHold s).run.linkTimeout = s.run.linkTimeout := by unfold evalHold; split <;> simp
@[simp] theorem evalHold_run_sinceLink :
    (evalHold s).run.sinceLink = s.run.sinceLink := by unfold evalHold; split <;> simp
@[simp] theorem evalHold_run_linkRaised :
    (evalHold s).run.linkRaised = s.run.linkRaised := by unfold evalHold; split <;> simp
@[simp] theorem evalHold_run_lastValid :
    (evalHold s).run.lastValid = s.run.lastValid := by unfold evalHold; split <;> simp
@[simp] theorem evalHold_run_faults :
    (evalHold s).run.faults = s.run.faults := by unfold evalHold; split <;> simp
@[simp] theorem evalHold_cal : (evalHold s).cal = s.cal := by unfold evalHold; split <;> simp
@[simp] theorem evalHold_trace : (evalHold s).trace = s.trace := by unfold evalHold; split <;> simp
@[simp] theorem evalHold_link_rate :
    (evalHold s).link.rate = s.link.rate := by unfold evalHold; split <;> simp
@[simp] theorem evalHold_link_receiver :
    (evalHold s).link.receiver = s.link.receiver := by unfold evalHold; split <;> simp
@[simp] theorem evalHold_link_inbound :
    (evalHold s).link.inbound = s.link.inbound := by unfold evalHold; split <;> simp
@[simp] theorem evalHold_link_oversize :
    (evalHold s).link.oversize = s.link.oversize := by unfold evalHold; split <;> simp
@[simp] theorem evalHold_link_bad : (evalHold s).link.bad = s.link.bad := by unfold evalHold; split <;> simp
@[simp] theorem evalHold_link_broken :
    (evalHold s).link.broken = s.link.broken := by unfold evalHold; split <;> simp
@[simp] theorem evalHold_link_dropped :
    (evalHold s).link.dropped = s.link.dropped := by unfold evalHold; split <;> simp
@[simp] theorem evalHold_link_letterEnable :
    (evalHold s).link.letterEnable = s.link.letterEnable := by unfold evalHold; split <;> simp
@[simp] theorem evalHold_link_traceEnable :
    (evalHold s).link.traceEnable = s.link.traceEnable := by unfold evalHold; split <;> simp
@[simp] theorem evalHold_link_reset :
    (evalHold s).link.reset = s.link.reset := by unfold evalHold; split <;> simp
@[simp] theorem evalHold_link_line :
    (evalHold s).link.line = s.link.line := by unfold evalHold; split <;> simp
@[simp] theorem evalHold_pending : (evalHold s).pending = s.pending := by unfold evalHold; split <;> simp

end evalHoldFields

section evalResumeFields
variable (s : State)

@[simp] theorem evalResume_pins : (evalResume s).pins = s.pins := by unfold evalResume; split <;> simp
@[simp] theorem evalResume_uptime : (evalResume s).uptime = s.uptime := by unfold evalResume; split <;> simp
@[simp] theorem evalResume_tracker_belt :
    (evalResume s).tracker.belt = s.tracker.belt := by unfold evalResume; split <;> simp
@[simp] theorem evalResume_tracker_filters :
    (evalResume s).tracker.filters = s.tracker.filters := by unfold evalResume; split <;> simp
@[simp] theorem evalResume_tracker_edges :
    (evalResume s).tracker.edges = s.tracker.edges := by unfold evalResume; split <;> simp
@[simp] theorem evalResume_tracker_geometry :
    (evalResume s).tracker.geometry = s.tracker.geometry := by unfold evalResume; split <;> simp
@[simp] theorem evalResume_tracker_table :
    (evalResume s).tracker.table = s.tracker.table := by unfold evalResume; split <;> simp
@[simp] theorem evalResume_tracker_nextTicket :
    (evalResume s).tracker.nextTicket = s.tracker.nextTicket := by unfold evalResume; split <;> simp
@[simp] theorem evalResume_tracker_throttle :
    (evalResume s).tracker.throttle = s.tracker.throttle := by unfold evalResume; split <;> simp
@[simp] theorem evalResume_tracker_sincePulse :
    (evalResume s).tracker.sincePulse = s.tracker.sincePulse := by unfold evalResume; split <;> simp
@[simp] theorem evalResume_tracker_stallRaised :
    (evalResume s).tracker.stallRaised = s.tracker.stallRaised := by unfold evalResume; split <;> simp
@[simp] theorem evalResume_channels :
    (evalResume s).channels = s.channels := by unfold evalResume; split <;> simp
@[simp] theorem evalResume_lamps : (evalResume s).lamps = s.lamps := by unfold evalResume; split <;> simp
@[simp] theorem evalResume_facing : (evalResume s).facing = s.facing := by unfold evalResume; split <;> simp
@[simp] theorem evalResume_gate : (evalResume s).gate = s.gate := by unfold evalResume; split <;> simp
@[simp] theorem evalResume_cancel : (evalResume s).cancel = s.cancel := by unfold evalResume; split <;> simp
@[simp] theorem evalResume_stacker :
    (evalResume s).stacker = s.stacker := by unfold evalResume; split <;> simp
@[simp] theorem evalResume_tally : (evalResume s).tally = s.tally := by unfold evalResume; split <;> simp
@[simp] theorem evalResume_run_causes :
    (evalResume s).run.causes = s.run.causes := by unfold evalResume; split <;> simp
@[simp] theorem evalResume_run_linkTimeout :
    (evalResume s).run.linkTimeout = s.run.linkTimeout := by unfold evalResume; split <;> simp
@[simp] theorem evalResume_run_sinceLink :
    (evalResume s).run.sinceLink = s.run.sinceLink := by unfold evalResume; split <;> simp
@[simp] theorem evalResume_run_linkRaised :
    (evalResume s).run.linkRaised = s.run.linkRaised := by unfold evalResume; split <;> simp
@[simp] theorem evalResume_run_lastValid :
    (evalResume s).run.lastValid = s.run.lastValid := by unfold evalResume; split <;> simp
@[simp] theorem evalResume_run_faults :
    (evalResume s).run.faults = s.run.faults := by unfold evalResume; split <;> simp
@[simp] theorem evalResume_cal : (evalResume s).cal = s.cal := by unfold evalResume; split <;> simp
@[simp] theorem evalResume_trace : (evalResume s).trace = s.trace := by unfold evalResume; split <;> simp
@[simp] theorem evalResume_link_rate :
    (evalResume s).link.rate = s.link.rate := by unfold evalResume; split <;> simp
@[simp] theorem evalResume_link_receiver :
    (evalResume s).link.receiver = s.link.receiver := by unfold evalResume; split <;> simp
@[simp] theorem evalResume_link_inbound :
    (evalResume s).link.inbound = s.link.inbound := by unfold evalResume; split <;> simp
@[simp] theorem evalResume_link_oversize :
    (evalResume s).link.oversize = s.link.oversize := by unfold evalResume; split <;> simp
@[simp] theorem evalResume_link_bad :
    (evalResume s).link.bad = s.link.bad := by unfold evalResume; split <;> simp
@[simp] theorem evalResume_link_broken :
    (evalResume s).link.broken = s.link.broken := by unfold evalResume; split <;> simp
@[simp] theorem evalResume_link_dropped :
    (evalResume s).link.dropped = s.link.dropped := by unfold evalResume; split <;> simp
@[simp] theorem evalResume_link_letterEnable :
    (evalResume s).link.letterEnable = s.link.letterEnable := by unfold evalResume; split <;> simp
@[simp] theorem evalResume_link_traceEnable :
    (evalResume s).link.traceEnable = s.link.traceEnable := by unfold evalResume; split <;> simp
@[simp] theorem evalResume_link_reset :
    (evalResume s).link.reset = s.link.reset := by unfold evalResume; split <;> simp
@[simp] theorem evalResume_link_line :
    (evalResume s).link.line = s.link.line := by unfold evalResume; split <;> simp
@[simp] theorem evalResume_pending :
    (evalResume s).pending = s.pending := by unfold evalResume; split <;> simp

end evalResumeFields

section evaluateFields
variable (s : State)

@[simp] theorem evaluate_pins : (evaluate s).pins = s.pins := by simp [evaluate]
@[simp] theorem evaluate_uptime : (evaluate s).uptime = s.uptime := by simp [evaluate]
@[simp] theorem evaluate_tracker_belt : (evaluate s).tracker.belt = s.tracker.belt := by simp [evaluate]
@[simp] theorem evaluate_tracker_filters :
    (evaluate s).tracker.filters = s.tracker.filters := by simp [evaluate]
@[simp] theorem evaluate_tracker_edges : (evaluate s).tracker.edges = s.tracker.edges := by simp [evaluate]
@[simp] theorem evaluate_tracker_geometry :
    (evaluate s).tracker.geometry = s.tracker.geometry := by simp [evaluate]
@[simp] theorem evaluate_tracker_nextTicket :
    (evaluate s).tracker.nextTicket = s.tracker.nextTicket := by simp [evaluate]
@[simp] theorem evaluate_tracker_sincePulse :
    (evaluate s).tracker.sincePulse = s.tracker.sincePulse := by simp [evaluate]
@[simp] theorem evaluate_tracker_stallRaised :
    (evaluate s).tracker.stallRaised = s.tracker.stallRaised := by simp [evaluate]
@[simp] theorem evaluate_lamps : (evaluate s).lamps = s.lamps := by simp [evaluate]
@[simp] theorem evaluate_facing_record : (evaluate s).facing.record = s.facing.record := by simp [evaluate]
@[simp] theorem evaluate_gate_output : (evaluate s).gate.output = s.gate.output := by simp [evaluate]
@[simp] theorem evaluate_gate_confirm : (evaluate s).gate.confirm = s.gate.confirm := by simp [evaluate]
@[simp] theorem evaluate_cancel_record : (evaluate s).cancel.record = s.cancel.record := by simp [evaluate]
@[simp] theorem evaluate_cancel_slots : (evaluate s).cancel.slots = s.cancel.slots := by simp [evaluate]
@[simp] theorem evaluate_cancel_active : (evaluate s).cancel.active = s.cancel.active := by simp [evaluate]
@[simp] theorem evaluate_stacker_plan : (evaluate s).stacker.plan = s.stacker.plan := by simp [evaluate]
@[simp] theorem evaluate_stacker_bins : (evaluate s).stacker.bins = s.stacker.bins := by simp [evaluate]
@[simp] theorem evaluate_stacker_flaps : (evaluate s).stacker.flaps = s.stacker.flaps := by simp [evaluate]
@[simp] theorem evaluate_stacker_trays : (evaluate s).stacker.trays = s.stacker.trays := by simp [evaluate]
@[simp] theorem evaluate_tally_baseOcc : (evaluate s).tally.baseOcc = s.tally.baseOcc := by simp [evaluate]
@[simp] theorem evaluate_tally_held : (evaluate s).tally.held = s.tally.held := by simp [evaluate]
@[simp] theorem evaluate_tally_nextSnapshot :
    (evaluate s).tally.nextSnapshot = s.tally.nextSnapshot := by simp [evaluate]
@[simp] theorem evaluate_run_causes : (evaluate s).run.causes = s.run.causes := by simp [evaluate]
@[simp] theorem evaluate_run_linkTimeout :
    (evaluate s).run.linkTimeout = s.run.linkTimeout := by simp [evaluate]
@[simp] theorem evaluate_run_sinceLink : (evaluate s).run.sinceLink = s.run.sinceLink := by simp [evaluate]
@[simp] theorem evaluate_run_linkRaised : (evaluate s).run.linkRaised = s.run.linkRaised := by simp [evaluate]
@[simp] theorem evaluate_run_lastValid : (evaluate s).run.lastValid = s.run.lastValid := by simp [evaluate]
@[simp] theorem evaluate_run_faults : (evaluate s).run.faults = s.run.faults := by simp [evaluate]
@[simp] theorem evaluate_trace : (evaluate s).trace = s.trace := by simp [evaluate]
@[simp] theorem evaluate_link_rate : (evaluate s).link.rate = s.link.rate := by simp [evaluate]
@[simp] theorem evaluate_link_receiver : (evaluate s).link.receiver = s.link.receiver := by simp [evaluate]
@[simp] theorem evaluate_link_inbound : (evaluate s).link.inbound = s.link.inbound := by simp [evaluate]
@[simp] theorem evaluate_link_oversize : (evaluate s).link.oversize = s.link.oversize := by simp [evaluate]
@[simp] theorem evaluate_link_bad : (evaluate s).link.bad = s.link.bad := by simp [evaluate]
@[simp] theorem evaluate_link_broken : (evaluate s).link.broken = s.link.broken := by simp [evaluate]
@[simp] theorem evaluate_link_dropped : (evaluate s).link.dropped = s.link.dropped := by simp [evaluate]
@[simp] theorem evaluate_link_letterEnable :
    (evaluate s).link.letterEnable = s.link.letterEnable := by simp [evaluate]
@[simp] theorem evaluate_link_traceEnable :
    (evaluate s).link.traceEnable = s.link.traceEnable := by simp [evaluate]
@[simp] theorem evaluate_link_reset : (evaluate s).link.reset = s.link.reset := by simp [evaluate]
@[simp] theorem evaluate_link_line : (evaluate s).link.line = s.link.line := by simp [evaluate]
@[simp] theorem evaluate_pending : (evaluate s).pending = s.pending := by simp [evaluate]

end evaluateFields

/-! ### Stop causes (R142, R147 to R149) -/

section stopNoticeFields
variable (c : Cause) (entering : Bool) (why : StopReason) (s : State)

@[simp] theorem stopNotice_pins : (stopNotice c entering why s).pins = s.pins := by simp [stopNotice]
@[simp] theorem stopNotice_uptime : (stopNotice c entering why s).uptime = s.uptime := by simp [stopNotice]
@[simp] theorem stopNotice_tracker : (stopNotice c entering why s).tracker = s.tracker := by simp [stopNotice]
@[simp] theorem stopNotice_channels :
    (stopNotice c entering why s).channels = s.channels := by simp [stopNotice]
@[simp] theorem stopNotice_lamps : (stopNotice c entering why s).lamps = s.lamps := by simp [stopNotice]
@[simp] theorem stopNotice_facing : (stopNotice c entering why s).facing = s.facing := by simp [stopNotice]
@[simp] theorem stopNotice_gate : (stopNotice c entering why s).gate = s.gate := by simp [stopNotice]
@[simp] theorem stopNotice_cancel : (stopNotice c entering why s).cancel = s.cancel := by simp [stopNotice]
@[simp] theorem stopNotice_stacker : (stopNotice c entering why s).stacker = s.stacker := by simp [stopNotice]
@[simp] theorem stopNotice_tally : (stopNotice c entering why s).tally = s.tally := by simp [stopNotice]
@[simp] theorem stopNotice_run : (stopNotice c entering why s).run = s.run := by simp [stopNotice]
@[simp] theorem stopNotice_cal : (stopNotice c entering why s).cal = s.cal := by simp [stopNotice]
@[simp] theorem stopNotice_trace : (stopNotice c entering why s).trace = s.trace := by simp [stopNotice]
@[simp] theorem stopNotice_link_rate :
    (stopNotice c entering why s).link.rate = s.link.rate := by simp [stopNotice]
@[simp] theorem stopNotice_link_receiver :
    (stopNotice c entering why s).link.receiver = s.link.receiver := by simp [stopNotice]
@[simp] theorem stopNotice_link_inbound :
    (stopNotice c entering why s).link.inbound = s.link.inbound := by simp [stopNotice]
@[simp] theorem stopNotice_link_oversize :
    (stopNotice c entering why s).link.oversize = s.link.oversize := by simp [stopNotice]
@[simp] theorem stopNotice_link_bad :
    (stopNotice c entering why s).link.bad = s.link.bad := by simp [stopNotice]
@[simp] theorem stopNotice_link_broken :
    (stopNotice c entering why s).link.broken = s.link.broken := by simp [stopNotice]
@[simp] theorem stopNotice_link_dropped :
    (stopNotice c entering why s).link.dropped = s.link.dropped := by simp [stopNotice]
@[simp] theorem stopNotice_link_letterEnable :
    (stopNotice c entering why s).link.letterEnable = s.link.letterEnable := by simp [stopNotice]
@[simp] theorem stopNotice_link_traceEnable :
    (stopNotice c entering why s).link.traceEnable = s.link.traceEnable := by simp [stopNotice]
@[simp] theorem stopNotice_link_reset :
    (stopNotice c entering why s).link.reset = s.link.reset := by simp [stopNotice]
@[simp] theorem stopNotice_link_line :
    (stopNotice c entering why s).link.line = s.link.line := by simp [stopNotice]
@[simp] theorem stopNotice_pending : (stopNotice c entering why s).pending = s.pending := by simp [stopNotice]

end stopNoticeFields

section setServiceFields
variable (c : Cause) (on : Bool) (why : StopReason) (s : State)

@[simp] theorem setService_pins : (setService c on why s).pins = s.pins := by simp [setService]
@[simp] theorem setService_uptime : (setService c on why s).uptime = s.uptime := by simp [setService]
@[simp] theorem setService_tracker : (setService c on why s).tracker = s.tracker := by simp [setService]
@[simp] theorem setService_channels : (setService c on why s).channels = s.channels := by simp [setService]
@[simp] theorem setService_lamps : (setService c on why s).lamps = s.lamps := by simp [setService]
@[simp] theorem setService_facing : (setService c on why s).facing = s.facing := by simp [setService]
@[simp] theorem setService_gate : (setService c on why s).gate = s.gate := by simp [setService]
@[simp] theorem setService_cancel : (setService c on why s).cancel = s.cancel := by simp [setService]
@[simp] theorem setService_stacker : (setService c on why s).stacker = s.stacker := by simp [setService]
@[simp] theorem setService_tally : (setService c on why s).tally = s.tally := by simp [setService]
@[simp] theorem setService_run_state :
    (setService c on why s).run.state = s.run.state := by simp [setService]
@[simp] theorem setService_run_startTimer :
    (setService c on why s).run.startTimer = s.run.startTimer := by simp [setService]
@[simp] theorem setService_run_startPos :
    (setService c on why s).run.startPos = s.run.startPos := by simp [setService]
@[simp] theorem setService_run_linkTimeout :
    (setService c on why s).run.linkTimeout = s.run.linkTimeout := by simp [setService]
@[simp] theorem setService_run_sinceLink :
    (setService c on why s).run.sinceLink = s.run.sinceLink := by simp [setService]
@[simp] theorem setService_run_linkRaised :
    (setService c on why s).run.linkRaised = s.run.linkRaised := by simp [setService]
@[simp] theorem setService_run_lastValid :
    (setService c on why s).run.lastValid = s.run.lastValid := by simp [setService]
@[simp] theorem setService_run_beacon :
    (setService c on why s).run.beacon = s.run.beacon := by simp [setService]
@[simp] theorem setService_run_faults :
    (setService c on why s).run.faults = s.run.faults := by simp [setService]
@[simp] theorem setService_cal : (setService c on why s).cal = s.cal := by simp [setService]
@[simp] theorem setService_trace : (setService c on why s).trace = s.trace := by simp [setService]
@[simp] theorem setService_link_rate :
    (setService c on why s).link.rate = s.link.rate := by simp [setService]
@[simp] theorem setService_link_receiver :
    (setService c on why s).link.receiver = s.link.receiver := by simp [setService]
@[simp] theorem setService_link_inbound :
    (setService c on why s).link.inbound = s.link.inbound := by simp [setService]
@[simp] theorem setService_link_oversize :
    (setService c on why s).link.oversize = s.link.oversize := by simp [setService]
@[simp] theorem setService_link_bad : (setService c on why s).link.bad = s.link.bad := by simp [setService]
@[simp] theorem setService_link_broken :
    (setService c on why s).link.broken = s.link.broken := by simp [setService]
@[simp] theorem setService_link_dropped :
    (setService c on why s).link.dropped = s.link.dropped := by simp [setService]
@[simp] theorem setService_link_letterEnable :
    (setService c on why s).link.letterEnable = s.link.letterEnable := by simp [setService]
@[simp] theorem setService_link_traceEnable :
    (setService c on why s).link.traceEnable = s.link.traceEnable := by simp [setService]
@[simp] theorem setService_link_reset :
    (setService c on why s).link.reset = s.link.reset := by simp [setService]
@[simp] theorem setService_link_line :
    (setService c on why s).link.line = s.link.line := by simp [setService]
@[simp] theorem setService_pending : (setService c on why s).pending = s.pending := by simp [setService]
@[simp] theorem setService_run_causes :
    (setService c on why s).run.causes =
      s.run.causes.set c { s.run.causes.get c with inService := on } := by
  simp [setService]

end setServiceFields

section enterServiceFields
variable (c : Cause) (why : StopReason) (s : State)

@[simp] theorem enterService_pins : (enterService c why s).pins = s.pins := by simp [enterService]
@[simp] theorem enterService_uptime : (enterService c why s).uptime = s.uptime := by simp [enterService]
@[simp] theorem enterService_tracker : (enterService c why s).tracker = s.tracker := by simp [enterService]
@[simp] theorem enterService_channels : (enterService c why s).channels = s.channels := by simp [enterService]
@[simp] theorem enterService_lamps : (enterService c why s).lamps = s.lamps := by simp [enterService]
@[simp] theorem enterService_facing : (enterService c why s).facing = s.facing := by simp [enterService]
@[simp] theorem enterService_gate : (enterService c why s).gate = s.gate := by simp [enterService]
@[simp] theorem enterService_cancel : (enterService c why s).cancel = s.cancel := by simp [enterService]
@[simp] theorem enterService_stacker : (enterService c why s).stacker = s.stacker := by simp [enterService]
@[simp] theorem enterService_tally : (enterService c why s).tally = s.tally := by simp [enterService]
@[simp] theorem enterService_run_state :
    (enterService c why s).run.state = s.run.state := by simp [enterService]
@[simp] theorem enterService_run_startTimer :
    (enterService c why s).run.startTimer = s.run.startTimer := by simp [enterService]
@[simp] theorem enterService_run_startPos :
    (enterService c why s).run.startPos = s.run.startPos := by simp [enterService]
@[simp] theorem enterService_run_linkTimeout :
    (enterService c why s).run.linkTimeout = s.run.linkTimeout := by simp [enterService]
@[simp] theorem enterService_run_sinceLink :
    (enterService c why s).run.sinceLink = s.run.sinceLink := by simp [enterService]
@[simp] theorem enterService_run_linkRaised :
    (enterService c why s).run.linkRaised = s.run.linkRaised := by simp [enterService]
@[simp] theorem enterService_run_lastValid :
    (enterService c why s).run.lastValid = s.run.lastValid := by simp [enterService]
@[simp] theorem enterService_run_faults :
    (enterService c why s).run.faults = s.run.faults := by simp [enterService]
@[simp] theorem enterService_cal : (enterService c why s).cal = s.cal := by simp [enterService]
@[simp] theorem enterService_trace : (enterService c why s).trace = s.trace := by simp [enterService]
@[simp] theorem enterService_link_rate :
    (enterService c why s).link.rate = s.link.rate := by simp [enterService]
@[simp] theorem enterService_link_receiver :
    (enterService c why s).link.receiver = s.link.receiver := by simp [enterService]
@[simp] theorem enterService_link_inbound :
    (enterService c why s).link.inbound = s.link.inbound := by simp [enterService]
@[simp] theorem enterService_link_oversize :
    (enterService c why s).link.oversize = s.link.oversize := by simp [enterService]
@[simp] theorem enterService_link_bad : (enterService c why s).link.bad = s.link.bad := by simp [enterService]
@[simp] theorem enterService_link_broken :
    (enterService c why s).link.broken = s.link.broken := by simp [enterService]
@[simp] theorem enterService_link_dropped :
    (enterService c why s).link.dropped = s.link.dropped := by simp [enterService]
@[simp] theorem enterService_link_letterEnable :
    (enterService c why s).link.letterEnable = s.link.letterEnable := by simp [enterService]
@[simp] theorem enterService_link_traceEnable :
    (enterService c why s).link.traceEnable = s.link.traceEnable := by simp [enterService]
@[simp] theorem enterService_link_reset :
    (enterService c why s).link.reset = s.link.reset := by simp [enterService]
@[simp] theorem enterService_link_line :
    (enterService c why s).link.line = s.link.line := by simp [enterService]
@[simp] theorem enterService_pending : (enterService c why s).pending = s.pending := by simp [enterService]
@[simp] theorem enterService_run_causes :
    (enterService c why s).run.causes =
      s.run.causes.set c { s.run.causes.get c with inService := true } := by
  simp [enterService]

end enterServiceFields

section leaveServiceFields
variable (c : Cause) (why : StopReason) (s : State)

@[simp] theorem leaveService_pins : (leaveService c why s).pins = s.pins := by simp [leaveService]
@[simp] theorem leaveService_uptime : (leaveService c why s).uptime = s.uptime := by simp [leaveService]
@[simp] theorem leaveService_tracker : (leaveService c why s).tracker = s.tracker := by simp [leaveService]
@[simp] theorem leaveService_channels : (leaveService c why s).channels = s.channels := by simp [leaveService]
@[simp] theorem leaveService_lamps : (leaveService c why s).lamps = s.lamps := by simp [leaveService]
@[simp] theorem leaveService_facing : (leaveService c why s).facing = s.facing := by simp [leaveService]
@[simp] theorem leaveService_gate : (leaveService c why s).gate = s.gate := by simp [leaveService]
@[simp] theorem leaveService_cancel : (leaveService c why s).cancel = s.cancel := by simp [leaveService]
@[simp] theorem leaveService_stacker : (leaveService c why s).stacker = s.stacker := by simp [leaveService]
@[simp] theorem leaveService_tally : (leaveService c why s).tally = s.tally := by simp [leaveService]
@[simp] theorem leaveService_run_state :
    (leaveService c why s).run.state = s.run.state := by simp [leaveService]
@[simp] theorem leaveService_run_startTimer :
    (leaveService c why s).run.startTimer = s.run.startTimer := by simp [leaveService]
@[simp] theorem leaveService_run_startPos :
    (leaveService c why s).run.startPos = s.run.startPos := by simp [leaveService]
@[simp] theorem leaveService_run_linkTimeout :
    (leaveService c why s).run.linkTimeout = s.run.linkTimeout := by simp [leaveService]
@[simp] theorem leaveService_run_sinceLink :
    (leaveService c why s).run.sinceLink = s.run.sinceLink := by simp [leaveService]
@[simp] theorem leaveService_run_linkRaised :
    (leaveService c why s).run.linkRaised = s.run.linkRaised := by simp [leaveService]
@[simp] theorem leaveService_run_lastValid :
    (leaveService c why s).run.lastValid = s.run.lastValid := by simp [leaveService]
@[simp] theorem leaveService_run_faults :
    (leaveService c why s).run.faults = s.run.faults := by simp [leaveService]
@[simp] theorem leaveService_cal : (leaveService c why s).cal = s.cal := by simp [leaveService]
@[simp] theorem leaveService_trace : (leaveService c why s).trace = s.trace := by simp [leaveService]
@[simp] theorem leaveService_link_rate :
    (leaveService c why s).link.rate = s.link.rate := by simp [leaveService]
@[simp] theorem leaveService_link_receiver :
    (leaveService c why s).link.receiver = s.link.receiver := by simp [leaveService]
@[simp] theorem leaveService_link_inbound :
    (leaveService c why s).link.inbound = s.link.inbound := by simp [leaveService]
@[simp] theorem leaveService_link_oversize :
    (leaveService c why s).link.oversize = s.link.oversize := by simp [leaveService]
@[simp] theorem leaveService_link_bad : (leaveService c why s).link.bad = s.link.bad := by simp [leaveService]
@[simp] theorem leaveService_link_broken :
    (leaveService c why s).link.broken = s.link.broken := by simp [leaveService]
@[simp] theorem leaveService_link_dropped :
    (leaveService c why s).link.dropped = s.link.dropped := by simp [leaveService]
@[simp] theorem leaveService_link_letterEnable :
    (leaveService c why s).link.letterEnable = s.link.letterEnable := by simp [leaveService]
@[simp] theorem leaveService_link_traceEnable :
    (leaveService c why s).link.traceEnable = s.link.traceEnable := by simp [leaveService]
@[simp] theorem leaveService_link_reset :
    (leaveService c why s).link.reset = s.link.reset := by simp [leaveService]
@[simp] theorem leaveService_link_line :
    (leaveService c why s).link.line = s.link.line := by simp [leaveService]
@[simp] theorem leaveService_pending : (leaveService c why s).pending = s.pending := by simp [leaveService]
@[simp] theorem leaveService_run_causes :
    (leaveService c why s).run.causes =
      s.run.causes.set c { s.run.causes.get c with inService := false } := by
  simp [leaveService]

end leaveServiceFields

section raiseCauseFields
variable (c : Cause) (d : SourceDetail) (n : Option U16) (why : StopReason) (s : State)

@[simp] theorem raiseCause_pins :
    (raiseCause c d n why s).pins = s.pins := by unfold raiseCause; dsimp only; split <;> simp
@[simp] theorem raiseCause_uptime :
    (raiseCause c d n why s).uptime = s.uptime := by unfold raiseCause; dsimp only; split <;> simp
@[simp] theorem raiseCause_tracker_belt :
    (raiseCause c d n why s).tracker.belt = s.tracker.belt := by unfold raiseCause; dsimp only; split <;> simp
@[simp] theorem raiseCause_tracker_filters :
    (raiseCause c d n why s).tracker.filters = s.tracker.filters := by
  unfold raiseCause; dsimp only; split <;> simp
@[simp] theorem raiseCause_tracker_edges :
    (raiseCause c d n why s).tracker.edges = s.tracker.edges := by
  unfold raiseCause; dsimp only; split <;> simp
@[simp] theorem raiseCause_tracker_geometry :
    (raiseCause c d n why s).tracker.geometry = s.tracker.geometry := by
  unfold raiseCause; dsimp only; split <;> simp
@[simp] theorem raiseCause_tracker_nextTicket :
    (raiseCause c d n why s).tracker.nextTicket = s.tracker.nextTicket := by
  unfold raiseCause; dsimp only; split <;> simp
@[simp] theorem raiseCause_tracker_sincePulse :
    (raiseCause c d n why s).tracker.sincePulse = s.tracker.sincePulse := by
  unfold raiseCause; dsimp only; split <;> simp
@[simp] theorem raiseCause_tracker_stallRaised :
    (raiseCause c d n why s).tracker.stallRaised = s.tracker.stallRaised := by
  unfold raiseCause; dsimp only; split <;> simp
@[simp] theorem raiseCause_lamps :
    (raiseCause c d n why s).lamps = s.lamps := by unfold raiseCause; dsimp only; split <;> simp
@[simp] theorem raiseCause_facing_record :
    (raiseCause c d n why s).facing.record = s.facing.record := by
  unfold raiseCause; dsimp only; split <;> simp
@[simp] theorem raiseCause_gate_output :
    (raiseCause c d n why s).gate.output = s.gate.output := by unfold raiseCause; dsimp only; split <;> simp
@[simp] theorem raiseCause_gate_confirm :
    (raiseCause c d n why s).gate.confirm = s.gate.confirm := by unfold raiseCause; dsimp only; split <;> simp
@[simp] theorem raiseCause_cancel_record :
    (raiseCause c d n why s).cancel.record = s.cancel.record := by
  unfold raiseCause; dsimp only; split <;> simp
@[simp] theorem raiseCause_cancel_slots :
    (raiseCause c d n why s).cancel.slots = s.cancel.slots := by unfold raiseCause; dsimp only; split <;> simp
@[simp] theorem raiseCause_cancel_active :
    (raiseCause c d n why s).cancel.active = s.cancel.active := by
  unfold raiseCause; dsimp only; split <;> simp
@[simp] theorem raiseCause_stacker_plan :
    (raiseCause c d n why s).stacker.plan = s.stacker.plan := by unfold raiseCause; dsimp only; split <;> simp
@[simp] theorem raiseCause_stacker_bins :
    (raiseCause c d n why s).stacker.bins = s.stacker.bins := by unfold raiseCause; dsimp only; split <;> simp
@[simp] theorem raiseCause_stacker_flaps :
    (raiseCause c d n why s).stacker.flaps = s.stacker.flaps := by
  unfold raiseCause; dsimp only; split <;> simp
@[simp] theorem raiseCause_stacker_trays :
    (raiseCause c d n why s).stacker.trays = s.stacker.trays := by
  unfold raiseCause; dsimp only; split <;> simp
@[simp] theorem raiseCause_tally_baseOcc :
    (raiseCause c d n why s).tally.baseOcc = s.tally.baseOcc := by
  unfold raiseCause; dsimp only; split <;> simp
@[simp] theorem raiseCause_tally_held :
    (raiseCause c d n why s).tally.held = s.tally.held := by unfold raiseCause; dsimp only; split <;> simp
@[simp] theorem raiseCause_tally_nextSnapshot :
    (raiseCause c d n why s).tally.nextSnapshot = s.tally.nextSnapshot := by
  unfold raiseCause; dsimp only; split <;> simp
@[simp] theorem raiseCause_run_linkTimeout :
    (raiseCause c d n why s).run.linkTimeout = s.run.linkTimeout := by
  unfold raiseCause; dsimp only; split <;> simp
@[simp] theorem raiseCause_run_sinceLink :
    (raiseCause c d n why s).run.sinceLink = s.run.sinceLink := by
  unfold raiseCause; dsimp only; split <;> simp
@[simp] theorem raiseCause_run_linkRaised :
    (raiseCause c d n why s).run.linkRaised = s.run.linkRaised := by
  unfold raiseCause; dsimp only; split <;> simp
@[simp] theorem raiseCause_run_lastValid :
    (raiseCause c d n why s).run.lastValid = s.run.lastValid := by
  unfold raiseCause; dsimp only; split <;> simp
@[simp] theorem raiseCause_trace :
    (raiseCause c d n why s).trace = s.trace := by unfold raiseCause; dsimp only; split <;> simp
@[simp] theorem raiseCause_link_rate :
    (raiseCause c d n why s).link.rate = s.link.rate := by unfold raiseCause; dsimp only; split <;> simp
@[simp] theorem raiseCause_link_receiver :
    (raiseCause c d n why s).link.receiver = s.link.receiver := by
  unfold raiseCause; dsimp only; split <;> simp
@[simp] theorem raiseCause_link_inbound :
    (raiseCause c d n why s).link.inbound = s.link.inbound := by unfold raiseCause; dsimp only; split <;> simp
@[simp] theorem raiseCause_link_oversize :
    (raiseCause c d n why s).link.oversize = s.link.oversize := by
  unfold raiseCause; dsimp only; split <;> simp
@[simp] theorem raiseCause_link_bad :
    (raiseCause c d n why s).link.bad = s.link.bad := by unfold raiseCause; dsimp only; split <;> simp
@[simp] theorem raiseCause_link_broken :
    (raiseCause c d n why s).link.broken = s.link.broken := by unfold raiseCause; dsimp only; split <;> simp
@[simp] theorem raiseCause_link_dropped :
    (raiseCause c d n why s).link.dropped = s.link.dropped := by unfold raiseCause; dsimp only; split <;> simp
@[simp] theorem raiseCause_link_letterEnable :
    (raiseCause c d n why s).link.letterEnable = s.link.letterEnable := by
  unfold raiseCause; dsimp only; split <;> simp
@[simp] theorem raiseCause_link_traceEnable :
    (raiseCause c d n why s).link.traceEnable = s.link.traceEnable := by
  unfold raiseCause; dsimp only; split <;> simp
@[simp] theorem raiseCause_link_reset :
    (raiseCause c d n why s).link.reset = s.link.reset := by unfold raiseCause; dsimp only; split <;> simp
@[simp] theorem raiseCause_link_line :
    (raiseCause c d n why s).link.line = s.link.line := by unfold raiseCause; dsimp only; split <;> simp
@[simp] theorem raiseCause_pending :
    (raiseCause c d n why s).pending = s.pending := by unfold raiseCause; dsimp only; split <;> simp

end raiseCauseFields

/-! ### The passing of time -/

section advanceFields
variable (dt : Nat) (s : State)

@[simp] theorem advance_pins : (advance dt s).pins = s.pins := rfl
@[simp] theorem advance_tracker_belt : (advance dt s).tracker.belt = s.tracker.belt := rfl
@[simp] theorem advance_tracker_filters : (advance dt s).tracker.filters = s.tracker.filters := rfl
@[simp] theorem advance_tracker_edges : (advance dt s).tracker.edges = s.tracker.edges := rfl
@[simp] theorem advance_tracker_geometry : (advance dt s).tracker.geometry = s.tracker.geometry := rfl
@[simp] theorem advance_tracker_table : (advance dt s).tracker.table = s.tracker.table := rfl
@[simp] theorem advance_tracker_nextTicket : (advance dt s).tracker.nextTicket = s.tracker.nextTicket := rfl
@[simp] theorem advance_tracker_prevTrail : (advance dt s).tracker.prevTrail = s.tracker.prevTrail := rfl
@[simp] theorem advance_tracker_firstTicket : (advance dt s).tracker.firstTicket = s.tracker.firstTicket := rfl
@[simp] theorem advance_tracker_throttle : (advance dt s).tracker.throttle = s.tracker.throttle := rfl
@[simp] theorem advance_tracker_stallRaised :
    (advance dt s).tracker.stallRaised = s.tracker.stallRaised := rfl
@[simp] theorem advance_channels : (advance dt s).channels = s.channels := rfl
@[simp] theorem advance_lamps_record : (advance dt s).lamps.record = s.lamps.record := rfl
@[simp] theorem advance_lamps_wakeErrors : (advance dt s).lamps.wakeErrors = s.lamps.wakeErrors := rfl
@[simp] theorem advance_facing : (advance dt s).facing = s.facing := rfl
@[simp] theorem advance_gate_output : (advance dt s).gate.output = s.gate.output := rfl
@[simp] theorem advance_gate_queue : (advance dt s).gate.queue = s.gate.queue := rfl
@[simp] theorem advance_cancel_record : (advance dt s).cancel.record = s.cancel.record := rfl
@[simp] theorem advance_cancel_slots : (advance dt s).cancel.slots = s.cancel.slots := rfl
@[simp] theorem advance_cancel_active : (advance dt s).cancel.active = s.cancel.active := rfl
@[simp] theorem advance_stacker_plan : (advance dt s).stacker.plan = s.stacker.plan := rfl
@[simp] theorem advance_stacker_bins : (advance dt s).stacker.bins = s.stacker.bins := rfl
@[simp] theorem advance_stacker_flaps : (advance dt s).stacker.flaps = s.stacker.flaps := rfl
@[simp] theorem advance_stacker_queue : (advance dt s).stacker.queue = s.stacker.queue := rfl
@[simp] theorem advance_tally : (advance dt s).tally = s.tally := rfl
@[simp] theorem advance_run_state : (advance dt s).run.state = s.run.state := rfl
@[simp] theorem advance_run_startPos : (advance dt s).run.startPos = s.run.startPos := rfl
@[simp] theorem advance_run_causes : (advance dt s).run.causes = s.run.causes := rfl
@[simp] theorem advance_run_linkTimeout : (advance dt s).run.linkTimeout = s.run.linkTimeout := rfl
@[simp] theorem advance_run_linkRaised : (advance dt s).run.linkRaised = s.run.linkRaised := rfl
@[simp] theorem advance_run_lastValid : (advance dt s).run.lastValid = s.run.lastValid := rfl
@[simp] theorem advance_run_faults : (advance dt s).run.faults = s.run.faults := rfl
@[simp] theorem advance_cal : (advance dt s).cal = s.cal := rfl
@[simp] theorem advance_trace : (advance dt s).trace = s.trace := rfl
@[simp] theorem advance_link_rate : (advance dt s).link.rate = s.link.rate := rfl
@[simp] theorem advance_link_inbound : (advance dt s).link.inbound = s.link.inbound := rfl
@[simp] theorem advance_link_outbound : (advance dt s).link.outbound = s.link.outbound := rfl
@[simp] theorem advance_link_oversize : (advance dt s).link.oversize = s.link.oversize := rfl
@[simp] theorem advance_link_bad : (advance dt s).link.bad = s.link.bad := rfl
@[simp] theorem advance_link_broken : (advance dt s).link.broken = s.link.broken := rfl
@[simp] theorem advance_link_dropped : (advance dt s).link.dropped = s.link.dropped := rfl
@[simp] theorem advance_link_reportsLost : (advance dt s).link.reportsLost = s.link.reportsLost := rfl
@[simp] theorem advance_link_tracesLost : (advance dt s).link.tracesLost = s.link.tracesLost := rfl
@[simp] theorem advance_link_eventsLost : (advance dt s).link.eventsLost = s.link.eventsLost := rfl
@[simp] theorem advance_link_letterEnable : (advance dt s).link.letterEnable = s.link.letterEnable := rfl
@[simp] theorem advance_link_traceEnable : (advance dt s).link.traceEnable = s.link.traceEnable := rfl
@[simp] theorem advance_link_reset : (advance dt s).link.reset = s.link.reset := rfl
@[simp] theorem advance_link_line : (advance dt s).link.line = s.link.line := rfl
@[simp] theorem advance_pending : (advance dt s).pending = s.pending := rfl

end advanceFields


end Sys2Proof.Machine
end

