-- ==== Sys2Proof/Laws/Decision.lean ====
section
/-! SUPPORT. What a decision can do (R50 to R65): the fields it leaves alone, and that it writes only the
decision's own fields of a ticket. -/

namespace Sys2Proof.Machine

/-- A ticket with the fields a decision writes taken back to their values at creation. -/
def Ticket.undecided (t : Ticket) : Ticket :=
  { t with
    state := .entering
    cls := none
    required := none
    head := none
    taken := none
    pathForced := false
    band := none
    strike := none
    outcome := none
    secondary := false
    pmShort := false
    noPostmark := false }

/-- A write that touches only the decision's fields leaves every ticket's other fields. -/
theorem setTicket_undecided (n : U16) (f : Ticket → Ticket) (s : State)
    (hf : ∀ t, (f t).undecided = t.undecided) :
    (setTicket n f s).tracker.table.map Ticket.undecided = s.tracker.table.map Ticket.undecided := by
  simp only [setTicket_tracker_table, List.map_map]
  apply List.map_congr_left
  intro t _
  simp only [Function.comp]
  split
  · exact hf t
  · rfl

/-! ### The path request (R69 to R71) -/

section pathRequestFields
variable (t : Ticket) (required : ReqPath) (s : State)

@[simp] theorem pathRequest_pins : (pathRequest t required s).pins = s.pins := by simp [pathRequest]
@[simp] theorem pathRequest_uptime : (pathRequest t required s).uptime = s.uptime := by simp [pathRequest]
@[simp] theorem pathRequest_tracker_belt :
    (pathRequest t required s).tracker.belt = s.tracker.belt := by simp [pathRequest]
@[simp] theorem pathRequest_tracker_filters :
    (pathRequest t required s).tracker.filters = s.tracker.filters := by simp [pathRequest]
@[simp] theorem pathRequest_tracker_edges :
    (pathRequest t required s).tracker.edges = s.tracker.edges := by simp [pathRequest]
@[simp] theorem pathRequest_tracker_geometry :
    (pathRequest t required s).tracker.geometry = s.tracker.geometry := by simp [pathRequest]
@[simp] theorem pathRequest_tracker_nextTicket :
    (pathRequest t required s).tracker.nextTicket = s.tracker.nextTicket := by simp [pathRequest]
@[simp] theorem pathRequest_tracker_prevTrail :
    (pathRequest t required s).tracker.prevTrail = s.tracker.prevTrail := by simp [pathRequest]
@[simp] theorem pathRequest_tracker_firstTicket :
    (pathRequest t required s).tracker.firstTicket = s.tracker.firstTicket := by simp [pathRequest]
@[simp] theorem pathRequest_tracker_throttle :
    (pathRequest t required s).tracker.throttle = s.tracker.throttle := by simp [pathRequest]
@[simp] theorem pathRequest_tracker_sincePulse :
    (pathRequest t required s).tracker.sincePulse = s.tracker.sincePulse := by simp [pathRequest]
@[simp] theorem pathRequest_tracker_stallRaised :
    (pathRequest t required s).tracker.stallRaised = s.tracker.stallRaised := by simp [pathRequest]
@[simp] theorem pathRequest_channels :
    (pathRequest t required s).channels = s.channels := by simp [pathRequest]
@[simp] theorem pathRequest_lamps : (pathRequest t required s).lamps = s.lamps := by simp [pathRequest]
@[simp] theorem pathRequest_facing : (pathRequest t required s).facing = s.facing := by simp [pathRequest]
@[simp] theorem pathRequest_gate_output :
    (pathRequest t required s).gate.output = s.gate.output := by simp [pathRequest]
@[simp] theorem pathRequest_gate_confirm :
    (pathRequest t required s).gate.confirm = s.gate.confirm := by simp [pathRequest]
@[simp] theorem pathRequest_gate_exercise :
    (pathRequest t required s).gate.exercise = s.gate.exercise := by simp [pathRequest]
@[simp] theorem pathRequest_cancel : (pathRequest t required s).cancel = s.cancel := by simp [pathRequest]
@[simp] theorem pathRequest_stacker : (pathRequest t required s).stacker = s.stacker := by simp [pathRequest]
@[simp] theorem pathRequest_tally_baseOcc :
    (pathRequest t required s).tally.baseOcc = s.tally.baseOcc := by simp [pathRequest]
@[simp] theorem pathRequest_tally_held :
    (pathRequest t required s).tally.held = s.tally.held := by simp [pathRequest]
@[simp] theorem pathRequest_tally_nextSnapshot :
    (pathRequest t required s).tally.nextSnapshot = s.tally.nextSnapshot := by simp [pathRequest]
@[simp] theorem pathRequest_run : (pathRequest t required s).run = s.run := by simp [pathRequest]
@[simp] theorem pathRequest_cal : (pathRequest t required s).cal = s.cal := by simp [pathRequest]
@[simp] theorem pathRequest_trace : (pathRequest t required s).trace = s.trace := by simp [pathRequest]
@[simp] theorem pathRequest_link : (pathRequest t required s).link = s.link := by simp [pathRequest]
@[simp] theorem pathRequest_pending : (pathRequest t required s).pending = s.pending := by simp [pathRequest]

end pathRequestFields

theorem pathRequest_undecided (t : Ticket) (required : ReqPath) (s : State) :
    (pathRequest t required s).tracker.table.map Ticket.undecided =
      s.tracker.table.map Ticket.undecided := by
  unfold pathRequest
  simp only [postIf_tracker]
  rw [setTicket_undecided]
  intro u; rfl

/-! ### The strike plan (R89 to R93) -/

section missStrikeFields
variable (n : U16) (h : Head) (s : State)

@[simp] theorem missStrike_pins : (missStrike n h s).pins = s.pins := by unfold missStrike; split <;> simp
@[simp] theorem missStrike_uptime :
    (missStrike n h s).uptime = s.uptime := by unfold missStrike; split <;> simp
@[simp] theorem missStrike_tracker_belt :
    (missStrike n h s).tracker.belt = s.tracker.belt := by unfold missStrike; split <;> simp
@[simp] theorem missStrike_tracker_filters :
    (missStrike n h s).tracker.filters = s.tracker.filters := by unfold missStrike; split <;> simp
@[simp] theorem missStrike_tracker_edges :
    (missStrike n h s).tracker.edges = s.tracker.edges := by unfold missStrike; split <;> simp
@[simp] theorem missStrike_tracker_geometry :
    (missStrike n h s).tracker.geometry = s.tracker.geometry := by unfold missStrike; split <;> simp
@[simp] theorem missStrike_tracker_nextTicket :
    (missStrike n h s).tracker.nextTicket = s.tracker.nextTicket := by unfold missStrike; split <;> simp
@[simp] theorem missStrike_tracker_prevTrail :
    (missStrike n h s).tracker.prevTrail = s.tracker.prevTrail := by unfold missStrike; split <;> simp
@[simp] theorem missStrike_tracker_firstTicket :
    (missStrike n h s).tracker.firstTicket = s.tracker.firstTicket := by unfold missStrike; split <;> simp
@[simp] theorem missStrike_tracker_throttle :
    (missStrike n h s).tracker.throttle = s.tracker.throttle := by unfold missStrike; split <;> simp
@[simp] theorem missStrike_tracker_sincePulse :
    (missStrike n h s).tracker.sincePulse = s.tracker.sincePulse := by unfold missStrike; split <;> simp
@[simp] theorem missStrike_tracker_stallRaised :
    (missStrike n h s).tracker.stallRaised = s.tracker.stallRaised := by unfold missStrike; split <;> simp
@[simp] theorem missStrike_channels :
    (missStrike n h s).channels = s.channels := by unfold missStrike; split <;> simp
@[simp] theorem missStrike_lamps : (missStrike n h s).lamps = s.lamps := by unfold missStrike; split <;> simp
@[simp] theorem missStrike_facing :
    (missStrike n h s).facing = s.facing := by unfold missStrike; split <;> simp
@[simp] theorem missStrike_gate : (missStrike n h s).gate = s.gate := by unfold missStrike; split <;> simp
@[simp] theorem missStrike_cancel :
    (missStrike n h s).cancel = s.cancel := by unfold missStrike; split <;> simp
@[simp] theorem missStrike_stacker :
    (missStrike n h s).stacker = s.stacker := by unfold missStrike; split <;> simp
@[simp] theorem missStrike_tally_baseOcc :
    (missStrike n h s).tally.baseOcc = s.tally.baseOcc := by unfold missStrike; split <;> simp
@[simp] theorem missStrike_tally_held :
    (missStrike n h s).tally.held = s.tally.held := by unfold missStrike; split <;> simp
@[simp] theorem missStrike_tally_nextSnapshot :
    (missStrike n h s).tally.nextSnapshot = s.tally.nextSnapshot := by unfold missStrike; split <;> simp
@[simp] theorem missStrike_run : (missStrike n h s).run = s.run := by unfold missStrike; split <;> simp
@[simp] theorem missStrike_cal : (missStrike n h s).cal = s.cal := by unfold missStrike; split <;> simp
@[simp] theorem missStrike_trace : (missStrike n h s).trace = s.trace := by unfold missStrike; split <;> simp
@[simp] theorem missStrike_link : (missStrike n h s).link = s.link := by unfold missStrike; split <;> simp
@[simp] theorem missStrike_pending :
    (missStrike n h s).pending = s.pending := by unfold missStrike; split <;> simp

end missStrikeFields

theorem missStrike_undecided (n : U16) (h : Head) (s : State) :
    (missStrike n h s).tracker.table.map Ticket.undecided = s.tracker.table.map Ticket.undecided := by
  unfold missStrike
  split
  · simp only [post_tracker]
    rw [setTicket_undecided]
    intro u; rfl
  · rfl

section planForFields
variable (t : Ticket) (h : Head) (ms len letter : Nat) (s : State)

@[simp] theorem planFor_pins :
    (planFor t h ms len letter s).pins = s.pins := by
  unfold planFor; dsimp only; split <;> (try split) <;> simp
@[simp] theorem planFor_uptime :
    (planFor t h ms len letter s).uptime = s.uptime := by
  unfold planFor; dsimp only; split <;> (try split) <;> simp
@[simp] theorem planFor_tracker_belt :
    (planFor t h ms len letter s).tracker.belt = s.tracker.belt := by
  unfold planFor; dsimp only; split <;> (try split) <;> simp
@[simp] theorem planFor_tracker_filters :
    (planFor t h ms len letter s).tracker.filters = s.tracker.filters := by
  unfold planFor; dsimp only; split <;> (try split) <;> simp
@[simp] theorem planFor_tracker_edges :
    (planFor t h ms len letter s).tracker.edges = s.tracker.edges := by
  unfold planFor; dsimp only; split <;> (try split) <;> simp
@[simp] theorem planFor_tracker_geometry :
    (planFor t h ms len letter s).tracker.geometry = s.tracker.geometry := by
  unfold planFor; dsimp only; split <;> (try split) <;> simp
@[simp] theorem planFor_tracker_nextTicket :
    (planFor t h ms len letter s).tracker.nextTicket = s.tracker.nextTicket := by
  unfold planFor; dsimp only; split <;> (try split) <;> simp
@[simp] theorem planFor_tracker_prevTrail :
    (planFor t h ms len letter s).tracker.prevTrail = s.tracker.prevTrail := by
  unfold planFor; dsimp only; split <;> (try split) <;> simp
@[simp] theorem planFor_tracker_firstTicket :
    (planFor t h ms len letter s).tracker.firstTicket = s.tracker.firstTicket := by
  unfold planFor; dsimp only; split <;> (try split) <;> simp
@[simp] theorem planFor_tracker_throttle :
    (planFor t h ms len letter s).tracker.throttle = s.tracker.throttle := by
  unfold planFor; dsimp only; split <;> (try split) <;> simp
@[simp] theorem planFor_tracker_sincePulse :
    (planFor t h ms len letter s).tracker.sincePulse = s.tracker.sincePulse := by
  unfold planFor; dsimp only; split <;> (try split) <;> simp
@[simp] theorem planFor_tracker_stallRaised :
    (planFor t h ms len letter s).tracker.stallRaised = s.tracker.stallRaised := by
  unfold planFor; dsimp only; split <;> (try split) <;> simp
@[simp] theorem planFor_channels :
    (planFor t h ms len letter s).channels = s.channels := by
  unfold planFor; dsimp only; split <;> (try split) <;> simp
@[simp] theorem planFor_lamps :
    (planFor t h ms len letter s).lamps = s.lamps := by
  unfold planFor; dsimp only; split <;> (try split) <;> simp
@[simp] theorem planFor_facing :
    (planFor t h ms len letter s).facing = s.facing := by
  unfold planFor; dsimp only; split <;> (try split) <;> simp
@[simp] theorem planFor_gate :
    (planFor t h ms len letter s).gate = s.gate := by
  unfold planFor; dsimp only; split <;> (try split) <;> simp
@[simp] theorem planFor_cancel_record :
    (planFor t h ms len letter s).cancel.record = s.cancel.record := by
  unfold planFor; dsimp only; split <;> (try split) <;> simp
@[simp] theorem planFor_cancel_slots :
    (planFor t h ms len letter s).cancel.slots = s.cancel.slots := by
  unfold planFor; dsimp only; split <;> (try split) <;> simp
@[simp] theorem planFor_cancel_active :
    (planFor t h ms len letter s).cancel.active = s.cancel.active := by
  unfold planFor; dsimp only; split <;> (try split) <;> simp
@[simp] theorem planFor_stacker :
    (planFor t h ms len letter s).stacker = s.stacker := by
  unfold planFor; dsimp only; split <;> (try split) <;> simp
@[simp] theorem planFor_tally_baseOcc :
    (planFor t h ms len letter s).tally.baseOcc = s.tally.baseOcc := by
  unfold planFor; dsimp only; split <;> (try split) <;> simp
@[simp] theorem planFor_tally_held :
    (planFor t h ms len letter s).tally.held = s.tally.held := by
  unfold planFor; dsimp only; split <;> (try split) <;> simp
@[simp] theorem planFor_tally_nextSnapshot :
    (planFor t h ms len letter s).tally.nextSnapshot = s.tally.nextSnapshot := by
  unfold planFor; dsimp only; split <;> (try split) <;> simp
@[simp] theorem planFor_run :
    (planFor t h ms len letter s).run = s.run := by unfold planFor; dsimp only; split <;> (try split) <;> simp
@[simp] theorem planFor_cal :
    (planFor t h ms len letter s).cal = s.cal := by unfold planFor; dsimp only; split <;> (try split) <;> simp
@[simp] theorem planFor_trace :
    (planFor t h ms len letter s).trace = s.trace := by
  unfold planFor; dsimp only; split <;> (try split) <;> simp
@[simp] theorem planFor_link :
    (planFor t h ms len letter s).link = s.link := by
  unfold planFor; dsimp only; split <;> (try split) <;> simp
@[simp] theorem planFor_pending :
    (planFor t h ms len letter s).pending = s.pending := by
  unfold planFor; dsimp only; split <;> (try split) <;> simp

end planForFields

theorem planFor_undecided (t : Ticket) (h : Head) (ms len letter : Nat) (s : State) :
    (planFor t h ms len letter s).tracker.table.map Ticket.undecided =
      s.tracker.table.map Ticket.undecided := by
  unfold planFor
  dsimp only
  split
  · rw [missStrike_undecided, setTicket_undecided]
    intro u; rfl
  · split
    · rw [missStrike_undecided, setTicket_undecided]
      intro u; rfl
    · simp only [setHead_tracker]
      rw [setTicket_undecided, setTicket_undecided] <;> (intro u; rfl)

section strikeForFields
variable (t : Ticket) (v : Verdict) (forced : Bool) (s : State)

@[simp] theorem strikeFor_pins : (strikeFor t v forced s).pins = s.pins := by unfold strikeFor; split <;> simp
@[simp] theorem strikeFor_uptime :
    (strikeFor t v forced s).uptime = s.uptime := by unfold strikeFor; split <;> simp
@[simp] theorem strikeFor_tracker_belt :
    (strikeFor t v forced s).tracker.belt = s.tracker.belt := by unfold strikeFor; split <;> simp
@[simp] theorem strikeFor_tracker_filters :
    (strikeFor t v forced s).tracker.filters = s.tracker.filters := by unfold strikeFor; split <;> simp
@[simp] theorem strikeFor_tracker_edges :
    (strikeFor t v forced s).tracker.edges = s.tracker.edges := by unfold strikeFor; split <;> simp
@[simp] theorem strikeFor_tracker_geometry :
    (strikeFor t v forced s).tracker.geometry = s.tracker.geometry := by unfold strikeFor; split <;> simp
@[simp] theorem strikeFor_tracker_nextTicket :
    (strikeFor t v forced s).tracker.nextTicket = s.tracker.nextTicket := by unfold strikeFor; split <;> simp
@[simp] theorem strikeFor_tracker_prevTrail :
    (strikeFor t v forced s).tracker.prevTrail = s.tracker.prevTrail := by unfold strikeFor; split <;> simp
@[simp] theorem strikeFor_tracker_firstTicket :
    (strikeFor t v forced s).tracker.firstTicket = s.tracker.firstTicket := by unfold strikeFor; split <;> simp
@[simp] theorem strikeFor_tracker_throttle :
    (strikeFor t v forced s).tracker.throttle = s.tracker.throttle := by unfold strikeFor; split <;> simp
@[simp] theorem strikeFor_tracker_sincePulse :
    (strikeFor t v forced s).tracker.sincePulse = s.tracker.sincePulse := by unfold strikeFor; split <;> simp
@[simp] theorem strikeFor_tracker_stallRaised :
    (strikeFor t v forced s).tracker.stallRaised = s.tracker.stallRaised := by
  unfold strikeFor; split <;> simp
@[simp] theorem strikeFor_channels :
    (strikeFor t v forced s).channels = s.channels := by unfold strikeFor; split <;> simp
@[simp] theorem strikeFor_lamps :
    (strikeFor t v forced s).lamps = s.lamps := by unfold strikeFor; split <;> simp
@[simp] theorem strikeFor_facing :
    (strikeFor t v forced s).facing = s.facing := by unfold strikeFor; split <;> simp
@[simp] theorem strikeFor_gate : (strikeFor t v forced s).gate = s.gate := by unfold strikeFor; split <;> simp
@[simp] theorem strikeFor_cancel_record :
    (strikeFor t v forced s).cancel.record = s.cancel.record := by unfold strikeFor; split <;> simp
@[simp] theorem strikeFor_cancel_slots :
    (strikeFor t v forced s).cancel.slots = s.cancel.slots := by unfold strikeFor; split <;> simp
@[simp] theorem strikeFor_cancel_active :
    (strikeFor t v forced s).cancel.active = s.cancel.active := by unfold strikeFor; split <;> simp
@[simp] theorem strikeFor_stacker :
    (strikeFor t v forced s).stacker = s.stacker := by unfold strikeFor; split <;> simp
@[simp] theorem strikeFor_tally_baseOcc :
    (strikeFor t v forced s).tally.baseOcc = s.tally.baseOcc := by unfold strikeFor; split <;> simp
@[simp] theorem strikeFor_tally_held :
    (strikeFor t v forced s).tally.held = s.tally.held := by unfold strikeFor; split <;> simp
@[simp] theorem strikeFor_tally_nextSnapshot :
    (strikeFor t v forced s).tally.nextSnapshot = s.tally.nextSnapshot := by unfold strikeFor; split <;> simp
@[simp] theorem strikeFor_run : (strikeFor t v forced s).run = s.run := by unfold strikeFor; split <;> simp
@[simp] theorem strikeFor_cal : (strikeFor t v forced s).cal = s.cal := by unfold strikeFor; split <;> simp
@[simp] theorem strikeFor_trace :
    (strikeFor t v forced s).trace = s.trace := by unfold strikeFor; split <;> simp
@[simp] theorem strikeFor_link : (strikeFor t v forced s).link = s.link := by unfold strikeFor; split <;> simp
@[simp] theorem strikeFor_pending :
    (strikeFor t v forced s).pending = s.pending := by unfold strikeFor; split <;> simp

end strikeForFields

theorem strikeFor_undecided (t : Ticket) (v : Verdict) (forced : Bool) (s : State) :
    (strikeFor t v forced s).tracker.table.map Ticket.undecided =
      s.tracker.table.map Ticket.undecided := by
  unfold strikeFor
  split
  · exact planFor_undecided ..
  · rw [setTicket_undecided]
    intro u; rfl

/-! ### Calibration and trace (R156 to R164) -/

section proposeFields
variable (r : CalRecord) (s : State)

@[simp] theorem propose_pins : (propose r s).pins = s.pins := by unfold propose; dsimp only; split <;> simp
@[simp] theorem propose_uptime :
    (propose r s).uptime = s.uptime := by unfold propose; dsimp only; split <;> simp
@[simp] theorem propose_tracker :
    (propose r s).tracker = s.tracker := by unfold propose; dsimp only; split <;> simp
@[simp] theorem propose_channels :
    (propose r s).channels = s.channels := by unfold propose; dsimp only; split <;> simp
@[simp] theorem propose_lamps : (propose r s).lamps = s.lamps := by unfold propose; dsimp only; split <;> simp
@[simp] theorem propose_facing :
    (propose r s).facing = s.facing := by unfold propose; dsimp only; split <;> simp
@[simp] theorem propose_gate : (propose r s).gate = s.gate := by unfold propose; dsimp only; split <;> simp
@[simp] theorem propose_cancel :
    (propose r s).cancel = s.cancel := by unfold propose; dsimp only; split <;> simp
@[simp] theorem propose_stacker :
    (propose r s).stacker = s.stacker := by unfold propose; dsimp only; split <;> simp
@[simp] theorem propose_tally : (propose r s).tally = s.tally := by unfold propose; dsimp only; split <;> simp
@[simp] theorem propose_run : (propose r s).run = s.run := by unfold propose; dsimp only; split <;> simp
@[simp] theorem propose_trace : (propose r s).trace = s.trace := by unfold propose; dsimp only; split <;> simp
@[simp] theorem propose_link_rate :
    (propose r s).link.rate = s.link.rate := by unfold propose; dsimp only; split <;> simp
@[simp] theorem propose_link_receiver :
    (propose r s).link.receiver = s.link.receiver := by unfold propose; dsimp only; split <;> simp
@[simp] theorem propose_link_inbound :
    (propose r s).link.inbound = s.link.inbound := by unfold propose; dsimp only; split <;> simp
@[simp] theorem propose_link_oversize :
    (propose r s).link.oversize = s.link.oversize := by unfold propose; dsimp only; split <;> simp
@[simp] theorem propose_link_bad :
    (propose r s).link.bad = s.link.bad := by unfold propose; dsimp only; split <;> simp
@[simp] theorem propose_link_broken :
    (propose r s).link.broken = s.link.broken := by unfold propose; dsimp only; split <;> simp
@[simp] theorem propose_link_dropped :
    (propose r s).link.dropped = s.link.dropped := by unfold propose; dsimp only; split <;> simp
@[simp] theorem propose_link_letterEnable :
    (propose r s).link.letterEnable = s.link.letterEnable := by unfold propose; dsimp only; split <;> simp
@[simp] theorem propose_link_traceEnable :
    (propose r s).link.traceEnable = s.link.traceEnable := by unfold propose; dsimp only; split <;> simp
@[simp] theorem propose_link_reset :
    (propose r s).link.reset = s.link.reset := by unfold propose; dsimp only; split <;> simp
@[simp] theorem propose_link_line :
    (propose r s).link.line = s.link.line := by unfold propose; dsimp only; split <;> simp
@[simp] theorem propose_pending :
    (propose r s).pending = s.pending := by unfold propose; dsimp only; split <;> simp

end proposeFields

section takeMarkFields
variable (r : CalRecord) (m : Mark) (s : State)

@[simp] theorem takeMark_pins :
    (takeMark r m s).pins = s.pins := by unfold takeMark; dsimp only; split <;> split <;> simp
@[simp] theorem takeMark_uptime :
    (takeMark r m s).uptime = s.uptime := by unfold takeMark; dsimp only; split <;> split <;> simp
@[simp] theorem takeMark_tracker :
    (takeMark r m s).tracker = s.tracker := by unfold takeMark; dsimp only; split <;> split <;> simp
@[simp] theorem takeMark_channels :
    (takeMark r m s).channels = s.channels := by unfold takeMark; dsimp only; split <;> split <;> simp
@[simp] theorem takeMark_lamps :
    (takeMark r m s).lamps = s.lamps := by unfold takeMark; dsimp only; split <;> split <;> simp
@[simp] theorem takeMark_facing :
    (takeMark r m s).facing = s.facing := by unfold takeMark; dsimp only; split <;> split <;> simp
@[simp] theorem takeMark_gate :
    (takeMark r m s).gate = s.gate := by unfold takeMark; dsimp only; split <;> split <;> simp
@[simp] theorem takeMark_cancel :
    (takeMark r m s).cancel = s.cancel := by unfold takeMark; dsimp only; split <;> split <;> simp
@[simp] theorem takeMark_stacker :
    (takeMark r m s).stacker = s.stacker := by unfold takeMark; dsimp only; split <;> split <;> simp
@[simp] theorem takeMark_tally :
    (takeMark r m s).tally = s.tally := by unfold takeMark; dsimp only; split <;> split <;> simp
@[simp] theorem takeMark_run :
    (takeMark r m s).run = s.run := by unfold takeMark; dsimp only; split <;> split <;> simp
@[simp] theorem takeMark_trace :
    (takeMark r m s).trace = s.trace := by unfold takeMark; dsimp only; split <;> split <;> simp
@[simp] theorem takeMark_link_rate :
    (takeMark r m s).link.rate = s.link.rate := by unfold takeMark; dsimp only; split <;> split <;> simp
@[simp] theorem takeMark_link_receiver :
    (takeMark r m s).link.receiver = s.link.receiver := by
  unfold takeMark; dsimp only; split <;> split <;> simp
@[simp] theorem takeMark_link_inbound :
    (takeMark r m s).link.inbound = s.link.inbound := by unfold takeMark; dsimp only; split <;> split <;> simp
@[simp] theorem takeMark_link_oversize :
    (takeMark r m s).link.oversize = s.link.oversize := by
  unfold takeMark; dsimp only; split <;> split <;> simp
@[simp] theorem takeMark_link_bad :
    (takeMark r m s).link.bad = s.link.bad := by unfold takeMark; dsimp only; split <;> split <;> simp
@[simp] theorem takeMark_link_broken :
    (takeMark r m s).link.broken = s.link.broken := by unfold takeMark; dsimp only; split <;> split <;> simp
@[simp] theorem takeMark_link_dropped :
    (takeMark r m s).link.dropped = s.link.dropped := by unfold takeMark; dsimp only; split <;> split <;> simp
@[simp] theorem takeMark_link_letterEnable :
    (takeMark r m s).link.letterEnable = s.link.letterEnable := by
  unfold takeMark; dsimp only; split <;> split <;> simp
@[simp] theorem takeMark_link_traceEnable :
    (takeMark r m s).link.traceEnable = s.link.traceEnable := by
  unfold takeMark; dsimp only; split <;> split <;> simp
@[simp] theorem takeMark_link_reset :
    (takeMark r m s).link.reset = s.link.reset := by unfold takeMark; dsimp only; split <;> split <;> simp
@[simp] theorem takeMark_link_line :
    (takeMark r m s).link.line = s.link.line := by unfold takeMark; dsimp only; split <;> split <;> simp
@[simp] theorem takeMark_pending :
    (takeMark r m s).pending = s.pending := by unfold takeMark; dsimp only; split <;> split <;> simp

end takeMarkFields

section takeMarksFields
variable (ms : List Mark) (s : State)

@[simp] theorem takeMarks_pins : (takeMarks ms s).pins = s.pins := by
  induction ms generalizing s with | nil => rfl | cons m ms ih => unfold takeMarks; split <;> (try split) <;> simp [ih]
@[simp] theorem takeMarks_uptime : (takeMarks ms s).uptime = s.uptime := by
  induction ms generalizing s with | nil => rfl | cons m ms ih => unfold takeMarks; split <;> (try split) <;> simp [ih]
@[simp] theorem takeMarks_tracker : (takeMarks ms s).tracker = s.tracker := by
  induction ms generalizing s with | nil => rfl | cons m ms ih => unfold takeMarks; split <;> (try split) <;> simp [ih]
@[simp] theorem takeMarks_channels : (takeMarks ms s).channels = s.channels := by
  induction ms generalizing s with | nil => rfl | cons m ms ih => unfold takeMarks; split <;> (try split) <;> simp [ih]
@[simp] theorem takeMarks_lamps : (takeMarks ms s).lamps = s.lamps := by
  induction ms generalizing s with | nil => rfl | cons m ms ih => unfold takeMarks; split <;> (try split) <;> simp [ih]
@[simp] theorem takeMarks_facing : (takeMarks ms s).facing = s.facing := by
  induction ms generalizing s with | nil => rfl | cons m ms ih => unfold takeMarks; split <;> (try split) <;> simp [ih]
@[simp] theorem takeMarks_gate : (takeMarks ms s).gate = s.gate := by
  induction ms generalizing s with | nil => rfl | cons m ms ih => unfold takeMarks; split <;> (try split) <;> simp [ih]
@[simp] theorem takeMarks_cancel : (takeMarks ms s).cancel = s.cancel := by
  induction ms generalizing s with | nil => rfl | cons m ms ih => unfold takeMarks; split <;> (try split) <;> simp [ih]
@[simp] theorem takeMarks_stacker : (takeMarks ms s).stacker = s.stacker := by
  induction ms generalizing s with | nil => rfl | cons m ms ih => unfold takeMarks; split <;> (try split) <;> simp [ih]
@[simp] theorem takeMarks_tally : (takeMarks ms s).tally = s.tally := by
  induction ms generalizing s with | nil => rfl | cons m ms ih => unfold takeMarks; split <;> (try split) <;> simp [ih]
@[simp] theorem takeMarks_run : (takeMarks ms s).run = s.run := by
  induction ms generalizing s with | nil => rfl | cons m ms ih => unfold takeMarks; split <;> (try split) <;> simp [ih]
@[simp] theorem takeMarks_trace : (takeMarks ms s).trace = s.trace := by
  induction ms generalizing s with | nil => rfl | cons m ms ih => unfold takeMarks; split <;> (try split) <;> simp [ih]
@[simp] theorem takeMarks_link_rate :
    (takeMarks ms s).link.rate = s.link.rate := by
  induction ms generalizing s with | nil => rfl | cons m ms ih => unfold takeMarks; split <;> (try split) <;> simp [ih]
@[simp] theorem takeMarks_link_receiver :
    (takeMarks ms s).link.receiver = s.link.receiver := by
  induction ms generalizing s with | nil => rfl | cons m ms ih => unfold takeMarks; split <;> (try split) <;> simp [ih]
@[simp] theorem takeMarks_link_inbound :
    (takeMarks ms s).link.inbound = s.link.inbound := by
  induction ms generalizing s with | nil => rfl | cons m ms ih => unfold takeMarks; split <;> (try split) <;> simp [ih]
@[simp] theorem takeMarks_link_oversize :
    (takeMarks ms s).link.oversize = s.link.oversize := by
  induction ms generalizing s with | nil => rfl | cons m ms ih => unfold takeMarks; split <;> (try split) <;> simp [ih]
@[simp] theorem takeMarks_link_bad : (takeMarks ms s).link.bad = s.link.bad := by
  induction ms generalizing s with | nil => rfl | cons m ms ih => unfold takeMarks; split <;> (try split) <;> simp [ih]
@[simp] theorem takeMarks_link_broken :
    (takeMarks ms s).link.broken = s.link.broken := by
  induction ms generalizing s with | nil => rfl | cons m ms ih => unfold takeMarks; split <;> (try split) <;> simp [ih]
@[simp] theorem takeMarks_link_dropped :
    (takeMarks ms s).link.dropped = s.link.dropped := by
  induction ms generalizing s with | nil => rfl | cons m ms ih => unfold takeMarks; split <;> (try split) <;> simp [ih]
@[simp] theorem takeMarks_link_letterEnable :
    (takeMarks ms s).link.letterEnable = s.link.letterEnable := by
  induction ms generalizing s with | nil => rfl | cons m ms ih => unfold takeMarks; split <;> (try split) <;> simp [ih]
@[simp] theorem takeMarks_link_traceEnable :
    (takeMarks ms s).link.traceEnable = s.link.traceEnable := by
  induction ms generalizing s with | nil => rfl | cons m ms ih => unfold takeMarks; split <;> (try split) <;> simp [ih]
@[simp] theorem takeMarks_link_reset :
    (takeMarks ms s).link.reset = s.link.reset := by
  induction ms generalizing s with | nil => rfl | cons m ms ih => unfold takeMarks; split <;> (try split) <;> simp [ih]
@[simp] theorem takeMarks_link_line :
    (takeMarks ms s).link.line = s.link.line := by
  induction ms generalizing s with | nil => rfl | cons m ms ih => unfold takeMarks; split <;> (try split) <;> simp [ih]
@[simp] theorem takeMarks_pending : (takeMarks ms s).pending = s.pending := by
  induction ms generalizing s with | nil => rfl | cons m ms ih => unfold takeMarks; split <;> (try split) <;> simp [ih]

end takeMarksFields

section contributeFields
variable (t : Ticket) (s : State)

@[simp] theorem contribute_pins : (contribute t s).pins = s.pins := by unfold contribute; split <;> simp
@[simp] theorem contribute_uptime : (contribute t s).uptime = s.uptime := by unfold contribute; split <;> simp
@[simp] theorem contribute_tracker :
    (contribute t s).tracker = s.tracker := by unfold contribute; split <;> simp
@[simp] theorem contribute_channels :
    (contribute t s).channels = s.channels := by unfold contribute; split <;> simp
@[simp] theorem contribute_lamps : (contribute t s).lamps = s.lamps := by unfold contribute; split <;> simp
@[simp] theorem contribute_facing : (contribute t s).facing = s.facing := by unfold contribute; split <;> simp
@[simp] theorem contribute_gate : (contribute t s).gate = s.gate := by unfold contribute; split <;> simp
@[simp] theorem contribute_cancel : (contribute t s).cancel = s.cancel := by unfold contribute; split <;> simp
@[simp] theorem contribute_stacker :
    (contribute t s).stacker = s.stacker := by unfold contribute; split <;> simp
@[simp] theorem contribute_tally : (contribute t s).tally = s.tally := by unfold contribute; split <;> simp
@[simp] theorem contribute_run : (contribute t s).run = s.run := by unfold contribute; split <;> simp
@[simp] theorem contribute_trace : (contribute t s).trace = s.trace := by unfold contribute; split <;> simp
@[simp] theorem contribute_link_rate :
    (contribute t s).link.rate = s.link.rate := by unfold contribute; split <;> simp
@[simp] theorem contribute_link_receiver :
    (contribute t s).link.receiver = s.link.receiver := by unfold contribute; split <;> simp
@[simp] theorem contribute_link_inbound :
    (contribute t s).link.inbound = s.link.inbound := by unfold contribute; split <;> simp
@[simp] theorem contribute_link_oversize :
    (contribute t s).link.oversize = s.link.oversize := by unfold contribute; split <;> simp
@[simp] theorem contribute_link_bad :
    (contribute t s).link.bad = s.link.bad := by unfold contribute; split <;> simp
@[simp] theorem contribute_link_broken :
    (contribute t s).link.broken = s.link.broken := by unfold contribute; split <;> simp
@[simp] theorem contribute_link_dropped :
    (contribute t s).link.dropped = s.link.dropped := by unfold contribute; split <;> simp
@[simp] theorem contribute_link_letterEnable :
    (contribute t s).link.letterEnable = s.link.letterEnable := by unfold contribute; split <;> simp
@[simp] theorem contribute_link_traceEnable :
    (contribute t s).link.traceEnable = s.link.traceEnable := by unfold contribute; split <;> simp
@[simp] theorem contribute_link_reset :
    (contribute t s).link.reset = s.link.reset := by unfold contribute; split <;> simp
@[simp] theorem contribute_link_line :
    (contribute t s).link.line = s.link.line := by unfold contribute; split <;> simp
@[simp] theorem contribute_pending :
    (contribute t s).pending = s.pending := by unfold contribute; split <;> simp

end contributeFields

section testTraceFields
variable (t : Ticket) (cls : LetterClass) (o : LetterOutcome) (s : State)

@[simp] theorem testTrace_pins :
    (testTrace t cls o s).pins = s.pins := by unfold testTrace; split <;> (try split) <;> simp
@[simp] theorem testTrace_uptime :
    (testTrace t cls o s).uptime = s.uptime := by unfold testTrace; split <;> (try split) <;> simp
@[simp] theorem testTrace_tracker :
    (testTrace t cls o s).tracker = s.tracker := by unfold testTrace; split <;> (try split) <;> simp
@[simp] theorem testTrace_channels :
    (testTrace t cls o s).channels = s.channels := by unfold testTrace; split <;> (try split) <;> simp
@[simp] theorem testTrace_lamps :
    (testTrace t cls o s).lamps = s.lamps := by unfold testTrace; split <;> (try split) <;> simp
@[simp] theorem testTrace_facing :
    (testTrace t cls o s).facing = s.facing := by unfold testTrace; split <;> (try split) <;> simp
@[simp] theorem testTrace_gate :
    (testTrace t cls o s).gate = s.gate := by unfold testTrace; split <;> (try split) <;> simp
@[simp] theorem testTrace_cancel :
    (testTrace t cls o s).cancel = s.cancel := by unfold testTrace; split <;> (try split) <;> simp
@[simp] theorem testTrace_stacker :
    (testTrace t cls o s).stacker = s.stacker := by unfold testTrace; split <;> (try split) <;> simp
@[simp] theorem testTrace_tally :
    (testTrace t cls o s).tally = s.tally := by unfold testTrace; split <;> (try split) <;> simp
@[simp] theorem testTrace_run :
    (testTrace t cls o s).run = s.run := by unfold testTrace; split <;> (try split) <;> simp
@[simp] theorem testTrace_cal :
    (testTrace t cls o s).cal = s.cal := by unfold testTrace; split <;> (try split) <;> simp
@[simp] theorem testTrace_link_rate :
    (testTrace t cls o s).link.rate = s.link.rate := by unfold testTrace; split <;> (try split) <;> simp
@[simp] theorem testTrace_link_receiver :
    (testTrace t cls o s).link.receiver = s.link.receiver := by
  unfold testTrace; split <;> (try split) <;> simp
@[simp] theorem testTrace_link_inbound :
    (testTrace t cls o s).link.inbound = s.link.inbound := by unfold testTrace; split <;> (try split) <;> simp
@[simp] theorem testTrace_link_oversize :
    (testTrace t cls o s).link.oversize = s.link.oversize := by
  unfold testTrace; split <;> (try split) <;> simp
@[simp] theorem testTrace_link_bad :
    (testTrace t cls o s).link.bad = s.link.bad := by unfold testTrace; split <;> (try split) <;> simp
@[simp] theorem testTrace_link_broken :
    (testTrace t cls o s).link.broken = s.link.broken := by unfold testTrace; split <;> (try split) <;> simp
@[simp] theorem testTrace_link_dropped :
    (testTrace t cls o s).link.dropped = s.link.dropped := by unfold testTrace; split <;> (try split) <;> simp
@[simp] theorem testTrace_link_letterEnable :
    (testTrace t cls o s).link.letterEnable = s.link.letterEnable := by
  unfold testTrace; split <;> (try split) <;> simp
@[simp] theorem testTrace_link_traceEnable :
    (testTrace t cls o s).link.traceEnable = s.link.traceEnable := by
  unfold testTrace; split <;> (try split) <;> simp
@[simp] theorem testTrace_link_reset :
    (testTrace t cls o s).link.reset = s.link.reset := by unfold testTrace; split <;> (try split) <;> simp
@[simp] theorem testTrace_link_line :
    (testTrace t cls o s).link.line = s.link.line := by unfold testTrace; split <;> (try split) <;> simp
@[simp] theorem testTrace_pending :
    (testTrace t cls o s).pending = s.pending := by unfold testTrace; split <;> (try split) <;> simp

end testTraceFields

/-! ### The decision (R50 to R52, R61 to R65) -/

section decideTicketFields
variable (t : Ticket) (s : State)

@[simp] theorem decideTicket_pins : (decideTicket t s).pins = s.pins := by simp [decideTicket]
@[simp] theorem decideTicket_uptime : (decideTicket t s).uptime = s.uptime := by simp [decideTicket]
@[simp] theorem decideTicket_tracker_belt :
    (decideTicket t s).tracker.belt = s.tracker.belt := by simp [decideTicket]
@[simp] theorem decideTicket_tracker_filters :
    (decideTicket t s).tracker.filters = s.tracker.filters := by simp [decideTicket]
@[simp] theorem decideTicket_tracker_edges :
    (decideTicket t s).tracker.edges = s.tracker.edges := by simp [decideTicket]
@[simp] theorem decideTicket_tracker_geometry :
    (decideTicket t s).tracker.geometry = s.tracker.geometry := by simp [decideTicket]
@[simp] theorem decideTicket_tracker_nextTicket :
    (decideTicket t s).tracker.nextTicket = s.tracker.nextTicket := by simp [decideTicket]
@[simp] theorem decideTicket_tracker_prevTrail :
    (decideTicket t s).tracker.prevTrail = s.tracker.prevTrail := by simp [decideTicket]
@[simp] theorem decideTicket_tracker_firstTicket :
    (decideTicket t s).tracker.firstTicket = s.tracker.firstTicket := by simp [decideTicket]
@[simp] theorem decideTicket_tracker_throttle :
    (decideTicket t s).tracker.throttle = s.tracker.throttle := by simp [decideTicket]
@[simp] theorem decideTicket_tracker_sincePulse :
    (decideTicket t s).tracker.sincePulse = s.tracker.sincePulse := by simp [decideTicket]
@[simp] theorem decideTicket_tracker_stallRaised :
    (decideTicket t s).tracker.stallRaised = s.tracker.stallRaised := by simp [decideTicket]
@[simp] theorem decideTicket_channels : (decideTicket t s).channels = s.channels := by simp [decideTicket]
@[simp] theorem decideTicket_lamps : (decideTicket t s).lamps = s.lamps := by simp [decideTicket]
@[simp] theorem decideTicket_facing : (decideTicket t s).facing = s.facing := by simp [decideTicket]
@[simp] theorem decideTicket_gate_output :
    (decideTicket t s).gate.output = s.gate.output := by simp [decideTicket]
@[simp] theorem decideTicket_gate_confirm :
    (decideTicket t s).gate.confirm = s.gate.confirm := by simp [decideTicket]
@[simp] theorem decideTicket_gate_exercise :
    (decideTicket t s).gate.exercise = s.gate.exercise := by simp [decideTicket]
@[simp] theorem decideTicket_cancel_record :
    (decideTicket t s).cancel.record = s.cancel.record := by simp [decideTicket]
@[simp] theorem decideTicket_cancel_slots :
    (decideTicket t s).cancel.slots = s.cancel.slots := by simp [decideTicket]
@[simp] theorem decideTicket_cancel_active :
    (decideTicket t s).cancel.active = s.cancel.active := by simp [decideTicket]
@[simp] theorem decideTicket_stacker : (decideTicket t s).stacker = s.stacker := by simp [decideTicket]
@[simp] theorem decideTicket_tally_baseOcc :
    (decideTicket t s).tally.baseOcc = s.tally.baseOcc := by simp [decideTicket]
@[simp] theorem decideTicket_tally_held :
    (decideTicket t s).tally.held = s.tally.held := by simp [decideTicket]
@[simp] theorem decideTicket_tally_nextSnapshot :
    (decideTicket t s).tally.nextSnapshot = s.tally.nextSnapshot := by simp [decideTicket]
@[simp] theorem decideTicket_run : (decideTicket t s).run = s.run := by simp [decideTicket]
@[simp] theorem decideTicket_link_rate : (decideTicket t s).link.rate = s.link.rate := by simp [decideTicket]
@[simp] theorem decideTicket_link_receiver :
    (decideTicket t s).link.receiver = s.link.receiver := by simp [decideTicket]
@[simp] theorem decideTicket_link_inbound :
    (decideTicket t s).link.inbound = s.link.inbound := by simp [decideTicket]
@[simp] theorem decideTicket_link_oversize :
    (decideTicket t s).link.oversize = s.link.oversize := by simp [decideTicket]
@[simp] theorem decideTicket_link_bad : (decideTicket t s).link.bad = s.link.bad := by simp [decideTicket]
@[simp] theorem decideTicket_link_broken :
    (decideTicket t s).link.broken = s.link.broken := by simp [decideTicket]
@[simp] theorem decideTicket_link_dropped :
    (decideTicket t s).link.dropped = s.link.dropped := by simp [decideTicket]
@[simp] theorem decideTicket_link_letterEnable :
    (decideTicket t s).link.letterEnable = s.link.letterEnable := by simp [decideTicket]
@[simp] theorem decideTicket_link_traceEnable :
    (decideTicket t s).link.traceEnable = s.link.traceEnable := by simp [decideTicket]
@[simp] theorem decideTicket_link_reset :
    (decideTicket t s).link.reset = s.link.reset := by simp [decideTicket]
@[simp] theorem decideTicket_link_line : (decideTicket t s).link.line = s.link.line := by simp [decideTicket]
@[simp] theorem decideTicket_pending : (decideTicket t s).pending = s.pending := by simp [decideTicket]

end decideTicketFields

theorem decideTicket_undecided (t : Ticket) (s : State) :
    (decideTicket t s).tracker.table.map Ticket.undecided = s.tracker.table.map Ticket.undecided := by
  unfold decideTicket
  simp only [testTrace_tracker, contribute_tracker]
  rw [setTicket_undecided, strikeFor_undecided, setTicket_undecided, pathRequest_undecided] <;> (intro u; rfl)

section decideNumberFields
variable (n : U16) (s : State)

@[simp] theorem decideNumber_pins : (decideNumber n s).pins = s.pins := by unfold decideNumber; split <;> simp
@[simp] theorem decideNumber_uptime :
    (decideNumber n s).uptime = s.uptime := by unfold decideNumber; split <;> simp
@[simp] theorem decideNumber_tracker_belt :
    (decideNumber n s).tracker.belt = s.tracker.belt := by unfold decideNumber; split <;> simp
@[simp] theorem decideNumber_tracker_filters :
    (decideNumber n s).tracker.filters = s.tracker.filters := by unfold decideNumber; split <;> simp
@[simp] theorem decideNumber_tracker_edges :
    (decideNumber n s).tracker.edges = s.tracker.edges := by unfold decideNumber; split <;> simp
@[simp] theorem decideNumber_tracker_geometry :
    (decideNumber n s).tracker.geometry = s.tracker.geometry := by unfold decideNumber; split <;> simp
@[simp] theorem decideNumber_tracker_nextTicket :
    (decideNumber n s).tracker.nextTicket = s.tracker.nextTicket := by unfold decideNumber; split <;> simp
@[simp] theorem decideNumber_tracker_prevTrail :
    (decideNumber n s).tracker.prevTrail = s.tracker.prevTrail := by unfold decideNumber; split <;> simp
@[simp] theorem decideNumber_tracker_firstTicket :
    (decideNumber n s).tracker.firstTicket = s.tracker.firstTicket := by unfold decideNumber; split <;> simp
@[simp] theorem decideNumber_tracker_throttle :
    (decideNumber n s).tracker.throttle = s.tracker.throttle := by unfold decideNumber; split <;> simp
@[simp] theorem decideNumber_tracker_sincePulse :
    (decideNumber n s).tracker.sincePulse = s.tracker.sincePulse := by unfold decideNumber; split <;> simp
@[simp] theorem decideNumber_tracker_stallRaised :
    (decideNumber n s).tracker.stallRaised = s.tracker.stallRaised := by unfold decideNumber; split <;> simp
@[simp] theorem decideNumber_channels :
    (decideNumber n s).channels = s.channels := by unfold decideNumber; split <;> simp
@[simp] theorem decideNumber_lamps :
    (decideNumber n s).lamps = s.lamps := by unfold decideNumber; split <;> simp
@[simp] theorem decideNumber_facing :
    (decideNumber n s).facing = s.facing := by unfold decideNumber; split <;> simp
@[simp] theorem decideNumber_gate_output :
    (decideNumber n s).gate.output = s.gate.output := by unfold decideNumber; split <;> simp
@[simp] theorem decideNumber_gate_confirm :
    (decideNumber n s).gate.confirm = s.gate.confirm := by unfold decideNumber; split <;> simp
@[simp] theorem decideNumber_gate_exercise :
    (decideNumber n s).gate.exercise = s.gate.exercise := by unfold decideNumber; split <;> simp
@[simp] theorem decideNumber_cancel_record :
    (decideNumber n s).cancel.record = s.cancel.record := by unfold decideNumber; split <;> simp
@[simp] theorem decideNumber_cancel_slots :
    (decideNumber n s).cancel.slots = s.cancel.slots := by unfold decideNumber; split <;> simp
@[simp] theorem decideNumber_cancel_active :
    (decideNumber n s).cancel.active = s.cancel.active := by unfold decideNumber; split <;> simp
@[simp] theorem decideNumber_stacker :
    (decideNumber n s).stacker = s.stacker := by unfold decideNumber; split <;> simp
@[simp] theorem decideNumber_tally_baseOcc :
    (decideNumber n s).tally.baseOcc = s.tally.baseOcc := by unfold decideNumber; split <;> simp
@[simp] theorem decideNumber_tally_held :
    (decideNumber n s).tally.held = s.tally.held := by unfold decideNumber; split <;> simp
@[simp] theorem decideNumber_tally_nextSnapshot :
    (decideNumber n s).tally.nextSnapshot = s.tally.nextSnapshot := by unfold decideNumber; split <;> simp
@[simp] theorem decideNumber_run : (decideNumber n s).run = s.run := by unfold decideNumber; split <;> simp
@[simp] theorem decideNumber_link_rate :
    (decideNumber n s).link.rate = s.link.rate := by unfold decideNumber; split <;> simp
@[simp] theorem decideNumber_link_receiver :
    (decideNumber n s).link.receiver = s.link.receiver := by unfold decideNumber; split <;> simp
@[simp] theorem decideNumber_link_inbound :
    (decideNumber n s).link.inbound = s.link.inbound := by unfold decideNumber; split <;> simp
@[simp] theorem decideNumber_link_oversize :
    (decideNumber n s).link.oversize = s.link.oversize := by unfold decideNumber; split <;> simp
@[simp] theorem decideNumber_link_bad :
    (decideNumber n s).link.bad = s.link.bad := by unfold decideNumber; split <;> simp
@[simp] theorem decideNumber_link_broken :
    (decideNumber n s).link.broken = s.link.broken := by unfold decideNumber; split <;> simp
@[simp] theorem decideNumber_link_dropped :
    (decideNumber n s).link.dropped = s.link.dropped := by unfold decideNumber; split <;> simp
@[simp] theorem decideNumber_link_letterEnable :
    (decideNumber n s).link.letterEnable = s.link.letterEnable := by unfold decideNumber; split <;> simp
@[simp] theorem decideNumber_link_traceEnable :
    (decideNumber n s).link.traceEnable = s.link.traceEnable := by unfold decideNumber; split <;> simp
@[simp] theorem decideNumber_link_reset :
    (decideNumber n s).link.reset = s.link.reset := by unfold decideNumber; split <;> simp
@[simp] theorem decideNumber_link_line :
    (decideNumber n s).link.line = s.link.line := by unfold decideNumber; split <;> simp
@[simp] theorem decideNumber_pending :
    (decideNumber n s).pending = s.pending := by unfold decideNumber; split <;> simp

end decideNumberFields

theorem decideNumber_undecided (n : U16) (s : State) :
    (decideNumber n s).tracker.table.map Ticket.undecided = s.tracker.table.map Ticket.undecided := by
  unfold decideNumber
  split
  · exact decideTicket_undecided ..
  · rfl

section releaseWaitingFields
variable (ns : List U16) (s : State)

@[simp] theorem releaseWaiting_pins : (releaseWaiting ns s).pins = s.pins := by
  induction ns generalizing s with | nil => rfl | cons n ns ih => unfold releaseWaiting; split <;> simp [ih]
@[simp] theorem releaseWaiting_uptime :
    (releaseWaiting ns s).uptime = s.uptime := by
  induction ns generalizing s with | nil => rfl | cons n ns ih => unfold releaseWaiting; split <;> simp [ih]
@[simp] theorem releaseWaiting_tracker_belt :
    (releaseWaiting ns s).tracker.belt = s.tracker.belt := by
  induction ns generalizing s with | nil => rfl | cons n ns ih => unfold releaseWaiting; split <;> simp [ih]
@[simp] theorem releaseWaiting_tracker_filters :
    (releaseWaiting ns s).tracker.filters = s.tracker.filters := by
  induction ns generalizing s with | nil => rfl | cons n ns ih => unfold releaseWaiting; split <;> simp [ih]
@[simp] theorem releaseWaiting_tracker_edges :
    (releaseWaiting ns s).tracker.edges = s.tracker.edges := by
  induction ns generalizing s with | nil => rfl | cons n ns ih => unfold releaseWaiting; split <;> simp [ih]
@[simp] theorem releaseWaiting_tracker_geometry :
    (releaseWaiting ns s).tracker.geometry = s.tracker.geometry := by
  induction ns generalizing s with | nil => rfl | cons n ns ih => unfold releaseWaiting; split <;> simp [ih]
@[simp] theorem releaseWaiting_tracker_nextTicket :
    (releaseWaiting ns s).tracker.nextTicket = s.tracker.nextTicket := by
  induction ns generalizing s with | nil => rfl | cons n ns ih => unfold releaseWaiting; split <;> simp [ih]
@[simp] theorem releaseWaiting_tracker_prevTrail :
    (releaseWaiting ns s).tracker.prevTrail = s.tracker.prevTrail := by
  induction ns generalizing s with | nil => rfl | cons n ns ih => unfold releaseWaiting; split <;> simp [ih]
@[simp] theorem releaseWaiting_tracker_firstTicket :
    (releaseWaiting ns s).tracker.firstTicket = s.tracker.firstTicket := by
  induction ns generalizing s with | nil => rfl | cons n ns ih => unfold releaseWaiting; split <;> simp [ih]
@[simp] theorem releaseWaiting_tracker_throttle :
    (releaseWaiting ns s).tracker.throttle = s.tracker.throttle := by
  induction ns generalizing s with | nil => rfl | cons n ns ih => unfold releaseWaiting; split <;> simp [ih]
@[simp] theorem releaseWaiting_tracker_sincePulse :
    (releaseWaiting ns s).tracker.sincePulse = s.tracker.sincePulse := by
  induction ns generalizing s with | nil => rfl | cons n ns ih => unfold releaseWaiting; split <;> simp [ih]
@[simp] theorem releaseWaiting_tracker_stallRaised :
    (releaseWaiting ns s).tracker.stallRaised = s.tracker.stallRaised := by
  induction ns generalizing s with | nil => rfl | cons n ns ih => unfold releaseWaiting; split <;> simp [ih]
@[simp] theorem releaseWaiting_channels :
    (releaseWaiting ns s).channels = s.channels := by
  induction ns generalizing s with | nil => rfl | cons n ns ih => unfold releaseWaiting; split <;> simp [ih]
@[simp] theorem releaseWaiting_lamps : (releaseWaiting ns s).lamps = s.lamps := by
  induction ns generalizing s with | nil => rfl | cons n ns ih => unfold releaseWaiting; split <;> simp [ih]
@[simp] theorem releaseWaiting_facing_record :
    (releaseWaiting ns s).facing.record = s.facing.record := by
  induction ns generalizing s with | nil => rfl | cons n ns ih => unfold releaseWaiting; split <;> simp [ih]
@[simp] theorem releaseWaiting_gate_output :
    (releaseWaiting ns s).gate.output = s.gate.output := by
  induction ns generalizing s with | nil => rfl | cons n ns ih => unfold releaseWaiting; split <;> simp [ih]
@[simp] theorem releaseWaiting_gate_confirm :
    (releaseWaiting ns s).gate.confirm = s.gate.confirm := by
  induction ns generalizing s with | nil => rfl | cons n ns ih => unfold releaseWaiting; split <;> simp [ih]
@[simp] theorem releaseWaiting_gate_exercise :
    (releaseWaiting ns s).gate.exercise = s.gate.exercise := by
  induction ns generalizing s with | nil => rfl | cons n ns ih => unfold releaseWaiting; split <;> simp [ih]
@[simp] theorem releaseWaiting_cancel_record :
    (releaseWaiting ns s).cancel.record = s.cancel.record := by
  induction ns generalizing s with | nil => rfl | cons n ns ih => unfold releaseWaiting; split <;> simp [ih]
@[simp] theorem releaseWaiting_cancel_slots :
    (releaseWaiting ns s).cancel.slots = s.cancel.slots := by
  induction ns generalizing s with | nil => rfl | cons n ns ih => unfold releaseWaiting; split <;> simp [ih]
@[simp] theorem releaseWaiting_cancel_active :
    (releaseWaiting ns s).cancel.active = s.cancel.active := by
  induction ns generalizing s with | nil => rfl | cons n ns ih => unfold releaseWaiting; split <;> simp [ih]
@[simp] theorem releaseWaiting_stacker :
    (releaseWaiting ns s).stacker = s.stacker := by
  induction ns generalizing s with | nil => rfl | cons n ns ih => unfold releaseWaiting; split <;> simp [ih]
@[simp] theorem releaseWaiting_tally_baseOcc :
    (releaseWaiting ns s).tally.baseOcc = s.tally.baseOcc := by
  induction ns generalizing s with | nil => rfl | cons n ns ih => unfold releaseWaiting; split <;> simp [ih]
@[simp] theorem releaseWaiting_tally_held :
    (releaseWaiting ns s).tally.held = s.tally.held := by
  induction ns generalizing s with | nil => rfl | cons n ns ih => unfold releaseWaiting; split <;> simp [ih]
@[simp] theorem releaseWaiting_tally_nextSnapshot :
    (releaseWaiting ns s).tally.nextSnapshot = s.tally.nextSnapshot := by
  induction ns generalizing s with | nil => rfl | cons n ns ih => unfold releaseWaiting; split <;> simp [ih]
@[simp] theorem releaseWaiting_run : (releaseWaiting ns s).run = s.run := by
  induction ns generalizing s with | nil => rfl | cons n ns ih => unfold releaseWaiting; split <;> simp [ih]
@[simp] theorem releaseWaiting_link_rate :
    (releaseWaiting ns s).link.rate = s.link.rate := by
  induction ns generalizing s with | nil => rfl | cons n ns ih => unfold releaseWaiting; split <;> simp [ih]
@[simp] theorem releaseWaiting_link_receiver :
    (releaseWaiting ns s).link.receiver = s.link.receiver := by
  induction ns generalizing s with | nil => rfl | cons n ns ih => unfold releaseWaiting; split <;> simp [ih]
@[simp] theorem releaseWaiting_link_inbound :
    (releaseWaiting ns s).link.inbound = s.link.inbound := by
  induction ns generalizing s with | nil => rfl | cons n ns ih => unfold releaseWaiting; split <;> simp [ih]
@[simp] theorem releaseWaiting_link_oversize :
    (releaseWaiting ns s).link.oversize = s.link.oversize := by
  induction ns generalizing s with | nil => rfl | cons n ns ih => unfold releaseWaiting; split <;> simp [ih]
@[simp] theorem releaseWaiting_link_bad :
    (releaseWaiting ns s).link.bad = s.link.bad := by
  induction ns generalizing s with | nil => rfl | cons n ns ih => unfold releaseWaiting; split <;> simp [ih]
@[simp] theorem releaseWaiting_link_broken :
    (releaseWaiting ns s).link.broken = s.link.broken := by
  induction ns generalizing s with | nil => rfl | cons n ns ih => unfold releaseWaiting; split <;> simp [ih]
@[simp] theorem releaseWaiting_link_dropped :
    (releaseWaiting ns s).link.dropped = s.link.dropped := by
  induction ns generalizing s with | nil => rfl | cons n ns ih => unfold releaseWaiting; split <;> simp [ih]
@[simp] theorem releaseWaiting_link_letterEnable :
    (releaseWaiting ns s).link.letterEnable = s.link.letterEnable := by
  induction ns generalizing s with | nil => rfl | cons n ns ih => unfold releaseWaiting; split <;> simp [ih]
@[simp] theorem releaseWaiting_link_traceEnable :
    (releaseWaiting ns s).link.traceEnable = s.link.traceEnable := by
  induction ns generalizing s with | nil => rfl | cons n ns ih => unfold releaseWaiting; split <;> simp [ih]
@[simp] theorem releaseWaiting_link_reset :
    (releaseWaiting ns s).link.reset = s.link.reset := by
  induction ns generalizing s with | nil => rfl | cons n ns ih => unfold releaseWaiting; split <;> simp [ih]
@[simp] theorem releaseWaiting_link_line :
    (releaseWaiting ns s).link.line = s.link.line := by
  induction ns generalizing s with | nil => rfl | cons n ns ih => unfold releaseWaiting; split <;> simp [ih]
@[simp] theorem releaseWaiting_pending :
    (releaseWaiting ns s).pending = s.pending := by
  induction ns generalizing s with | nil => rfl | cons n ns ih => unfold releaseWaiting; split <;> simp [ih]

end releaseWaitingFields

theorem releaseWaiting_undecided (ns : List U16) (s : State) :
    (releaseWaiting ns s).tracker.table.map Ticket.undecided = s.tracker.table.map Ticket.undecided := by
  induction ns generalizing s with
  | nil => rfl
  | cons n ns ih =>
    unfold releaseWaiting
    split
    · exact ih s
    · rw [ih, decideNumber_undecided]
      rfl

section decisionPointFields
variable (n : U16) (s : State)

@[simp] theorem decisionPoint_pins :
    (decisionPoint n s).pins = s.pins := by unfold decisionPoint; split <;> simp
@[simp] theorem decisionPoint_uptime :
    (decisionPoint n s).uptime = s.uptime := by unfold decisionPoint; split <;> simp
@[simp] theorem decisionPoint_tracker_belt :
    (decisionPoint n s).tracker.belt = s.tracker.belt := by unfold decisionPoint; split <;> simp
@[simp] theorem decisionPoint_tracker_filters :
    (decisionPoint n s).tracker.filters = s.tracker.filters := by unfold decisionPoint; split <;> simp
@[simp] theorem decisionPoint_tracker_edges :
    (decisionPoint n s).tracker.edges = s.tracker.edges := by unfold decisionPoint; split <;> simp
@[simp] theorem decisionPoint_tracker_geometry :
    (decisionPoint n s).tracker.geometry = s.tracker.geometry := by unfold decisionPoint; split <;> simp
@[simp] theorem decisionPoint_tracker_nextTicket :
    (decisionPoint n s).tracker.nextTicket = s.tracker.nextTicket := by unfold decisionPoint; split <;> simp
@[simp] theorem decisionPoint_tracker_prevTrail :
    (decisionPoint n s).tracker.prevTrail = s.tracker.prevTrail := by unfold decisionPoint; split <;> simp
@[simp] theorem decisionPoint_tracker_firstTicket :
    (decisionPoint n s).tracker.firstTicket = s.tracker.firstTicket := by unfold decisionPoint; split <;> simp
@[simp] theorem decisionPoint_tracker_throttle :
    (decisionPoint n s).tracker.throttle = s.tracker.throttle := by unfold decisionPoint; split <;> simp
@[simp] theorem decisionPoint_tracker_sincePulse :
    (decisionPoint n s).tracker.sincePulse = s.tracker.sincePulse := by unfold decisionPoint; split <;> simp
@[simp] theorem decisionPoint_tracker_stallRaised :
    (decisionPoint n s).tracker.stallRaised = s.tracker.stallRaised := by unfold decisionPoint; split <;> simp
@[simp] theorem decisionPoint_channels :
    (decisionPoint n s).channels = s.channels := by unfold decisionPoint; split <;> simp
@[simp] theorem decisionPoint_lamps :
    (decisionPoint n s).lamps = s.lamps := by unfold decisionPoint; split <;> simp
@[simp] theorem decisionPoint_facing_record :
    (decisionPoint n s).facing.record = s.facing.record := by unfold decisionPoint; split <;> simp
@[simp] theorem decisionPoint_gate_output :
    (decisionPoint n s).gate.output = s.gate.output := by unfold decisionPoint; split <;> simp
@[simp] theorem decisionPoint_gate_confirm :
    (decisionPoint n s).gate.confirm = s.gate.confirm := by unfold decisionPoint; split <;> simp
@[simp] theorem decisionPoint_gate_exercise :
    (decisionPoint n s).gate.exercise = s.gate.exercise := by unfold decisionPoint; split <;> simp
@[simp] theorem decisionPoint_cancel_record :
    (decisionPoint n s).cancel.record = s.cancel.record := by unfold decisionPoint; split <;> simp
@[simp] theorem decisionPoint_cancel_slots :
    (decisionPoint n s).cancel.slots = s.cancel.slots := by unfold decisionPoint; split <;> simp
@[simp] theorem decisionPoint_cancel_active :
    (decisionPoint n s).cancel.active = s.cancel.active := by unfold decisionPoint; split <;> simp
@[simp] theorem decisionPoint_stacker :
    (decisionPoint n s).stacker = s.stacker := by unfold decisionPoint; split <;> simp
@[simp] theorem decisionPoint_tally_baseOcc :
    (decisionPoint n s).tally.baseOcc = s.tally.baseOcc := by unfold decisionPoint; split <;> simp
@[simp] theorem decisionPoint_tally_held :
    (decisionPoint n s).tally.held = s.tally.held := by unfold decisionPoint; split <;> simp
@[simp] theorem decisionPoint_tally_nextSnapshot :
    (decisionPoint n s).tally.nextSnapshot = s.tally.nextSnapshot := by unfold decisionPoint; split <;> simp
@[simp] theorem decisionPoint_run : (decisionPoint n s).run = s.run := by unfold decisionPoint; split <;> simp
@[simp] theorem decisionPoint_link_rate :
    (decisionPoint n s).link.rate = s.link.rate := by unfold decisionPoint; split <;> simp
@[simp] theorem decisionPoint_link_receiver :
    (decisionPoint n s).link.receiver = s.link.receiver := by unfold decisionPoint; split <;> simp
@[simp] theorem decisionPoint_link_inbound :
    (decisionPoint n s).link.inbound = s.link.inbound := by unfold decisionPoint; split <;> simp
@[simp] theorem decisionPoint_link_oversize :
    (decisionPoint n s).link.oversize = s.link.oversize := by unfold decisionPoint; split <;> simp
@[simp] theorem decisionPoint_link_bad :
    (decisionPoint n s).link.bad = s.link.bad := by unfold decisionPoint; split <;> simp
@[simp] theorem decisionPoint_link_broken :
    (decisionPoint n s).link.broken = s.link.broken := by unfold decisionPoint; split <;> simp
@[simp] theorem decisionPoint_link_dropped :
    (decisionPoint n s).link.dropped = s.link.dropped := by unfold decisionPoint; split <;> simp
@[simp] theorem decisionPoint_link_letterEnable :
    (decisionPoint n s).link.letterEnable = s.link.letterEnable := by unfold decisionPoint; split <;> simp
@[simp] theorem decisionPoint_link_traceEnable :
    (decisionPoint n s).link.traceEnable = s.link.traceEnable := by unfold decisionPoint; split <;> simp
@[simp] theorem decisionPoint_link_reset :
    (decisionPoint n s).link.reset = s.link.reset := by unfold decisionPoint; split <;> simp
@[simp] theorem decisionPoint_link_line :
    (decisionPoint n s).link.line = s.link.line := by unfold decisionPoint; split <;> simp
@[simp] theorem decisionPoint_pending :
    (decisionPoint n s).pending = s.pending := by unfold decisionPoint; split <;> simp

end decisionPointFields

/-- A decision point changes nothing of a ticket but what a decision writes. -/
theorem decisionPoint_undecided (n : U16) (s : State) :
    (decisionPoint n s).tracker.table.map Ticket.undecided = s.tracker.table.map Ticket.undecided := by
  unfold decisionPoint
  split
  · rfl
  · rw [releaseWaiting_undecided, decideNumber_undecided]

/-- So the numbers of the table's tickets stand, in order. -/
theorem decisionPoint_numbers (n : U16) (s : State) :
    (decisionPoint n s).tracker.table.map Ticket.number = s.tracker.table.map Ticket.number := by
  have h := congrArg (List.map Ticket.number) (decisionPoint_undecided n s)
  rw [List.map_map, List.map_map] at h
  exact h

end Sys2Proof.Machine
end

