-- ==== Sys2Proof/Laws/Receiver.lean ====
section
/-! SUPPORT. The receiver (R168 to R170) hearing bytes one after another: what it finds in bytes taken together is
what it finds in them one by one. -/

namespace Sys2Proof.Laws

open Sys2Proof.Machine Sys2Proof.Safety

/-! ### Candidates and the hunt -/

/-- What a candidate has become no later byte changes (R168). -/
theorem candidate_append (bs : List Byte) (b : Byte) (h : candidate bs ≠ .incomplete) :
    candidate (bs ++ [b]) = candidate bs := by
  match bs, h with
  | [], h => exact absurd rfl h
  | [_], h => exact absurd rfl h
  | hi :: lo :: rest, h =>
    simp only [List.cons_append, candidate] at h ⊢
    split
    · rfl
    · rename_i hl
      rw [if_neg hl] at h
      have hr : ¬ rest.length < beNat [hi, lo] + 2 := fun hs => h (if_pos hs)
      have ht : ((rest ++ [b]).drop (beNat [hi, lo])).take 2 = (rest.drop (beNat [hi, lo])).take 2 := by
        rw [List.drop_append_of_le_length (by omega), List.take_append_of_le_length (by simp; omega)]
      rw [if_neg hr, if_neg (by simp; omega), List.take_append_of_le_length (by omega), ht]

/-- A valid candidate's frame stands wholly in the bytes held. -/
theorem candidate_size {bs : List Byte} {f : InFrame} {n : Nat} (h : candidate bs = .valid f n) : n ≤ bs.length := by
  match bs, h with
  | hi :: lo :: rest, h =>
    simp only [candidate] at h
    split at h <;> try cases h
    split at h <;> try cases h
    split at h <;> try cases h
    split at h <;> cases h
    simp only [List.length_cons]
    omega

/-- The hunt over bytes and one more (R168): what it finds in the bytes, and then in those still held, the candidate's
SYNC before them, with the new byte. -/
theorem hunt_append (bs : List Byte) (skip : Nat) (b : Byte) (h : skip ≤ bs.length) :
    hunt skip (bs ++ [b]) = ((hunt skip bs).1 ++ (hunt 0 (bytesToHunt (receiverOf (hunt skip bs).2) b)).1,
      (hunt 0 (bytesToHunt (receiverOf (hunt skip bs).2) b)).2) := by
  induction bs generalizing skip with
  | nil => cases Nat.le_zero.mp h; rfl
  | cons a bs ih =>
    cases skip with
    | succ n => exact ih n (Nat.le_of_succ_le_succ h)
    | zero =>
      by_cases ha : a = Config.sync
      · cases hc : candidate bs with
        | incomplete => simp [hunt, ha, hc, receiverOf, bytesToHunt]
        | oversize => simp [hunt, ha, hc, candidate_append bs b (by simp [hc]), ih 0]
        | bad => simp [hunt, ha, hc, candidate_append bs b (by simp [hc]), ih 0]
        | valid f n =>
          simp [hunt, ha, hc, candidate_append bs b (by simp [hc]), ih n (candidate_size hc)]
      · simp only [List.cons_append, hunt, if_neg ha, ih 0 (Nat.zero_le _)]

/-! ### Hearing bytes -/

/-- What the receiver finds never touches the bytes it holds (R168 to R170). -/
theorem foldl_hear_receiver (hs : List Heard) (r : Receiver) (s : State) :
    hs.foldl hear { s with link := { s.link with receiver := r } } =
      { hs.foldl hear s with link := { (hs.foldl hear s).link with receiver := r } } := by
  induction hs generalizing s with
  | nil => rfl
  | cons h hs ih =>
    have hh : hear { s with link := { s.link with receiver := r } } h =
        { hear s h with link := { (hear s h).link with receiver := r } } := by
      cases h with
      | oversize => rfl
      | bad => rfl
      | frame f =>
        by_cases hi : s.link.inbound.length < Config.inboundSize <;>
          simp only [hear, validFrame, restartLinkTimer, if_pos, if_neg, hi, not_false_eq_true]
    rw [List.foldl_cons, hh, ih, List.foldl_cons]

/-- Bytes a hunting receiver hears one after another are the bytes it hunts through together. -/
theorem hearBytes_hunting (bs : List Byte) (s : State) (h : s.link.receiver = .hunting) :
    hearBytes bs s = .next { (hunt 0 bs).1.foldl hear s with
      link := { ((hunt 0 bs).1.foldl hear s).link with receiver := receiverOf (hunt 0 bs).2 } } := by
  suffices hg : ∀ (later seen : List Byte) (w : State), w = { (hunt 0 seen).1.foldl hear s with
      link := { ((hunt 0 seen).1.foldl hear s).link with receiver := receiverOf (hunt 0 seen).2 } } →
      hearBytes later w = .next { (hunt 0 (seen ++ later)).1.foldl hear s with
        link := { ((hunt 0 (seen ++ later)).1.foldl hear s).link with
          receiver := receiverOf (hunt 0 (seen ++ later)).2 } } by
    exact hg bs [] s (by simp [hunt, receiverOf, ← h])
  intro later
  induction later with
  | nil => intro seen w hw; simp [hearBytes, hw]
  | cons b later ih =>
    intro seen w hw
    simp only [hearBytes, exec, execByteReceived]
    rw [ih (seen ++ [b]) _ ?_, List.append_assoc, List.singleton_append]
    rw [hunt_append seen 0 b (Nat.zero_le _), hw]
    simp only [byteStep, foldl_hear_receiver, List.foldl_append]

end Sys2Proof.Laws
end

