-- ==== Sys2Proof/Laws/Requests.lean ====
section
/-! SUPPORT. Requests: what taking and answering a frame comes to (R171, R172), and that the reader of each
kind of field reads back what its writer lays out (R181). -/

namespace Sys2Proof.Machine

open Sys2Proof.Safety

/-! ### Taking and answering -/

/-- A request command takes the oldest frame when the link can take one and the frame is this row's (R171). -/
theorem takeRequest_taken {c : Instr} {s : State} {f : InFrame} {rest : List InFrame}
    {k : InFrame → State → State} (h : CanTake s f rest) (hc : requestOf f = c) :
    takeRequest c s k = k f (took rest s) := by
  obtain ⟨h1, h2, h3⟩ := h
  simp [takeRequest, nextRequest, h1, h2, h3, hc, took]

/-- A request command leaves the state as it is when the link takes no request (R171). -/
theorem takeRequest_waits {c : Instr} {s : State} {k : InFrame → State → State}
    (h : s.link.inbound = [] ∨ 4 ≤ slotsHeld s ∨ s.link.reset ≠ .none) : takeRequest c s k = s := by
  unfold takeRequest nextRequest
  rcases h with h | h | h
  · simp [h]
  · simp [Config.replySlots, Nat.not_lt.mpr h]
  · simp [h]

/-- A request command leaves the state as it is when the oldest frame is another row's (log 2). -/
theorem takeRequest_other {c : Instr} {s : State} {f : InFrame} {rest : List InFrame}
    {k : InFrame → State → State} (h : s.link.inbound = f :: rest) (hc : requestOf f ≠ c) :
    takeRequest c s k = s := by
  unfold takeRequest nextRequest
  simp only [h, List.head?_cons, Option.map_some]
  split <;> simp [hc]

theorem answer_ok {α : Type} (f : InFrame) (v : α) (k : α → State → State) (s : State) :
    answer f (.ok v) k s = k v s := rfl

theorem answer_error {α : Type} (f : InFrame) (r : Reason) (k : α → State → State) (s : State) :
    answer f (.error r) k s = refuse f r s := rfl

theorem okAfter_eq (f : InFrame) (bs : List Byte) (s : State) :
    okAfter f bs s = .next (reply f (.ok bs) s) := rfl

theorem refusedAfter_eq (f : InFrame) (r : Reason) (rest : List InFrame) (s : State) :
    refusedAfter f r rest s = .next (refuse f r (took rest s)) := rfl

section tookFields
variable (rest : List InFrame) (s : State)

@[simp] theorem took_pins : (took rest s).pins = s.pins := rfl
@[simp] theorem took_uptime : (took rest s).uptime = s.uptime := rfl
@[simp] theorem took_tracker : (took rest s).tracker = s.tracker := rfl
@[simp] theorem took_channels : (took rest s).channels = s.channels := rfl
@[simp] theorem took_lamps : (took rest s).lamps = s.lamps := rfl
@[simp] theorem took_facing : (took rest s).facing = s.facing := rfl
@[simp] theorem took_gate : (took rest s).gate = s.gate := rfl
@[simp] theorem took_cancel : (took rest s).cancel = s.cancel := rfl
@[simp] theorem took_stacker : (took rest s).stacker = s.stacker := rfl
@[simp] theorem took_tally : (took rest s).tally = s.tally := rfl
@[simp] theorem took_run : (took rest s).run = s.run := rfl
@[simp] theorem took_cal : (took rest s).cal = s.cal := rfl
@[simp] theorem took_trace : (took rest s).trace = s.trace := rfl
@[simp] theorem took_pending : (took rest s).pending = s.pending := rfl
@[simp] theorem took_link_rate : (took rest s).link.rate = s.link.rate := rfl
@[simp] theorem took_link_receiver : (took rest s).link.receiver = s.link.receiver := rfl
@[simp] theorem took_link_outbound : (took rest s).link.outbound = s.link.outbound := rfl
@[simp] theorem took_link_oversize : (took rest s).link.oversize = s.link.oversize := rfl
@[simp] theorem took_link_bad : (took rest s).link.bad = s.link.bad := rfl
@[simp] theorem took_link_broken : (took rest s).link.broken = s.link.broken := rfl
@[simp] theorem took_link_dropped : (took rest s).link.dropped = s.link.dropped := rfl
@[simp] theorem took_link_reportsLost : (took rest s).link.reportsLost = s.link.reportsLost := rfl
@[simp] theorem took_link_tracesLost : (took rest s).link.tracesLost = s.link.tracesLost := rfl
@[simp] theorem took_link_eventsLost : (took rest s).link.eventsLost = s.link.eventsLost := rfl
@[simp] theorem took_link_letterEnable : (took rest s).link.letterEnable = s.link.letterEnable := rfl
@[simp] theorem took_link_traceEnable : (took rest s).link.traceEnable = s.link.traceEnable := rfl
@[simp] theorem took_link_reset : (took rest s).link.reset = s.link.reset := rfl
@[simp] theorem took_link_line : (took rest s).link.line = s.link.line := rfl
@[simp] theorem took_link_inbound : (took rest s).link.inbound = rest := rfl
@[simp] theorem took_leadingCause : leadingCause (took rest s) = leadingCause s := rfl
@[simp] theorem took_requestPresent (c : Cause) : requestPresent (took rest s) c = requestPresent s c := rfl
@[simp] theorem took_occupancy : occupancy (took rest s) = occupancy s := rfl

end tookFields

/-! ### Fields -/

theorem u8_eq (n : Nat) : u8 n = [BitVec.ofNat 8 n] := rfl

@[simp] theorem beNat_u8 {n : Nat} (h : n < 256) : beNat (u8 n) = n := by
  simp [beNat, u8]; omega

@[simp] theorem beNat_u16 {n : Nat} (h : n < 65536) : beNat (u16 n) = n := by
  simp [beNat, u16]; omega

@[simp] theorem beNat_u32 {n : Nat} (h : n < 4294967296) : beNat (u32 n) = n := by
  simp [beNat, u32]; omega

@[simp] theorem takeFields_nil : takeFields [] [] = some [] := rfl

theorem takeFields_u8 (ws : List Nat) {n : Nat} (bs : List Byte) (h : n < 256) :
    takeFields (1 :: ws) (u8 n ++ bs) = (takeFields ws bs).map (n :: ·) := by
  have := beNat_u8 h
  simp only [u8] at this
  simp [takeFields, u8, this]

theorem takeFields_u16 (ws : List Nat) {n : Nat} (bs : List Byte) (h : n < 65536) :
    takeFields (2 :: ws) (u16 n ++ bs) = (takeFields ws bs).map (n :: ·) := by
  have := beNat_u16 h
  simp only [u16] at this
  simp [takeFields, u16, this]

theorem takeFields_u32 (ws : List Nat) {n : Nat} (bs : List Byte) (h : n < 4294967296) :
    takeFields (4 :: ws) (u32 n ++ bs) = (takeFields ws bs).map (n :: ·) := by
  have := beNat_u32 h
  simp only [u32] at this
  simp [takeFields, u32, this]

/-- A payload whose length is not the sum of its fields' widths gives no fields (R172, R181). -/
theorem takeFields_none {ws : List Nat} {p : List Byte} (h : p.length ≠ ws.sum) : takeFields ws p = none := by
  induction ws generalizing p with
  | nil => cases p with
    | nil => simp at h
    | cons => rfl
  | cons w ws ih =>
    simp only [List.sum_cons] at h
    unfold takeFields
    split
    · rfl
    · rename_i hw
      rw [ih (by simp only [List.length_drop]; omega)]
      rfl

/-- Every field in its range: none is reported (R172). -/
theorem firstBad_none {n : Nat} {fields : List (Nat × Nat × Nat)} (h : ∀ z ∈ fields, z.2.1 ≤ z.1 ∧ z.1 ≤ z.2.2) :
    firstBad n fields = none := by
  induction fields generalizing n with
  | nil => rfl
  | cons x fields ih =>
    rw [firstBad, if_pos (h x (by simp))]
    exact ih fun z hz => h z (by simp [hz])

/-- The first field out of its range is the one reported, by its place (R172). -/
theorem firstBad_first {n : Nat} {before behind : List (Nat × Nat × Nat)} {x : Nat × Nat × Nat}
    (hb : ∀ z ∈ before, z.2.1 ≤ z.1 ∧ z.1 ≤ z.2.2) (hx : ¬(x.2.1 ≤ x.1 ∧ x.1 ≤ x.2.2)) :
    firstBad n (before ++ x :: behind) = some (n + before.length) := by
  induction before generalizing n with
  | nil => rw [List.nil_append, firstBad, if_neg hx]; rfl
  | cons y before ih =>
    rw [List.cons_append, firstBad, if_pos (hb y (by simp)), ih fun z hz => hb z (by simp [hz])]
    simp only [List.length_cons, Option.some.injEq]
    omega

/-- The reader of one byte answers a byte in its range and refuses any other (R172). -/
theorem readByte_one (lo hi : Nat) (b : Byte) :
    readByte lo hi [b] =
      if lo ≤ b.toNat ∧ b.toNat ≤ hi then .ok b.toNat else .error (.badValue 1) := by
  by_cases h : lo ≤ b.toNat ∧ b.toNat ≤ hi <;> simp [readByte, takeFields, beNat, checked, firstBad, h]

/-- The reader of one byte refuses a payload of another length (R172). -/
theorem readByte_length {lo hi : Nat} {p : List Byte} (h : p.length ≠ 1) :
    readByte lo hi p = .error .badLength := by
  match p with
  | [] => rfl
  | [_] => simp at h
  | _ :: _ :: _ => simp [readByte, takeFields]

/-! ### Indices -/

@[simp] theorem channelOf_channelNumber (c : Channel) : channelOf (channelNumber c) = c := by cases c <;> rfl
@[simp] theorem binOf_binNumber (b : Bin) : binOf (binNumber b) = b := by cases b <;> rfl
@[simp] theorem flapOf_flapNumber (x : Flap) : flapOf (flapNumber x) = x := by cases x <;> rfl
@[simp] theorem slotOf_slotNumber (p : Slot) : slotOf (slotNumber p) = some p := by cases p <;> rfl
@[simp] theorem causeOf_causeNumber (c : Cause) : causeOf (causeNumber c) = c := by cases c <;> rfl
@[simp] theorem outcomeOf_outcomeNumber (o : LetterOutcome) : outcomeOf (outcomeNumber o) = o := by
  cases o <;> rfl
@[simp] theorem binModeOf_binModeNumber (m : BinMode) : binModeOf (binModeNumber m) = m := by cases m <;> rfl
@[simp] theorem lampModeOf_lampModeNumber (m : LampMode) : lampModeOf (lampModeNumber m) = m := by
  cases m <;> rfl

theorem channelNumber_lt (c : Channel) : channelNumber c ≤ 3 := by cases c <;> decide
theorem binNumber_range (b : Bin) : 1 ≤ binNumber b ∧ binNumber b ≤ 6 := by cases b <;> decide
theorem flapNumber_range (x : Flap) : 1 ≤ flapNumber x ∧ flapNumber x ≤ 5 := by cases x <;> decide
theorem slotNumber_range (p : Slot) : 1 ≤ slotNumber p ∧ slotNumber p ≤ 4 := by cases p <;> decide
theorem causeNumber_range (c : Cause) : 1 ≤ causeNumber c ∧ causeNumber c ≤ 8 := by cases c <;> decide
theorem outcomeNumber_range (o : LetterOutcome) : 1 ≤ outcomeNumber o ∧ outcomeNumber o ≤ 12 := by
  cases o <;> decide
theorem binModeNumber_lt (m : BinMode) : binModeNumber m ≤ 1 := by cases m <;> decide
theorem lampModeNumber_lt (m : LampMode) : lampModeNumber m ≤ 2 := by cases m <;> decide

end Sys2Proof.Machine
end

