-- ==== Sys2Proof/Laws/Tickets.lean ====
section
/-! SUPPORT. Lemmas about finding one edge, one ticket or one span among several, about the end of a mark, the
cancel mark of a verdict, the flaps' planned states and the queues a plan and a route change join, about the number
of shared slots a notice can take, and about the beacon after it is judged. -/

namespace Sys2Proof.Machine

open Sys2Proof.Safety

/-! ### Accepted edges (R3) -/

/-- The oldest edge of a cell and kind is found, and removing it leaves the others in order. -/
theorem oldestEdge_found {s : State} {before behind : List Edge} {e : Edge}
    (h : OldestEdge s before e behind) :
    s.tracker.edges.find? (isEdge e.cell e.leading) = some e ∧
      s.tracker.edges.eraseP (isEdge e.cell e.leading) = before ++ behind := by
  obtain ⟨h1, h2⟩ := h
  rw [h1]
  have hn : ∀ x ∈ before, isEdge e.cell e.leading x = false := fun x hx => by
    simpa [isEdge] using h2 x hx
  constructor
  · rw [List.find?_append, List.find?_eq_none.mpr (by intro x hx; simp [hn x hx])]
    simp [isEdge]
  · rw [List.eraseP_append_right _ (by intro x hx; simp [hn x hx])]
    simp [isEdge]

/-- An edge step takes the oldest edge of its cell and kind and goes on without it. -/
theorem takeEdge_oldest {s : State} {before behind : List Edge} {c : Cell} {l : Bool} {p : Pos}
    (h : OldestEdge s before ⟨c, l, p⟩ behind) (k : Pos → State → State) :
    takeEdge c l s k = k p (withEdges (before ++ behind) s) := by
  obtain ⟨h1, h2⟩ := oldestEdge_found h
  simp only at h1 h2
  simp only [takeEdge, h1, h2]
  rfl

/-! ### Tickets by number (R7) -/

/-- In a table of different numbers, a change by number changes that one ticket. -/
theorem map_number {older younger : List Ticket} {y : Ticket} (f : Ticket → Ticket)
    (hn : ((older ++ y :: younger).map Ticket.number).Nodup) :
    (older ++ y :: younger).map (fun t => if t.number = y.number then f t else t) =
      older ++ f y :: younger := by
  simp only [List.map_append, List.map_cons, List.nodup_append, List.nodup_cons] at hn
  obtain ⟨-, ⟨h2, -⟩, h4⟩ := hn
  simp only [List.map_append, List.map_cons, if_true]
  congr 1
  · conv_rhs => rw [← List.map_id older]
    exact List.map_congr_left fun x hx =>
      if_neg (h4 x.number (List.mem_map_of_mem hx) y.number (by simp))
  · congr 1
    conv_rhs => rw [← List.map_id younger]
    exact List.map_congr_left fun x hx => if_neg fun (he : x.number = y.number) => h2 (he ▸ List.mem_map_of_mem hx)

/-- In a table of different numbers, a ticket is found by its number. -/
theorem ticketOf_number {older younger : List Ticket} {y : Ticket} {s : State}
    (ht : s.tracker.table = older ++ y :: younger) (hn : NumbersDiffer s) :
    ticketOf s y.number = some y := by
  unfold NumbersDiffer at hn
  rw [ht] at hn
  unfold ticketOf
  rw [ht, List.find?_append, List.find?_eq_none.mpr]
  · simp
  · intro x hx
    simp only [List.map_append, List.map_cons, List.nodup_append] at hn
    simpa using hn.2.2 x.number (List.mem_map_of_mem hx) y.number (by simp)

/-- In a table of different numbers, a ticket's elders are those before it (R52). -/
theorem elderUndecided_number {older younger : List Ticket} {y : Ticket} {s : State}
    (ht : s.tracker.table = older ++ y :: younger) (hn : NumbersDiffer s) :
    elderUndecided s y.number = older.any fun t => decide (t.state ≠ .decided) := by
  unfold NumbersDiffer at hn
  rw [ht] at hn
  unfold elderUndecided
  rw [ht]
  congr 1
  have h : ∀ x ∈ older, (x.number != y.number) = true := by
    intro x hx
    simp only [List.map_append, List.map_cons, List.nodup_append] at hn
    simpa using hn.2.2 x.number (List.mem_map_of_mem hx) y.number (by simp)
  rw [List.takeWhile_append_of_pos h]
  simp

/-- A change by number that keeps numbers keeps the table's numbers. -/
theorem setTicket_numbers (n : U16) (f : Ticket → Ticket) (s : State)
    (hf : ∀ t, (f t).number = t.number) :
    (setTicket n f s).tracker.table.map Ticket.number = s.tracker.table.map Ticket.number := by
  simp only [setTicket_tracker_table, List.map_map]
  exact List.map_congr_left fun x _ => by simp only [Function.comp]; split <;> simp [hf]

/-! ### Spans (R33) -/

/-- The span whose window is complete is the first with eight samples. -/
theorem readySpan_first {before : List Span} {sp : Span} {behind : List Span}
    (h1 : ∀ x ∈ before, x.samples.length < 8) (h2 : 8 ≤ sp.samples.length) :
    readySpan (before ++ sp :: behind) = some (before, sp, behind) := by
  induction before with
  | nil => simp [readySpan, Config.windowSteps, h2]
  | cons a l ih =>
    simp only [List.cons_append, readySpan]
    rw [if_neg (by have := h1 a (by simp); simp [Config.windowSteps]; omega),
      ih (fun x hx => h1 x (by simp [hx]))]
    rfl

/-- The last window of a class is the one that no window of the class follows (R44). -/
theorem lastOf_split {c : WinClass} {before behind : List Window} {w : Window} (hw : w.cls = c)
    (hb : ∀ x ∈ behind, x.cls ≠ c) : lastOf c (before ++ w :: behind) = before.length + 1 := by
  have : (before ++ w :: behind).reverse.findIdx (fun x => decide (x.cls = c)) = behind.length := by
    rw [List.reverse_append, List.reverse_cons, List.append_assoc, List.findIdx_append, if_neg]
    · simp [List.findIdx_cons, hw]
    · intro hl
      obtain ⟨x, h1, h2⟩ := List.findIdx_lt_length.mp hl
      exact hb x (by simpa using h1) (by simpa using h2)
  simp only [lastOf, this, List.length_append, List.length_cons]
  omega

/-! ### Plans and routes (R60, R92, R108, R116) -/

/-- A chosen mark is the one chosen before, or one of the list. -/
theorem foldl_higherMark_mem (l : List Mark) (a : Option Mark) (h : a ≠ none ∨ l ≠ []) :
    ∃ m, l.foldl higherMark a = some m ∧ (a = some m ∨ m ∈ l) := by
  induction l generalizing a with
  | nil =>
    cases a with
    | none => simp at h
    | some m => exact ⟨m, rfl, .inl rfl⟩
  | cons x l ih =>
    have hx : ∃ m, higherMark a x = some m ∧ (a = some m ∨ m = x) := by
      unfold higherMark
      split
      · exact ⟨x, rfl, .inr rfl⟩
      · split
        · exact ⟨x, rfl, .inr rfl⟩
        · exact ⟨_, rfl, .inl rfl⟩
    obtain ⟨m, h1, h2⟩ := hx
    obtain ⟨k, k1, k2⟩ := ih (higherMark a x) (.inl (by simp [h1]))
    refine ⟨k, k1, ?_⟩
    rcases k2 with k2 | k2
    · rw [h1] at k2
      cases k2
      exact h2.imp id fun e => by simp [e]
    · exact .inr (by simp [k2])

/-- The mark chosen after another is that one, where none of the list scores higher, or the first of the highest
scores of the list (R60). -/
theorem foldl_higherMark_after (l : List Mark) (a : Mark) : ∃ m, l.foldl higherMark (some a) = some m ∧
    ((m = a ∧ ∀ x ∈ l, x.score ≤ a.score) ∨ ∃ before behind, l = before ++ m :: behind ∧ a.score < m.score ∧
      (∀ x ∈ before, x.score < m.score) ∧ ∀ x ∈ behind, x.score ≤ m.score) := by
  induction l generalizing a with
  | nil => exact ⟨a, rfl, .inl ⟨rfl, nofun⟩⟩
  | cons x l ih =>
    simp only [List.foldl_cons, higherMark]
    by_cases h : a.score < x.score
    · obtain ⟨m, h1, h2⟩ := ih x
      refine ⟨m, by rw [if_pos h, h1], .inr ?_⟩
      obtain ⟨rfl, h2⟩ | ⟨b, e, rfl, h4, h5, h6⟩ := h2
      · exact ⟨[], l, rfl, h, nofun, h2⟩
      · exact ⟨x :: b, e, rfl, by omega, List.forall_mem_cons.mpr ⟨h4, h5⟩, h6⟩
    · obtain ⟨m, h1, h2⟩ := ih a
      refine ⟨m, by rw [if_neg h, h1], ?_⟩
      obtain ⟨rfl, h2⟩ | ⟨b, e, rfl, h4, h5, h6⟩ := h2
      · exact .inl ⟨rfl, List.forall_mem_cons.mpr ⟨by omega, h2⟩⟩
      · exact .inr ⟨x :: b, e, rfl, h4, List.forall_mem_cons.mpr ⟨by omega, h5⟩, h6⟩

/-- The mark chosen of a list that is not empty is the first of its highest scores (R60). -/
theorem foldl_higherMark_splits (l : List Mark) (h : l ≠ []) : ∃ before m behind, l = before ++ m :: behind ∧
    l.foldl higherMark none = some m ∧ (∀ x ∈ before, x.score < m.score) ∧ ∀ x ∈ behind, x.score ≤ m.score := by
  obtain ⟨x, l, rfl⟩ := List.exists_cons_of_ne_nil h
  obtain ⟨m, h1, ⟨rfl, h2⟩ | ⟨b, e, rfl, h4, h5, h6⟩⟩ := foldl_higherMark_after l x
  · exact ⟨[], m, l, rfl, h1, nofun, h2⟩
  · exact ⟨x :: b, m, e, rfl, h1, List.forall_mem_cons.mpr ⟨h4, h5⟩, h6⟩

/-- A verdict with a head has a cancel mark, one of the ticket's marks (R59, R60). -/
theorem verdict_mark_mem (r : DecideRecord) (y : Ticket) (h : Head) (hv : (verdict r y).head = .on h) :
    ∃ m ∈ y.marks, (verdict r y).mark = some m := by
  unfold verdict at hv ⊢
  split at hv
  · cases hv
  rename_i h1
  split at hv
  · cases hv
  rename_i h2
  rw [if_neg h1, if_neg h2]
  unfold scoreVerdict at hv ⊢
  dsimp only at hv ⊢
  split at hv
  · split at hv <;> cases hv
  rename_i h3
  split at hv
  · rename_i h4
    rw [if_neg h3, if_pos h4]
    dsimp only
    generalize bestChannel (channelScore r.floor y.marks) = b at *
    have hne : (y.marks.filter fun m => decide (m.channel = b ∧ m.kind = .stamp)) ≠ [] := fun he => by
      refine h3 ?_
      have hc : y.marks.filter (counts r.floor b) = [] := by
        rw [List.filter_eq_nil_iff] at he ⊢
        intro a ha hc
        simp only [counts, decide_eq_true_eq] at hc
        exact he a ha (by simp [hc.1, hc.2.1])
      simp [channelScore, hc]
    obtain ⟨m, e1, e2⟩ := foldl_higherMark_mem _ none (.inr hne)
    exact ⟨m, (List.mem_filter.mp (e2.resolve_left nofun)).1, e1⟩
  · cases hv

/-- A strike entry stands behind the entries that start no later and before the first that starts later. -/
theorem insertStrike_splits (e : StrikeEntry) (q : List StrikeEntry) :
    ∃ ahead behind, q = ahead ++ behind ∧ insertStrike e q = ahead ++ e :: behind ∧
      (∀ x ∈ ahead, after x.start e.start = false) ∧ ∀ x ∈ behind.head?, after x.start e.start = true := by
  induction q with
  | nil => exact ⟨[], [], rfl, rfl, nofun, nofun⟩
  | cons x q ih =>
    by_cases h : after x.start e.start = true
    · exact ⟨[], x :: q, rfl, by simp [insertStrike, h], nofun, by simp [h]⟩
    · obtain ⟨a, b, h1, h2, h3, h4⟩ := ih
      refine ⟨x :: a, b, by simp [h1], by simp [insertStrike, h, h2], ?_, h4⟩
      intro z hz
      rcases List.mem_cons.mp hz with rfl | hz
      · simpa using h
      · exact h3 z hz

/-- The actions of a route change: those whose due is reached are made, in order, and the others queued. -/
theorem foldl_queueAction (l : List FlapAction) (s : State) :
    l.foldl (fun a x => queueAction x a) s = { s with stacker := { s.stacker with
      flaps := (l.filter fun a => reached s.tracker.belt a.due).foldl (fun f a => f.set a.flap a.opens)
        s.stacker.flaps
      queue := (l.filter fun a => !reached s.tracker.belt a.due).foldl (fun q a => insertAction a q)
        s.stacker.queue } } := by
  induction l generalizing s with
  | nil => rfl
  | cons a l ih =>
    rw [List.foldl_cons, ih]
    by_cases h : reached s.tracker.belt a.due = true <;> simp [queueAction, makeAction, h]

/-- A flap's planned state is that of its youngest action queued (R107). -/
theorem plannedFlap_queued {k : Stacker} {before behind : List FlapAction} {a : FlapAction}
    (hq : k.queue = before ++ a :: behind) (hb : ∀ z ∈ behind, z.flap ≠ a.flap) : plannedFlap k a.flap = a.opens := by
  have : behind.filter (fun z => decide (z.flap = a.flap)) = [] := by
    rw [List.filter_eq_nil_iff]
    exact fun z hz => by simpa using hb z hz
  simp [plannedFlap, hq, this]

/-- A flap without an action queued is planned as it stands (R107). -/
theorem plannedFlap_idle {k : Stacker} {x : Flap} (h : ∀ a ∈ k.queue, a.flap ≠ x) :
    plannedFlap k x = k.flaps.get x := by
  have : k.queue.filter (fun a => decide (a.flap = x)) = [] := by
    rw [List.filter_eq_nil_iff]
    exact fun z hz => by simpa using h z hz
  simp [plannedFlap, this]

/-! ### Notices and the beacon -/

/-- With a shared slot free, a notice handed over takes at most one, and what was queued stays (R174). -/
theorem handNotice_room (n : Notice) (s : State) (h : sharedUsed s.link < 60) :
    sharedUsed (handNotice n s).link ≤ sharedUsed s.link + 1 ∧
      ∀ x ∈ s.link.outbound, x ∈ (handNotice n s).link.outbound := by
  have hf : sharedFree s.link ≠ 0 := by simp [sharedFree, Config.sharedSlots]; omega
  have eq : sharedUsed (enqueue (.notice n) s).link = sharedUsed s.link + 1 := by simp [sharedUsed, isReply]
  have dr : ∀ m, sharedUsed (dropNotice m s).link ≤ sharedUsed s.link + 1 ∧
      ∀ x ∈ s.link.outbound, x ∈ (dropNotice m s).link.outbound := by
    intro m
    unfold dropNotice testLost
    split <;> simp [sharedUsed, isReply]
    intro x hx; exact .inl hx
  unfold handNotice
  split
  · split
    · exact ⟨by omega, fun x hx => hx⟩
    · exact ⟨by omega, by intro x hx; simp [hx]⟩
  · split
    · exact dr _
    · exact ⟨by omega, by intro x hx; simp [hx]⟩
  · rw [if_neg hf]; exact ⟨by omega, by intro x hx; simp [hx]⟩

/-- The beacon, once judged, follows the table of R151. -/
theorem judgeBeacon_follows (s : State) : BeaconFollows (judgeBeacon s) := by
  unfold BeaconFollows
  have e : flashWanted (judgeBeacon s) = flashWanted s := rfl
  simp only [judgeBeacon_run_beacon, judgeBeacon_run_state, e]
  unfold beaconAfter
  by_cases h : s.run.state = .stopped
  · simp [h]
  · simp only [h, if_false]
    cases hf : flashWanted s
    · simp [h]
    · cases s.run.beacon <;> simp

/-- Whether the beacon follows depends on run control alone. -/
theorem beaconFollows_of_run {s t : State} (h : t.run = s.run) (g : BeaconFollows s) : BeaconFollows t := by
  unfold BeaconFollows at *
  have e : flashWanted t = flashWanted s := by simp [flashWanted, feedHoldGroup, beltStopGroup, inGroup, h]
  rw [h, e]
  exact g

end Sys2Proof.Machine
end

