-- ==== Sys2Proof/WellFormed.lean ====
section
/-! DEFINITION. Well-formedness of commands. Every operand type of `Instr` has exactly the values the
spec gives the operand (a byte is 8 bits, a cell is one of four, a bin one of six), so an ill-formed
command cannot be written and there is no further check. What a request may hold wrongly lies in its
frame: R172 judges that when the request is taken, and the refusal is the request's effect. -/

namespace Sys2Proof

/-- Every command is well formed: its operand types admit the spec's values alone. -/
def Instr.wellFormed (_ : Instr) : Bool := true

end Sys2Proof
end

