-- ==== Sys2Proof/Tests/Slice0.lean ====
section
/-! SUPPORT. The model's own tests: the worked cases of the spec, one step each, and for every statement with
hypotheses a witness that meets them. Every expected value is the spec's, named in the test's comment, or is
worked by hand from the rule named there. -/

namespace Sys2Proof.Tests

open Sys2Proof.Machine Sys2Proof.Safety

/-! ### Helpers -/

/-- The state after one command, if the command answers a next state. -/
def after? (c : Instr) (s : State) : Option State :=
  match exec c s with
  | .next t => some t
  | _ => none

/-- The state after one step, if the step answers a next state. -/
def stepped? (s : State) : Option State :=
  match step s with
  | .next t => some t
  | _ => none

/-- The reset state with a frame in the inbound buffer and an empty outbound queue. -/
def asking (f : InFrame) : State :=
  { State.reset with link := { resetLink with inbound := [f], outbound := [] } }

/-- The reset state in RUNNING. -/
def rolling : State := { State.reset with run := { resetRun with state := .running } }

/-- Ticket 41 of the spec, scanned and not decided (02, worked case: one stamp through channel AU). -/
def ticket41 : Ticket := { blankTicket with
  number := 41, state := .scanning, lead := 1000000, trail := some 1000480, length := some 480, gap := some 100
  marks := [⟨.al, .stamp, 152, 24, 900, false, 310⟩, ⟨.au, .stamp, 360, 40, 3722, false, 810⟩] }

/-- Ticket 41 as committed (07, worked case: two reports). -/
def struck41 : Ticket := { ticket41 with
  state := .decided, seenG := true, seenM := true, seenK := true, cls := some .fa, required := some .straight
  head := some (.on .a), taken := some .straight, band := some ⟨288, 412, .before, 60, some .p1⟩
  strike := some .struck, outcome := some .facedA, secondary := true }

/-- The strike entry of ticket 41 (05, ticket 41's strike). -/
def entry41 : StrikeEntry := ⟨41, 1005088, 1005212, 1005160, some .p1, .before, 60⟩

/-- RUNNING with one ticket in the table, counted ENTERED. -/
def holding (t : Ticket) (belt : Pos) : State := { rolling with
  tracker := { resetTracker with belt := belt, table := [t], nextTicket := t.number + 1, firstTicket := false }
  tally := { resetTally with
    life := { zeroTallies with entered := 1 }, shift := { zeroTallies with entered := 1 } } }

/-- An accepted edge waiting for its step. -/
def edgeAt (c : Cell) (leading : Bool) (p : Pos) (s : State) : State :=
  { s with tracker := { s.tracker with edges := [⟨c, leading, p⟩] } }

/-- n samples of one value, neither clipped nor cold. -/
def samples (n f p : Nat) : List Sample := List.replicate n ⟨f, p, false, false⟩

/-- Windows of given classes with EA and EF 100 each. -/
def windows (cs : List WinClass) : List Window := cs.map fun c => ⟨0, 100, 100, 0, c, false, false⟩

/-- A pulse with every cell light and every raw pair equal. -/
def lightPulse (f p : Byte) : PulseInputs :=
  ⟨⟨false, false, false, false, false⟩, ⟨⟨f, p⟩, ⟨f, p⟩, ⟨f, p⟩, ⟨f, p⟩⟩⟩

/-- A pulse with cell E dark. -/
def darkPulse : PulseInputs := { lightPulse 30 20 with dark := ⟨true, false, false, false, false⟩ }

/-! ### Well-formedness

Every operand type of `Instr` has exactly the spec's values, so there is no check an ill-formed command could
fail; what a request may hold wrongly is refused when it is taken (R172). -/

theorem test_every_command_well_formed : requestRows.all Instr.wellFormed = true := by decide

/-- A request with a field out of range is refused by its own check (R117: base 0, field 2). -/
theorem test_smoke_bad_value : readBin [1, 0, 0, 0] = .error (.badValue 2) := by decide

/-- No row of the table gives bits, so no word spells a command. -/
theorem test_decode_refuses : decodeTableWord 8 0x70 = none ∧ decodeTableWord 0 0 = none := by decide

/-! ### The reset state -/

/-- R179, R180, R24: the first notice, and the values of a few fields. -/
theorem test_reset : State.reset.link.outbound = [.notice (.resetDone .powerOn 0 0 0 0 0)] ∧
    State.reset.run.state = .idle ∧ State.reset.channels.bl.fast = 8 ∧ State.reset.pending = [] := by decide

/-- R166: both straps high is 115,200 bit/s; strap 1 high alone is 921,600. R153: a door open at power-up
requests. -/
theorem test_power_on_straps :
    (after? (.powerOnReset { quietPins with strap1 := true, strap2 := true, door := true }) State.reset).map
      (fun t => (t.link.rate, t.run.causes.door.inService, t.run.state)) = some (.r115200, true, .idle) ∧
    (after? (.powerOnReset { quietPins with strap1 := true }) State.reset).map (fun t => t.link.rate) =
      some .r921600 := by decide

/-! ### 11: bytes -/

/-- 11.1: the CRC over 31h to 39h is 29B1h. -/
theorem test_crc_check : crc [0x31, 0x32, 0x33, 0x34, 0x35, 0x36, 0x37, 0x38, 0x39] = 0x29B1 := by decide +kernel

/-- 11, Examples: the refusal of SET_GEOMETRY with TAG 9 and field 3. LEN is 6 and the frame is 11 bytes. -/
theorem test_refusal_frame :
    (lineBytes (.reply 0x10 9 (.refused (.badValue 3)))).take 9 = [0xA5, 0, 6, 0x10, 9, 2, 2, 0, 3] ∧
    (lineBytes (.reply 0x10 9 (.refused (.badValue 3)))).length = 11 := by decide

/-- 11, Examples: the report of ticket 41 has presence word 7FEEh, flags word 0001h, 65 bytes of payload, and
the two mark records. -/
theorem test_letter_report :
    let p := encLetter ⟨none, 1005602, 0, { struck41 with bin := some .b1 }, some 37⟩
    p.length = 65 ∧ (p.drop 2).take 4 = [0x7F, 0xEE, 0, 41] ∧ (p.drop 46).take 3 = [0, 1, 2] ∧
      (p.drop 49).take 4 = [1, 0, 0, 152] := by decide

/-- R181, R184: the AU mark record of ticket 41. -/
theorem test_mark_record :
    encMark ⟨.au, .stamp, 360, 40, 3722, false, 810⟩ = [0, 0, 0x01, 0x68, 0, 40, 0x0E, 0x8A] := by decide

/-- R185: a TRACE payload of w windows is 16 + 10 w bytes. -/
theorem test_trace_length :
    (encTrace ⟨.au, 306, .outcome .ambiguous, 0, some 300, .ambig, .ambiguous,
      windows [.none, .stamp]⟩).length = 36 := by decide

/-- R167, R168: a STATUS frame heard byte by byte is buffered; R169: one wrong check byte makes it bad. -/
theorem test_frame_heard :
    (match hearBytes (frameBytes 0x75 3 []) State.reset with
      | .next t => t.link.inbound
      | _ => []) = [⟨0x75, 3, []⟩] ∧
    (match hearBytes [0xA5, 0, 2, 0x75, 3, 0, 0] State.reset with
      | .next t => t.link.bad
      | _ => 0) = 1 := by decide +kernel

/-- R168: the hunt goes on with the byte after a candidate's SYNC; LEN A5A5h is out of range, and the first of its two
bytes begins a new candidate. -/
theorem test_rescan_finds_sync :
    (after? (.byteReceived 0xA5) { State.reset with link := { resetLink with
      receiver := .inFrame [0xA5] 5 } }).map (fun t => (t.link.oversize, t.link.receiver)) =
      some (1, .inFrame [0xA5] 5) := by decide +kernel

/-- R170: a valid frame that finds the buffer full is dropped and counted. -/
theorem test_request_dropped :
    (match hearBytes (frameBytes 0x75 3 []) { State.reset with link := { resetLink with
        inbound := List.replicate 4 ⟨0x75, 0, []⟩ } } with
      | .next t => (t.link.dropped, t.link.inbound.length)
      | _ => (0, 0)) = (1, 4) := by decide +kernel

/-- R169: a break in a candidate counts FRAMES_BROKEN; its bytes are not rescanned. -/
theorem test_line_break :
    (after? .lineBreak { State.reset with link := { resetLink with
      receiver := .inFrame [0, 9, 0xA5] 2 } }).map (fun t => (t.link.broken, t.link.receiver)) =
      some (1, .hunting) := by decide

/-- R169: 5 ms pass and the candidate is broken. -/
theorem test_inter_byte_timeout :
    (after? .interByteTimeout { State.reset with link := { resetLink with
      receiver := .inFrame [0] 5 } }).map (fun t => (t.link.broken, t.uptime)) = some (1, 5) := by decide

/-! ### 01: tracking -/

/-- 01, worked sequence: the fourth dark sample, at 1,000,003, accepts an edge at 1,000,000. -/
theorem test_edge_accepted :
    (after? (.encoderPulse darkPulse) { State.reset with tracker := { resetTracker with
      belt := 1000002, filters := { resetTracker.filters with e := ⟨false, 3⟩ } } }).map
      (fun t => (t.tracker.belt, t.tracker.edges)) = some (1000003, [⟨.e, true, 1000000⟩]) := by decide

/-- 01, a sliver: three dark samples and a light one accept nothing. -/
theorem test_sliver :
    [true, true, true, false].foldl (fun f x => Filter.sample 4 x f) ⟨false, 0⟩ = ⟨false, 0⟩ := by decide

/-- 01: ticket 42 is created with gap 80, which is not below gate_clear + gate_lead, so GAP_SHORT is clear. -/
theorem test_entry_gap :
    (after? .entryLeadingEdge (edgeAt .e true 1000560 { rolling with tracker := { resetTracker with
      belt := 1000563, prevTrail := some 1000480, firstTicket := false, nextTicket := 42 } })).map
      (fun t => t.tracker.table.map (fun u => (u.number, u.gap, u.gapShort))) =
      some [(42, some 80, false)] := by decide

/-- R187, R134: a leftover letter's trail stands in the record, and the first ticket after IDLE has no gap. -/
theorem test_first_ticket_has_no_gap :
    (after? .entryLeadingEdge (edgeAt .e true 1000560 { rolling with tracker := { resetTracker with
      belt := 1000563, prevTrail := some 1000540 } })).map
      (fun t => (t.tracker.table.map (fun u => (u.gap, u.gapShort)), t.tracker.firstTicket)) =
      some ([(none, false)], false) := by decide

/-- R11: with 32 tickets in the table an edge makes no ticket and stops the belt with TABLE_FULL. -/
theorem test_table_full :
    (after? .entryLeadingEdge (edgeAt .e true 9 { rolling with tracker := { resetTracker with
      table := List.replicate 32 blankTicket } })).map
      (fun t => (t.run.state, t.run.causes.tableFull.inService, t.tally.life.entered, t.tally.life.purged)) =
      some (.stopped, true, 0, 32) := by decide +kernel

/-- 01: the trailing edge at 1,000,480 gives ticket 41 length 480 and SCANNING, with no size flag. -/
theorem test_trail :
    (after? .entryTrailingEdge (edgeAt .e false 1000480 (holding { ticket41 with
      trail := none, length := none, state := .entering } 1000483))).map
      (fun t => t.tracker.table.map (fun u => (u.length, u.size, u.state))) =
      some [(some 480, none, .scanning)] := by decide

/-- R12: a length of 179 is below min_len 180. -/
theorem test_trail_short :
    (after? .entryTrailingEdge (edgeAt .e false 1000179 (holding { ticket41 with
      trail := none, length := none, state := .entering } 1000182))).map
      (fun t => t.tracker.table.map (fun u => u.size)) = some [some .short] := by decide

/-- R13, R63: a ticket without a trail at lead + 600 becomes LONG and is decided so. -/
theorem test_long_check :
    (after? .longCheck (holding { ticket41 with trail := none, length := none, state := .entering }
      1000600)).map (fun t => t.tracker.table.map (fun u => (u.size, u.outcome, u.state))) =
      some [(some .long, some .long, .decided)] := by decide

/-- R14: at lead + 2400 a ticket still without a trail is a letter stuck, and the belt stops. -/
theorem test_stuck_check :
    (after? .stuckLetterCheck (holding { ticket41 with trail := none, length := none, state := .entering }
      1002400)).map (fun t => (t.run.state, t.tally.life.jams, t.run.faults.latest.map FaultEntry.detail)) =
      some (.stopped, 1, some (.jam .e .stuck none)) := by decide

/-- 01: ticket 41 arrives at G at 1,001,703, inside [1,001,660, 1,001,740]. -/
theorem test_arrival :
    (after? (.arrivalMatch .g) (edgeAt .g true 1001703 (holding ticket41 1001706))).map
      (fun t => t.tracker.table.map (fun u => (u.seenG, u.seenM))) = some [(true, false)] := by decide

/-- 01: an edge at G one step past the window, 1,001,741, is an unexpected letter. -/
theorem test_arrival_unexpected :
    (after? (.arrivalMatch .g) (edgeAt .g true 1001741 (holding ticket41 1001744))).map
      (fun t => (t.run.state, t.run.faults.latest.map FaultEntry.detail)) =
      some (.stopped, some (.jam .g .unexpected (some 1001741))) := by decide

/-- 01: ticket 42's window at G closes unmatched at 1,002,304, not at 1,002,303. -/
theorem test_window_close :
    let t42 : Ticket := { ticket41 with number := 42, lead := 1000560 }
    (after? (.arrivalWindowClose .g) (holding t42 1002304)).map
      (fun t => (t.run.state, t.tracker.table, t.tally.life.purged)) = some (.stopped, [], 1) ∧
    after? (.arrivalWindowClose .g) (holding t42 1002303) = some (holding t42 1002303) := by decide

/-- 07, worked case: ticket 41 commits at S at 1,005,602 into bin 1. Here flap 1 is open, so the route is 1. -/
theorem test_commit :
    let s := edgeAt .s true 1005602 (holding struck41 1005605)
    (after? (.arrivalMatch .s) { s with stacker := { resetStacker with
      flaps := { resetStacker.flaps with f1 := true } } }).map
      (fun t => (t.tracker.table, t.tally.life.committed, t.tally.shift.outcome.facedA, t.tally.life.bin.b1,
        t.stacker.bins.b1.current)) = some ([], 1, 1, 1, 999) := by decide

/-- R22: 50 ms without a pulse in RUNNING stop the belt. -/
theorem test_belt_stall :
    (after? .beltStall rolling).map (fun t => (t.uptime, t.run.state, t.run.causes.beltStall.latch)) =
      some (50, .stopped, true) := by decide

/-- R5: a gate place that fails the decision margin is field 3; a max_len below min_len + 40 is field 16. -/
theorem test_geometry_checks :
    Geometry.badField { defaultGeometry with gate := 1739, cellG := 1700 } = none ∧
    Geometry.badField { defaultGeometry with scanLine := 1200, gate := 1907 } = some 3 ∧
    Geometry.badField { defaultGeometry with maxLen := 219 } = some 16 ∧
    Geometry.badField { defaultGeometry with cellG := 1800 } = some 3 ∧
    Geometry.badField defaultGeometry = none := by decide

/-! ### 02: detection -/

/-- 02, the trim arithmetic: a raw 200 at code 13 gains to 181 and is not clipped. -/
theorem test_trim_arithmetic : sampleOf 13 200 = 181 ∧ clips 13 200 = false := by decide

/-- R26: at code 7 (gain 39/32) a raw 209 gives 254 and a raw 210 is held at 255 and clipped. -/
theorem test_trim_clip : (sampleOf 7 209, clips 7 209) = (254, false) ∧ (sampleOf 7 210, clips 7 210) = (255, true) := by
  decide

/-- 02, baseline acquisition: nine gap windows of SP 170 from BP 0. -/
theorem test_baseline_table :
    ((List.range 9).foldl (fun a _ => a ++ [updateBaselines 170 0 (a.getLastD resetChannel)])
      ([] : List ScanChannel)).map (fun c => (c.bp, c.fast)) =
      [(170, 7), (255, 6), (297, 5), (318, 4), (329, 3), (334, 2), (337, 1), (338, 0), (338, 0)] := by decide

/-- 02: a later window of SP 150 moves BP 338 to 336. -/
theorem test_baseline_down : moveBaseline 338 150 16 = 336 := by decide

/-- 02, window 47: SP 932 against BP 320 gives EA 772 and STAMP. -/
theorem test_window_47 :
    let w := windowOf defaultThreshold 320 480 1000768
      ([110, 118, 121, 119, 120, 117, 115, 112].map fun p => ⟨80, p, false, false⟩)
    (w.ea, w.cls, w.clipped) = (772, .stamp, false) := by decide

/-- 02, a weak tag: EA 360 with T 0 is STAMP; with T 4 it is NONE. L is 54. -/
theorem test_weak_tag :
    transitionLevel 480 24 = 54 ∧ transitions 54 [80, 82, 79, 81, 83, 80, 78, 82] = 0 ∧
    classOf defaultThreshold 360 0 0 = .stamp ∧ classOf defaultThreshold 360 0 4 = .none := by decide

/-- 02, the mark: window 47 opens at 360, and the mark of EA 700, 772, 810, 790, 650 closes at window 52 with
length 40, score 3722 and peak 810. -/
theorem test_mark_of_ticket_41 :
    let done : List Window := (List.replicate 45 ⟨0, 0, 0, 0, .none, false, false⟩) ++
      [700, 772, 810, 790, 650].map (fun ea => ⟨0, ea, 0, 0, .stamp, false, false⟩) ++
      List.replicate 2 ⟨0, 0, 0, 0, .none, false, false⟩
    findMarks defaultGeometry ticket41 .au false (done.take 47) none = (some ⟨.stamp, 46⟩, []) ∧
    findMarks defaultGeometry ticket41 .au false (done.take 51) (some ⟨.stamp, 46⟩) =
      (some ⟨.stamp, 46⟩, []) ∧
    findMarks defaultGeometry ticket41 .au false done (some ⟨.stamp, 46⟩) =
      (none, [⟨.au, .stamp, 360, 40, 3722, false, 810⟩]) := by decide +kernel

/-- 02, a full mark list: score 410 is dropped, score 500 takes the place of the BU mark, place 4. -/
theorem test_full_mark_list :
    let list : List Mark := [⟨.au, .stamp, 0, 40, 3722, false, 0⟩, ⟨.al, .stamp, 0, 40, 900, false, 0⟩,
      ⟨.au, .meter, 0, 40, 410, false, 0⟩, ⟨.bu, .stamp, 0, 40, 410, false, 0⟩,
      ⟨.au, .stamp, 0, 40, 1200, false, 0⟩, ⟨.bl, .stamp, 0, 40, 650, false, 0⟩]
    joinMarks ⟨.au, .stamp, 0, 40, 410, false, 0⟩ list = list ∧
    (joinMarks ⟨.au, .stamp, 0, 40, 500, false, 0⟩ list).map (fun m => m.score) =
      [3722, 900, 410, 1200, 650, 500] := by decide

/-- 02, a letter after lamp standby: an edge at E sends both lamps to WARMING for 40 ms, side A's notice first. -/
theorem test_lamp_edge :
    (lampEdge rolling).lamps.state = ⟨.warming 40, .warming 40⟩ ∧
    (lampEdge rolling).link.outbound.tail = [.notice (.lamp .a .standby (.warming 40) .edge 0),
      .notice (.lamp .b .standby (.warming 40) .edge 0)] := by decide

/-- R28: the warm time passes and the lamp is ON. -/
theorem test_warm_done :
    (after? (.warmDone .b) (lampEdge rolling)).map (fun t => (t.uptime, t.lamps.state.b)) =
      some (40, .on) := by decide

/-- R29: after the saver time both lamps rest and the timer stands. -/
theorem test_saver_expiry :
    (after? .saverExpiry { rolling with lamps := { resetLamps with state := ⟨.on, .on⟩ } }).map
      (fun t => (t.uptime, t.lamps.state, t.lamps.saver)) = some (10000, ⟨.standby, .standby⟩, none) := by
  decide

/-- R41: window 1 of ticket 41 starts at 1,000,400 on every channel, and the pending record comes into force. -/
theorem test_window_1 :
    (after? .window1Start { holding ticket41 1000400 with channels := PerChannel.all { resetChannel with
      pendingRecord := some { defaultThreshold with minMark := 16 } } }).map
      (fun t => (t.channels.bl.inForce.minMark, t.channels.au.spans.map Span.start)) =
      some (16, [1000400]) := by decide

/-- R33 with scan line 1 and filter 4: the ticket is created at lead + 3, and its window 1 holds the steps lead + 1
to lead + 3 from the start. -/
theorem test_window_1_below_filter :
    (after? .window1Start { holding { ticket41 with marks := [] } 1000003 with
      tracker := { (holding { ticket41 with marks := [] } 1000003).tracker with
        geometry := { defaultGeometry with scanLine := 1 } }
      channels := PerChannel.all { resetChannel with
        recent := samples 1 30 9 ++ samples 1 30 11 ++ samples 1 30 12 ++ samples 1 30 13 } }).map
      (fun t => t.channels.au.spans.map (fun sp => (sp.start, sp.samples.map Sample.p))) =
      some [(1000001, [11, 12, 13])] := by decide

/-- R34: HALT with a step held back from the gap window leaves the gap window without a hole. -/
theorem test_purge_keeps_gap_steps :
    (purgeChannel .halt 106 { resetChannel with gap := ⟨103, samples 3 30 20⟩, leadIn := samples 1 30 21 }).gap =
      ⟨103, samples 3 30 20 ++ samples 1 30 21⟩ := by decide

/-- R34, R38: the eighth sample of 20 completes a gap window: SP 160 moves BP from 0 to 160. -/
theorem test_gap_completion :
    (after? .windowCompletion { State.reset with channels := { State.reset.channels with
      bu := { resetChannel with gap := ⟨1, samples 8 30 20⟩ } } }).map
      (fun t => (t.channels.bu.bp, t.channels.bu.bf, t.channels.bu.fast, t.channels.bu.gap.start)) =
      some (160, 240, 7, 9) := by decide

/-! ### 03: the decision -/

/-- 03, worked case: ticket 41 is FA, STRAIGHT, head A, SECONDARY, on the AU mark at 360. -/
theorem test_verdict_41 :
    let v := verdict ⟨16, 500⟩ ticket41
    (v.cls, v.required, v.head, v.secondary, v.mark.map (fun m => m.start)) =
      (.fa, .straight, .on .a, true, some 360) := by decide

/-- 03, other settings: floor 1000 clears SECONDARY; dom8 32 with an AL score of 950 is AMBIG, with 900 FA. -/
theorem test_verdict_settings :
    (verdict ⟨16, 1000⟩ ticket41).secondary = false ∧ (verdict ⟨32, 500⟩ ticket41).cls = .fa ∧
    (verdict ⟨32, 500⟩ { ticket41 with marks := [⟨.al, .stamp, 152, 24, 950, false, 0⟩,
      ⟨.au, .stamp, 360, 40, 3722, false, 0⟩] }).cls = .ambig := by decide

/-- 03, a metered letter: a stamp below the floor and a METER mark are METER, path ANY. -/
theorem test_verdict_meter :
    let v := verdict ⟨16, 500⟩ { ticket41 with marks := [⟨.au, .stamp, 0, 40, 300, false, 0⟩,
      ⟨.bu, .meter, 0, 40, 2500, false, 0⟩] }
    (v.cls, v.required, v.head) = (.meter, .any, .none) := by decide

/-- 03 and 05: ticket 41 decided at once has band [288, 412) and a strike queued from 1,005,088 to 1,005,212,
deadline 1,005,160, on head A. -/
theorem test_decide_41 :
    let s := decisionPoint 41 { holding ticket41 1000895 with cancel := { resetCancel with
      active := some .p1, slots := { resetCancel.slots with p1 := ⟨some ⟨[65], 1, 1, 2000, 65, 0⟩, 0⟩ } } }
    s.tracker.table.map (fun u => (u.outcome, u.strike, u.taken, u.band)) =
      [(some .facedA, some .pending, some .straight, some ⟨288, 412, .before, 60, some .p1⟩)] ∧
    s.cancel.heads.a.queue = [entry41] := by decide

/-- 03: ticket 42, a stamp on BL with gap 80, is turned with an entry due 1,002,300; with gap 70 it is forced
and becomes REFACE without a head. -/
theorem test_turned_and_forced :
    let t42 : Ticket := { ticket41 with
      number := 42, lead := 1000560, length := some 200, gap := some 80
      marks := [⟨.bl, .stamp, 120, 32, 2600, false, 0⟩] }
    let a := decisionPoint 42 (holding t42 1001175)
    let b := decisionPoint 42 (holding { t42 with gap := some 70 } 1001175)
    a.gate.queue = [⟨1002300, .turn, 42⟩] ∧ a.tracker.table.map (fun u => u.outcome) = [some .turnedToA] ∧
    b.gate.queue = [] ∧ b.tracker.table.map (fun u => (u.outcome, u.head, u.pathForced, u.strike)) =
      [(some .reface, some .none, true, some .notRequired)] := by decide

/-- 03, a LONG ticket waits for its elder, and is decided when the elder is. -/
theorem test_waiting_list :
    let s : State := { rolling with tracker := { resetTracker with
      table := [{ ticket41 with number := 70, marks := [] }, { blankTicket with number := 71, size := some .long }] } }
    (decisionPoint 71 s).facing.waiting = [71] ∧
    (decisionPoint 70 (decisionPoint 71 s)).facing.waiting = [] ∧
    (decisionPoint 70 (decisionPoint 71 s)).tracker.table.map (fun u => u.outcome) =
      [some .noMark, some .long] := by decide

/-! ### 04: the gate -/

/-- 04, five letters: the due of ticket 51 switches to TURN and starts a confirm of 10 ms. -/
theorem test_gate_due :
    (after? .gateDue { rolling with
      tracker := { resetTracker with belt := 2002240 }, gate := ⟨.straight, [⟨2002240, .turn, 51⟩], none, none⟩ }).map
      (fun t => t.gate) = some ⟨.turn, [], some ⟨.turn, 51, 10⟩, none⟩ := by decide

/-- 04: one step before its due the entry stays. -/
theorem test_gate_not_due :
    (after? .gateDue { rolling with
      tracker := { resetTracker with belt := 2002239 }, gate := ⟨.straight, [⟨2002240, .turn, 51⟩], none, none⟩ }).map
      (fun t => t.gate.output) = some .straight := by decide

/-- 04: the confirm input going active ends the confirm of TURN. -/
theorem test_gate_confirm :
    (after? (.gateConfirmInput true) { rolling with gate := ⟨.turn, [], some ⟨.turn, 51, 4⟩, none⟩ }).map
      (fun t => (t.gate.confirm, t.run.state)) = some (none, .running) := by decide

/-- 04, the blade sticks: at the timer's expiry ACTUATOR of the gate stops the belt. -/
theorem test_gate_confirm_timeout :
    (after? .gateConfirmTimeout { rolling with
      pins := { quietPins with gateConfirm := true }, gate := ⟨.straight, [], some ⟨.straight, 54, 10⟩, none⟩ }).map
      (fun t => (t.run.state, t.run.faults.latest.map FaultEntry.detail, t.run.faults.latest.bind FaultEntry.ticket)) =
      some (.stopped, some (.actuator (.gate .straight)), some 54) := by decide

/-- 04, proving the gate: with the blade stuck in TURN, TURN is answered OK with 0 ms at once. -/
theorem test_exercise_gate :
    (after? .exerciseGate { asking ⟨0x38, 1, [0, 1]⟩ with pins := { quietPins with gateConfirm := true } }).map
      (fun t => (t.gate.output, t.gate.exercise, t.link.outbound)) =
      some (.turn, none, [.reply 0x38 1 (.ok [1, 0])]) := by decide

/-- 04, proving the gate: STRAIGHT against the stuck blade is refused after 10 ms, and no cause is raised. -/
theorem test_exercise_gate_timeout :
    (after? .gateExerciseTimeout { asking ⟨0x38, 1, [0, 0]⟩ with
      pins := { quietPins with gateConfirm := true }, gate := ⟨.straight, [], none, some (.gate .straight 10 0 1)⟩ }).map
      (fun t => (t.uptime, t.gate.exercise, t.link.outbound, t.run.faults.count)) =
      some (10, none, [.reply 0x38 1 (.refused .actuatorTimeout)], 0) := by decide

/-- R77: outside IDLE an exercise is refused before its argument is read. -/
theorem test_exercise_barred :
    (after? .exerciseFlap { asking ⟨0x38, 1, [1, 9]⟩ with run := { resetRun with state := .held } }).map
      (fun t => t.link.outbound) = some [.reply 0x38 1 (.refused (.wrongState 4))] := by decide

/-- R79: a flap exercise lasts 100 ms and leaves the flap state. -/
theorem test_exercise_flap :
    (after? .exerciseFlap (asking ⟨0x38, 1, [1, 5]⟩)).map (fun t => t.gate.exercise) = some (some (.flap .f5 100)) ∧
    (after? .flapExerciseEnd { State.reset with gate := ⟨.straight, [], none, some (.flap .f5 100)⟩ }).map
      (fun t => (t.uptime, t.gate.exercise, flapOutput t .f5)) = some (100, none, false) := by decide

/-- R80: a test strike lasts 20 ms; the head then recharges for 12. -/
theorem test_exercise_head :
    ((after? .exerciseHead (asking ⟨0x38, 1, [2, 0]⟩)).bind (after? .testStrikeEnd)).map
      (fun t => (t.uptime, t.gate.exercise, t.cancel.heads.a.state, t.tally.life.strikes.a)) =
      some (20, none, .recharging 12, 0) := by decide

/-! ### 05: cancelling -/

/-- 05, ticket 41: band [288, 412), BEFORE, postmark 60. -/
theorem test_band_41 :
    planStrike resetCancel.record (some .p1) 360 400 480 =
      ⟨some ⟨288, 412, .before, 60, some .p1⟩, false, false⟩ := by decide

/-- 05, a short letter: band [4, 122) with the postmark shortened to 54; without a plate [58, 122). -/
theorem test_band_short_letter :
    planStrike resetCancel.record (some .p1) 70 110 180 = ⟨some ⟨4, 122, .before, 54, some .p1⟩, true, false⟩ ∧
    planStrike resetCancel.record none 70 110 180 = ⟨some ⟨58, 122, .before, 0, none⟩, false, true⟩ := by decide

/-- 05, a stamp at the very leading edge: band [4, 112), AFTER, postmark 60. -/
theorem test_band_leading_edge :
    planStrike resetCancel.record (some .p1) 0 40 480 =
      ⟨some ⟨4, 112, .after, 60, some .p1⟩, false, false⟩ := by decide

/-- 05, lines cut away: margins 0, clearance 20, letter 200, mark [184, 200). -/
theorem test_band_cut_away :
    (planStrike { resetCancel.record with leadMargin := 0, trailMargin := 0, clearance := 20 } (some .p1)
      184 200 200).band = none := by decide

/-- A head A with the entry of ticket 41 and this state, the belt at this position. -/
def headA (st : HeadState) (waiting : Bool) (belt : Pos) : State :=
  { holding { struck41 with strike := some .pending } belt with cancel := { resetCancel with
      active := some .p1
      slots := { resetCancel.slots with p1 := ⟨some ⟨[65], 1, 1, 2000, 65, 0⟩, 0⟩ }
      heads := ⟨⟨st, [entry41], waiting, none⟩, resetHead⟩ } }

/-- 05, ticket 41: at 1,005,088 the strike begins, and STRIKES and the impression are counted. -/
theorem test_strike_start :
    let t := after? (.strikeStart .a) (headA .ready false 1005088)
    t.map (fun t => t.cancel.heads.a.state) = some (.striking (.letter 41 1005212 (some .p1))) ∧
    t.map (fun t => (t.cancel.slots.p1.impressions, t.tally.life.strikes.a, t.tally.life.impressions.p1)) =
      some (1, 1, 1) ∧
    t.map (fun t => t.tracker.table.map Ticket.strike) = some [some .struck] := by decide

/-- R96: the driver is handed placement, length and the slot's plate also for a ticket gone from the table. -/
theorem test_strike_of_gone_ticket :
    let s := headA .ready false 1005088
    (after? (.strikeStart .a) { s with tracker := { s.tracker with table := [] } }).map
      (fun t => (t.cancel.heads.a.handed, t.tally.life.strikes.a)) =
      some (some ⟨.before, 60, some ⟨[65], 1, 1, 2000, 65, 0⟩⟩, 1) := by decide

/-- R97: a busy head makes the entry wait; R98: at the deadline, 1,005,160, it is MISSED. -/
theorem test_strike_deadline :
    (after? (.strikeStart .a) (headA (.recharging 5) false 1005088)).map (fun t => t.cancel.heads.a.waiting) =
      some true ∧
    (after? (.strikeDeadline .a) (headA (.recharging 5) true 1005160)).map
      (fun t => (t.tracker.table.map (fun u => (u.strike, u.outcome)), t.tally.life.missed.a)) =
      some ([(some .missed, some .handCancel)], 1) := by decide

/-- 05, ticket 41: at 1,005,212 the strike ends and head A recharges for 12 ms. -/
theorem test_strike_end :
    (after? (.strikeEnd .a) (headA (.striking (.letter 41 1005212 none)) false 1005212)).map
      (fun t => t.cancel.heads.a.state) = some (.recharging 12) := by decide

/-- R98: a recharge that ends before the deadline lets the waiting entry begin LATE. -/
theorem test_recharge_late :
    (after? (.rechargeExpiry .a) (headA (.recharging 5) true 1005100)).map
      (fun t => (t.tracker.table.map Ticket.strike, t.tally.life.late.a, t.tally.life.strikes.a)) =
      some ([some .late], 1, 1) := by decide

/-- R95: a fault cuts the strike and names its ticket. -/
theorem test_head_fault :
    (after? (.headFaultInput .a true) (headA (.striking (.letter 41 1005212 none)) false 1005100)).map
      (fun t => (t.cancel.heads.a.state, t.run.faults.latest.bind FaultEntry.ticket, t.run.state)) =
      some (.disabled, some 41, .stopped) := by decide

/-- R86, R87: a plate is loaded into slot 2 and selected; an office code of count 0 fails field 2. -/
theorem test_plates :
    ((after? .loadPlate (asking ⟨0x41, 1, [2, 1, 65, 31, 12, 7, 0xD0, 90, 15]⟩)).map
      (fun t => t.cancel.slots.p2.plate)) = some (some ⟨[65], 31, 12, 2000, 90, 15⟩) ∧
    (after? .loadPlate (asking ⟨0x41, 1, [2, 0, 31, 12, 7, 0xD0, 90, 15]⟩)).map (fun t => t.link.outbound) =
      some [.reply 0x41 1 (.refused (.badValue 2))] ∧
    (after? .selectPlate (asking ⟨0x42, 1, [2]⟩)).map (fun t => t.link.outbound) =
      some [.reply 0x42 1 (.refused (.badValue 1))] := by decide

/-! ### 06: stacking -/

/-- R113, R114: the last letter of a batch in AUTO reloads the bin with a tray-swap pulse of 50 ms. -/
theorem test_batch_auto :
    let s := countLetter .b1 { State.reset with stacker := { resetStacker with
      bins := { resetStacker.bins with b1 := ⟨1000, some 500, 1, .auto, .opened, 36⟩ } } }
    s.stacker.bins.b1 = ⟨500, none, 500, .auto, .opened, 37⟩ ∧ s.stacker.trays.b1 = some 50 ∧
      s.tally.life.batches.b1 = 1 := by decide

/-- R115: in HOLD it closes the bin, which is then not usable. -/
theorem test_batch_hold :
    let s := countLetter .b1 { State.reset with stacker := { resetStacker with
      bins := { resetStacker.bins with b1 := ⟨1000, some 500, 1, .hold, .opened, 36⟩ } } }
    s.stacker.bins.b1 = ⟨1000, some 500, 0, .hold, .closed, 37⟩ ∧ s.stacker.trays.b1 = none ∧
      usable s .b1 = false := by decide

/-- R116: a flap action whose due is reached sets its flap. -/
theorem test_flap_due :
    (after? .flapDue { rolling with
      tracker := { resetTracker with belt := 90 }
      stacker := { resetStacker with queue := [⟨90, .f3, true, 1⟩] } }).map
      (fun t => (t.stacker.flaps.f3, t.stacker.queue, route t.stacker)) = some (true, [], .b3) := by decide

/-- R114: a tray-swap pulse ends after its ms. -/
theorem test_tray_swap :
    (after? (.traySwapPulseEnd .b2) { rolling with stacker := { resetStacker with
      trays := { resetStacker.trays with b2 := some 50 } } }).map (fun t => (t.uptime, trayLine t .b2)) =
      some (50, false) := by decide

/-- 08, bin 6 full: STACK_FULL enters service in RUNNING and the machine drains; with no ticket it is HELD. -/
theorem test_bin_6_full :
    (after? (.binFullInput .b6 true) (holding struck41 0)).map
      (fun t => (t.run.state, feedEnableOutput t, t.run.causes.stackFull.inService)) =
      some (.draining .hold, false, true) := by decide

/-- R118, R119: BIN_CLOSE of an OPEN bin in HOLD, then BIN_RELEASE. -/
theorem test_bin_requests :
    let s := asking ⟨0x52, 1, [3]⟩
    let held : State := { s with stacker := { resetStacker with
      bins := { resetStacker.bins with b3 := ⟨1000, none, 990, .hold, .opened, 0⟩ } } }
    (after? .binClose held).map (fun t => (t.stacker.bins.b3, t.link.outbound.getLast?)) =
      some (⟨1000, none, 0, .hold, .closed, 1⟩, some (.reply 0x52 1 (.ok [0, 1, 0, 10]))) ∧
    (after? .binRelease (asking ⟨0x53, 1, [3]⟩)).map (fun t => t.link.outbound) =
      some [.reply 0x53 1 (.refused (.wrongState 0xFFFF))] := by decide

/-- R105, R181: bin 1 full: base 1000, no pending base, current 1000, AUTO, OPEN, batch 0, level active 0. R120 lists
the level again, then usable and the tray-swap line. -/
theorem test_bin_record :
    encBinSeen { State.reset with pins := { quietPins with binFull := { quietPins.binFull with b1 := true } } } .b1 =
      [3, 232, 0, 0, 0, 3, 232, 0, 0, 0, 0, 0, 0, 0, 0] := by decide

/-- R104: an alternate of 7 in row 12 is field 24; nothing changes. -/
theorem test_set_plan_refused :
    (after? .setPlan (asking ⟨0x50, 1, List.replicate 23 1 ++ [7]⟩)).map
      (fun t => (t.link.outbound, decide (t.stacker = resetStacker))) =
      some ([.reply 0x50 1 (.refused (.badValue 24))], true) := by decide

/-! ### 07: tallies -/

/-- 07, a shift change: ENTERED 12,405 less 12,400 leaves 5, COMMITTED 9, and BASE_OCC is 7; the lifetime set
stands. -/
theorem test_shift_change :
    let live : TallySet := { zeroTallies with entered := 12405, committed := 12389, purged := 13 }
    let held : TallySet := { zeroTallies with entered := 12400, committed := 12380, purged := 13 }
    let t := after? .tallyRead { asking ⟨0x61, 1, [1]⟩ with
      tally := ⟨live, live, 0, some ⟨214, held, held, 0, 0, 0, 7⟩, 215⟩ }
    t.map (fun t => (t.tally.shift.entered, t.tally.shift.committed, t.tally.shift.purged)) = some (5, 9, 0) ∧
    t.map (fun t => (t.tally.baseOcc, t.tally.held, t.tally.life.entered)) = some (7, none, 12405) := by decide

/-- 07: a second TALLY_LATCH is answered HELD with the held number. -/
theorem test_latch_held :
    (after? .tallyLatch { asking ⟨0x60, 1, []⟩ with
      tally := { resetTally with held := some ⟨214, zeroTallies, zeroTallies, 0, 0, 0, 7⟩ } }).map
      (fun t => t.link.outbound) = some [.reply 0x60 1 (.held 214)] := by decide

/-! ### 08: run control -/

/-- 08, the door: with STACK_FULL in service and the state HELD, DOOR stops the belt; the notices come in order. -/
theorem test_door :
    (after? (.doorInput true) { State.reset with
      run := { resetRun with
        state := .held, causes := { resetCauses with stackFull := ⟨false, false, true, .feedHold, .none⟩ } }
      link := { resetLink with outbound := [] } }).map (fun t => t.link.outbound) =
      some [.notice (.stop .door true .request .none (some .door) .held 0),
        .notice (.runState .held .stopped .cause (some .door) 0 0 0)] := by decide

/-- 08, clearing: CAUSE_CLEAR 0 clears DOOR and the state becomes IDLE; the reply names STACK_FULL leading. -/
theorem test_cause_clear :
    (after? .causeClear { asking ⟨0x73, 1, [0]⟩ with run := { resetRun with
      state := .stopped
      causes := { resetCauses with
        door := ⟨false, false, true, .beltStop, .none⟩, stackFull := ⟨false, false, true, .feedHold, .none⟩ } } }).map
      (fun t => (t.run.state, t.link.outbound.getLast?)) =
      some (.idle, some (.reply 0x73 1 (.ok [1, 1, 7, 0]))) := by decide

/-- 08: RUN with STACK_FULL in service is refused STILL_ACTIVE. -/
theorem test_run_refused :
    (after? .run { asking ⟨0x70, 1, []⟩ with run := { resetRun with
      causes := { resetCauses with stackFull := ⟨false, false, true, .feedHold, .none⟩ } } }).map
      (fun t => t.link.outbound) = some [.reply 0x70 1 (.refused (.stillActive .stackFull))] := by decide

/-- R136, R139: RUN in IDLE starts the belt; at the start position the state is RUNNING. -/
theorem test_start :
    (after? .run (asking ⟨0x70, 1, []⟩)).map (fun t => (t.run.state, t.run.startTimer, t.run.startPos)) =
      some (.starting, some 3000, some 400) ∧
    (after? .startDone { State.reset with
      tracker := { resetTracker with belt := 400 }
      run := { resetRun with state := .starting, startTimer := some 2000, startPos := some 400 } }).map
      (fun t => (t.run.state, t.run.startTimer)) = some (.running, none) := by decide

/-- R139: the start timer's expiry is BELT_STALL of phase START. -/
theorem test_start_timer :
    (after? .startTimerExpiry { State.reset with
      run := { resetRun with state := .starting, startTimer := some 3000, startPos := some 400 } }).map
      (fun t => (t.uptime, t.run.state, t.run.faults.latest.map FaultEntry.detail)) =
      some (3000, .stopped, some (.stall .start)) := by decide

/-- 08, a silent host: LINK_LOSS unmasked with timeout 500 drains an empty machine to HELD. -/
theorem test_link_loss :
    (after? .linkLoss { rolling with run := { rolling.run with
      linkTimeout := 500, causes := { resetCauses with linkLoss := ⟨false, false, false, .feedHold, .none⟩ } } }).map
      (fun t => (t.uptime, t.run.state)) = some (500, .held) := by decide

/-- R151: the flashing beacon is on for 100 ms and off for 900. -/
theorem test_beacon :
    (after? .beaconFlash { State.reset with run := { resetRun with beacon := .flashOn 100 } }).map
      (fun t => (t.uptime, t.run.beacon)) = some (100, .flashOff 900) := by decide

/-- R138: HALT purges, and its reply follows the RUNSTATE notice. -/
theorem test_halt :
    (after? .halt { holding struck41 0 with link := { resetLink with
      inbound := [⟨0x72, 1, []⟩], outbound := [], letterEnable := false } }).map
      (fun t => (t.run.state, t.tally.life.purged, t.link.outbound)) =
      some (.idle, 1, [.notice (.runState .running .idle .halt none 0 0 0), .reply 0x72 1 (.ok [])]) := by decide

/-- R146: SET_CAUSES unmasking DOOR with the door open puts it in service. -/
theorem test_set_causes :
    (after? .setCauses { asking ⟨0x74, 1, [1, 1, 1, 1, 1, 1, 1, 0, 0, 1, 1, 0, 100]⟩ with
      pins := { quietPins with door := true }
      run := { resetRun with causes := { resetCauses with door := ⟨false, true, false, .beltStop, .none⟩ } } }).map
      (fun t => (t.run.causes.door.inService, t.run.linkTimeout, t.run.state)) = some (true, 100, .idle) := by
  decide

/-- R146, R151: with STACK_FULL in service too, masking LINK_LOSS in service and making it stop the belt leaves the
flashing beacon in its phase. -/
theorem test_set_causes_keeps_flash :
    (after? .setCauses { asking ⟨0x74, 1, [1, 1, 1, 1, 1, 1, 1, 0, 0, 1, 0, 0, 100]⟩ with
      run := { resetRun with
        state := .held, beacon := .flashOff 300
        causes := { resetCauses with
          stackFull := ⟨false, false, true, .feedHold, .none⟩
          linkLoss := ⟨false, false, true, .feedHold, .none⟩ } } }).map
      (fun t => (t.run.causes.linkLoss.inService, t.run.beacon, t.run.state)) =
      some (false, .flashOff 300, .held) := by decide

/-! ### 09: calibration and trace -/

/-- 09, a calibration of AU: averages 1100, 900 and 1500 propose codes 3, 7 (LIMIT) and 10. -/
theorem test_proposals :
    proposal 0 1200 1100 = ⟨1100, 3, false⟩ ∧ proposal 0 1200 900 = ⟨900, 7, true⟩ ∧
      proposal 0 1200 1500 = ⟨1500, 10, false⟩ := by decide +kernel

/-- 09: ticket 105 brings the valid count to 4 and the calibration to READY; ticket 103 is cold and gives
nothing. -/
theorem test_calibration :
    let s : State := { State.reset with cal := .collecting ⟨.au, 1200, 4, 3300, 3, 1⟩ }
    let t : Ticket := { ticket41 with marks := [⟨.au, .stamp, 0, 40, 4000, false, 1100⟩] }
    (contribute t s).cal = .ready ⟨.au, 1200, 4, 4400, 4, 1⟩ ⟨1100, 3, false⟩ ∧
    contribute { t with cold := ⟨false, true⟩ } s = s := by decide

/-- 09: CAL_APPLY installs code 3 and replaces code 0. -/
theorem test_cal_apply :
    (after? .calApply { asking ⟨0x81, 1, []⟩ with
      cal := .ready ⟨.au, 1200, 4, 4400, 4, 1⟩ ⟨1100, 3, false⟩ }).map
      (fun t => (t.cal, t.channels.au.trim, t.link.outbound)) =
      some (.off, 3, [.reply 0x81 1 (.ok [0, 3, 0])]) := by decide

/-- 09, tracing: with 2 slots free, two notices are queued and two dropped. -/
theorem test_trace_crowded :
    let full : List OutFrame := List.replicate 58 (.notice (.lost 0 0 0 0))
    let s := testTrace { ticket41 with number := 306 } .ambig .ambiguous
      { State.reset with trace := some (.outcome .ambiguous), link := { resetLink with outbound := full } }
    (s.trace, s.link.outbound.length, s.link.tracesLost) = (none, 60, 2) := by decide +kernel

/-- R162: OUTCOME with argument 12 fails field 2; NEXT with a second field has a bad length. -/
theorem test_trace_arm :
    readTraceArm [2, 12] = .error (.badValue 2) ∧ readTraceArm [0, 0] = .error .badLength ∧
      readTraceArm [1, 1, 0x2C] = .ok (.ticket 300) := by decide

/-! ### 10: the link -/

/-- 10, a crowded queue: a LETTER is dropped; a BATCH takes the place of the newest LETTER not begun. -/
theorem test_crowded_queue :
    let letter : OutFrame := .notice (.letter ⟨none, 0, 0, struck41, none⟩)
    let batch : Notice := .batch .b1 1 10 .count .auto .opened 10 10 0
    let s : State := { State.reset with link := { resetLink with
      outbound := letter :: (List.replicate 58 (.notice (.lost 0 0 0 0)) ++ [letter]) } }
    let s1 := handNotice (.letter ⟨none, 0, 0, struck41, none⟩) s
    let s2 := handNotice batch s1
    (s1.link.reportsLost, s2.link.reportsLost, sharedUsed s2.link, s2.link.outbound.getLast?) =
      (1, 2, 60, some (.notice batch)) := by decide +kernel

/-- R176: when 16 shared slots are free a LOST notice is queued and the counts are 0. -/
theorem test_lost_notice :
    (after? .frameSent { State.reset with link := { resetLink with
      outbound := List.replicate 45 (.notice (.lost 0 0 0 0)), tracesLost := 2 } }).map
      (fun t => (t.link.outbound.getLast?, t.link.tracesLost)) =
      some (some (.notice (.lost 0 2 0 0)), 0) := by decide +kernel

/-- 10, RESET behind a busy queue: the reply's end makes the warm reset due; it purges and queues RESET_DONE. -/
theorem test_warm_reset :
    (((after? .reset { holding struck41 7 with link := { resetLink with
      inbound := [⟨0x92, 7, []⟩], outbound := [] } }).bind (after? .frameSent)).bind (after? .warmReset)).map
      (fun t => (t.run.state, t.tally.life.purged, t.link.outbound)) =
      some (.idle, 1, [.notice (.resetDone .warm 1 7 0 42 0)]) := by decide

/-- R171: with a RESET waiting no request is taken. -/
theorem test_reset_holds_requests :
    after? .status { asking ⟨0x75, 1, []⟩ with link := { resetLink with
      inbound := [⟨0x75, 1, []⟩], reset := .waiting } } = some { asking ⟨0x75, 1, []⟩ with link := { resetLink with
      inbound := [⟨0x75, 1, []⟩], reset := .waiting } } := by decide

/-- R172: a code that is no request code is refused with that code. -/
theorem test_unknown_code :
    (after? .unknownCode (asking ⟨0xC0, 5, [1]⟩)).map (fun t => t.link.outbound) =
      some [.reply 0xC0 5 (.refused .unknownCode)] := by decide

/-- Log 4: with nothing due, an idle step lets one millisecond pass; a due request is taken in its place. -/
theorem test_idle_step :
    (stepped? { State.reset with link := { resetLink with outbound := [] } }).map (fun t => t.uptime) = some 1 ∧
    (stepped? (asking ⟨0x90, 1, [0, 1]⟩)).map (fun t => (t.uptime, t.link.letterEnable)) = some (0, false) := by
  decide

/-! ### Witnesses

For every statement with hypotheses, a state and operands that meet them, each clause at a boundary of its
range where it has one. -/

/-- Whether a step goes on. -/
def goesOn : Host.Outcome State Fault Refusal → Bool
  | .next _ => true
  | _ => false

/-- What goes on has a next state. -/
theorem next_of_goesOn {o : Host.Outcome State Fault Refusal} (h : goesOn o = true) : ∃ t, o = .next t := by
  cases o with
  | next t => exact ⟨t, rfl⟩
  | fault _ => cases h
  | refused _ => cases h

/-- A state with a frame waiting, of which the link holds no slot. -/
def askingIn (f : InFrame) (s : State) : State :=
  { s with link := { resetLink with inbound := [f], outbound := [] } }

/-- The link can take the frame of `askingIn` while no gate exercise holds a reply slot. -/
theorem askingIn_takes (f : InFrame) (s : State) (h : exerciseReplyDue s.gate = false) :
    CanTake (askingIn f s) f [] := by
  refine ⟨rfl, rfl, ?_⟩
  simp [askingIn, slotsHeld, h, Config.replySlots]

/-- The link can take the frame of `asking`. -/
theorem asking_takes (f : InFrame) : CanTake (asking f) f [] := askingIn_takes f State.reset rfl

/-- The edge of `edgeAt` is the oldest of its kind. -/
theorem edgeAt_oldest (c : Cell) (k : Bool) (p : Pos) (s : State) :
    OldestEdge (edgeAt c k p s) [] ⟨c, k, p⟩ [] := ⟨rfl, by simp⟩

/-- RUNNING with ticket 41 about to commit. -/
def busy : State := { edgeAt .s true 1005602 (holding struck41 1005605) with pending := [.arrivalMatch .s] }

/-- The next step of `busy`, for the invariants every step keeps. -/
theorem busy_steps : ∃ t, step busy = .next t := next_of_goesOn (by decide)

/-- A command in front; an empty queue with a request due; one with nothing due. -/
theorem witness_StepRunsFrontCommand :
    busy.pending = .arrivalMatch .s :: [] ∧
    ((asking ⟨0x90, 1, [0, 1]⟩).pending = [] ∧ nextDue (asking ⟨0x90, 1, [0, 1]⟩) = some .setNotices) ∧
    ({ State.reset with link := { resetLink with outbound := [] } }.pending = [] ∧
      nextDue { State.reset with link := { resetLink with outbound := [] } } = none) := by decide

theorem witness_TalliesAgreeKept : TalliesAgree busy ∧ ∃ t, step busy = .next t :=
  ⟨⟨by unfold EntriesBalance; decide, by unfold EntriesBalance; decide, by unfold CommitsAdd; decide,
    by unfold CommitsAdd; decide, fun _ h => nomatch h⟩, busy_steps⟩

theorem witness_CapacitiesKept :
    (TableFits busy ∧ RingsFit busy ∧ QueuesFit busy ∧ LinkFits busy) ∧ ∃ t, step busy = .next t :=
  ⟨by unfold TableFits RingsFit QueuesFit LinkFits; decide, busy_steps⟩

theorem witness_RunControlLegalKept :
    (TableMatchesRun busy ∧ StartMatchesRun busy ∧ ServiceUnmasked busy ∧ BeaconFollows busy) ∧
      ∃ t, step busy = .next t :=
  ⟨⟨by unfold TableMatchesRun; decide, by unfold StartMatchesRun; decide, by unfold ServiceUnmasked; decide,
    (by decide : busy.run.state ≠ .stopped ∧ flashWanted busy = false)⟩, busy_steps⟩

theorem witness_ThrottleFollowsKept : (GeometryLegal busy ∧ ThrottleFollows busy) ∧ ∃ t, step busy = .next t :=
  ⟨by unfold GeometryLegal ThrottleFollows; decide, busy_steps⟩

theorem witness_BinsLegalKept : BinsLegal busy ∧ ∃ t, step busy = .next t :=
  ⟨by unfold BinsLegal BinLegal; decide, busy_steps⟩

theorem witness_HeadsFollowBarsKept : HeadsFollowBars busy ∧ ∃ t, step busy = .next t :=
  ⟨by unfold HeadsFollowBars; decide, busy_steps⟩

theorem witness_DecisionsWholeKept : DecisionsWhole busy ∧ ∃ t, step busy = .next t :=
  ⟨by unfold DecisionsWhole DecidedWhole; decide, busy_steps⟩

theorem witness_ReadingsInRangeKept : ReadingsInRange busy ∧ ∃ t, step busy = .next t :=
  ⟨by unfold ReadingsInRange ChannelInRange SamplesInRange; decide, busy_steps⟩

/-- A receiver at LEN byte `hi`. -/
def atLength (hi : Byte) : State :=
  { State.reset with link := { resetLink with receiver := .inFrame [hi] 5 } }

/-- The largest inbound payload, with the buffer one short of full. -/
theorem witness_FrameHeardByteByByte :
    let s : State := { State.reset with link := { resetLink with inbound := List.replicate 3 ⟨0x75, 0, []⟩ } }
    (List.replicate 254 (0xA5 : Byte)).length ≤ 254 ∧ s.link.receiver = .hunting ∧ s.link.inbound.length < 4 := by
  decide +kernel

/-- LEN 1 and LEN 257, one below and one above the range; the shortest body, its last check byte wrong and right,
the buffer full; the longest body; A5h as both bytes of LEN, and in a body whose check is wrong. -/
theorem witness_ReceiverFaultsCounted :
    let body : List Byte := [0x75, 3]
    let full : State := { State.reset with link := { resetLink with
      inbound := List.replicate 4 ⟨0x75, 0, []⟩, receiver := .inFrame (u16 body.length ++ body ++ [45]) 5 } }
    (State.reset.link.receiver = .hunting ∧ (0xA4 : Byte) ≠ 0xA5 ∧
      (atLength 0).link.receiver = .inFrame [0] 5 ∧ (256 * (0 : Byte).toNat + (1 : Byte).toNat < 2) ∧
      (atLength 1).link.receiver = .inFrame [1] 5 ∧ (256 < 256 * (1 : Byte).toNat + (1 : Byte).toNat)) ∧
    (2 ≤ body.length ∧ body.length ≤ 256 ∧
      full.link.receiver = .inFrame (u16 body.length ++ body ++ [45]) 5 ∧
      [45, 110] ≠ word16 (crc (u16 body.length ++ body)) ∧
      (∀ b ∈ u16 body.length ++ body ++ [45, 110], b ≠ 0xA5) ∧
      [45, 111] = word16 (crc (u16 body.length ++ body)) ∧ 4 ≤ full.link.inbound.length) ∧
    (List.replicate 256 (0 : Byte)).length ≤ 256 ∧
    ((atLength 0xA5).link.receiver = .inFrame [0xA5] 5 ∧ 256 < 256 * (0xA5 : Byte).toNat + (0xA5 : Byte).toNat) ∧
    [0, 0] ≠ word16 (crc (u16 2 ++ [0xA5, 3])) := by decide +kernel

/-- A RESET's reply at the front with a lost count, 16 slots free. -/
theorem witness_FrameSentFreesSlot :
    let s : State := { State.reset with link := { resetLink with
      outbound := .reply 0x92 7 (.ok []) :: List.replicate 44 (.notice (.lost 0 0 0 0))
      reset := .waiting, eventsLost := 1 } }
    s.link.outbound = .reply 0x92 7 (.ok []) :: List.replicate 44 (.notice (.lost 0 0 0 0)) ∧
      s.link.reset ≠ .acting := by decide

/-- A link with these frames in the outbound queue. -/
def queued (fs : List OutFrame) : State := { State.reset with link := { resetLink with outbound := fs } }

/-- A COMMITTED report of ticket 41. -/
def aLetter : LetterReport := ⟨none, 0, 0, struck41, none⟩

/-- One slot free, none free, a bulk notice last in the queue, and no bulk notice in it. -/
theorem witness_NoticePlacedOrJudged :
    let event : OutFrame := .notice (.lost 0 0 0 0)
    { resetLink with letterEnable := false }.letterEnable = false ∧
    { resetLink with traceEnable := false }.traceEnable = false ∧
    (State.reset.link.letterEnable = true ∧ State.reset.link.traceEnable = true ∧
      sharedUsed (queued (List.replicate 59 event)).link < 60) ∧
    (isBulk (.notice (.letter aLetter)) = true ∧ 60 ≤ sharedUsed (queued (List.replicate 60 event)).link) ∧
    (isBulk event = false ∧
      60 ≤ sharedUsed (queued (List.replicate 59 event ++ .notice (.letter aLetter) :: [])).link ∧
      begun (queued (List.replicate 59 event ++ .notice (.letter aLetter) :: [])).link ≤
        (List.replicate 59 event).length ∧ isBulk (.notice (.letter aLetter)) = true) ∧
    (∀ x ∈ (queued (List.replicate 60 event)).link.outbound.drop
      (begun (queued (List.replicate 60 event)).link), isBulk x = false) := by
  decide +kernel

/-- An empty buffer; a code that is none; a RUN with a field. -/
theorem witness_RequestsWaitOrRefuse :
    .run ∈ requestRows ∧ State.reset.link.inbound = [] ∧
    (CanTake (asking ⟨0x13, 0, []⟩) ⟨0x13, 0, []⟩ [] ∧ (0x13 : Byte) ∉ requestCodes) ∧
    ((0x70, .run) ∈ bareRequests ∧ CanTake (asking ⟨0x70, 0, [0]⟩) ⟨0x70, 0, [0]⟩ [] ∧ ([0] : List Byte) ≠ []) :=
  ⟨by decide, rfl, ⟨asking_takes _, by decide⟩, by decide, asking_takes _, by decide⟩

theorem witness_ReadingRequestsAnswer :
    ∀ code ∈ ([0x11, 0x12, 0x43, 0x54, 0x75, 0x24, 0x91] : List Byte),
      CanTake (asking ⟨code, 0, []⟩) ⟨code, 0, []⟩ [] := fun _ _ => asking_takes _

/-- The lowest dom8 with the highest floor. -/
theorem witness_SettingsReadOrInstalled :
    (∀ code ∈ ([0x30, 0x40, 0x50, 0x74, 0x90] : List Byte),
      CanTake (asking ⟨code, 0, []⟩) ⟨code, 0, []⟩ []) ∧
    (CanTake (asking ⟨0x30, 0, encDecide ⟨12, 65535⟩⟩) ⟨0x30, 0, encDecide ⟨12, 65535⟩⟩ [] ∧
      12 ≤ (⟨12, 65535⟩ : DecideRecord).dom8 ∧ (⟨12, 65535⟩ : DecideRecord).floor ≤ 65535) ∧
    CanTake (asking ⟨0x90, 0, flag false ++ flag true⟩) ⟨0x90, 0, flag false ++ flag true⟩ [] :=
  ⟨fun _ _ => asking_takes _, ⟨asking_takes _, by decide⟩, asking_takes _⟩

/-- The default plan; field 24 at 7; field 1 at 0; no fields; 23 fields. -/
theorem witness_SetPlanInstallsOrRefuses :
    let inRange := fun (i : Nat) (b : Byte) => (1 - i % 2) ≤ b.toNat ∧ b.toNat ≤ 6
    let last : List Byte := List.replicate 23 6 ++ [7]
    let first : List Byte := 0 :: List.replicate 23 1
    CanTake (asking ⟨0x50, 0, encPlan defaultPlan⟩) ⟨0x50, 0, encPlan defaultPlan⟩ [] ∧
    (CanTake (asking ⟨0x50, 0, last⟩) ⟨0x50, 0, last⟩ [] ∧ last.length = 24 ∧ ¬inRange 23 last[23] ∧
      ∀ (j : Nat) (g : j < 23), inRange j (last[j]'(by simp [last]; omega))) ∧
    (CanTake (asking ⟨0x50, 0, first⟩) ⟨0x50, 0, first⟩ [] ∧ first.length = 24 ∧ ¬inRange 0 first[0]) ∧
    CanTake (asking ⟨0x50, 0, []⟩) ⟨0x50, 0, []⟩ [] ∧
    (CanTake (asking ⟨0x50, 0, List.replicate 23 1⟩) ⟨0x50, 0, List.replicate 23 1⟩ [] ∧
      List.replicate 23 (1 : Byte) ≠ [] ∧ (List.replicate 23 (1 : Byte)).length ≠ 24) :=
  ⟨asking_takes _, ⟨asking_takes _, by decide, by decide, by decide⟩, ⟨asking_takes _, by decide, by decide⟩,
    asking_takes _, asking_takes _, by decide, by decide⟩

/-- The default record in IDLE and in RUNNING; the thresholds at their bounds. -/
theorem witness_GeometryTrimAndDetectInstalled :
    let h : Threshold := ⟨2040, 2040, 7, 1, 7, 255, 400⟩
    (CanTake (asking ⟨0x10, 0, encGeometry defaultGeometry⟩) ⟨0x10, 0, encGeometry defaultGeometry⟩ [] ∧
      defaultGeometry.badField = none ∧
      (asking ⟨0x10, 0, encGeometry defaultGeometry⟩).run.state = .idle) ∧
    (CanTake (askingIn ⟨0x10, 0, encGeometry defaultGeometry⟩ rolling)
      ⟨0x10, 0, encGeometry defaultGeometry⟩ [] ∧ rolling.run.state ≠ .idle) ∧
    CanTake (asking ⟨0x22, 0, u8 3 ++ u8 15⟩) ⟨0x22, 0, u8 3 ++ u8 15⟩ [] ∧
    (CanTake (asking ⟨0x20, 0, u8 3 ++ encThreshold h⟩) ⟨0x20, 0, u8 3 ++ encThreshold h⟩ [] ∧
      1 ≤ h.tagHigh ∧ h.tagHigh ≤ 2040 ∧ h.tagLow ≤ h.tagHigh ∧ h.transLow ≤ h.transHigh ∧ 1 ≤ h.meterHigh ∧
      h.meterHigh ≤ 2040 ∧ h.transHigh ≤ 7 ∧ h.transLevel ≤ 255 ∧ 16 ≤ h.minMark ∧ h.minMark ≤ 400) ∧
    (∀ r ∈ calRunning State.reset.cal, r.channel ≠ .bl) :=
  ⟨⟨asking_takes _, by decide, by decide⟩, ⟨askingIn_takes _ _ (by decide), by decide⟩, asking_takes _,
    ⟨asking_takes _, by decide⟩, by decide⟩

/-- SET_GEOMETRY outside IDLE; the first and the last field out of range; the second and the last place not greater; each
margin one step short; SET_TRIM and SET_DETECT with their first and last field out of range; wrong lengths. -/
theorem witness_GeometryTrimAndDetectRefused :
    let bad := fun x : Nat × Nat × Nat => x.1 < x.2.1 ∨ x.2.2 < x.1
    let g := defaultGeometry
    let narrow : Geometry → Prop := fun g =>
      (∀ x ∈ g.chain.map Prod.snd ++ [g.minLen, g.maxLen, g.stallTime, g.startTime, g.startDistance], x ≤ 65535) ∧
      (∀ x ∈ [g.jamTol, g.filter, g.gateLead, g.gateClear, g.flapLead, g.flapClear, g.gateConfirm, g.holdMark],
        x ≤ 255)
    let places := fun g : Geometry => g.chain.map Prod.snd
    let first : Geometry := { g with scanLine := 0 }
    let last : Geometry := { g with holdMark := 32 }
    let second : Geometry := { g with cellG := 400 }
    let twelfth : Geometry := { g with flaps := ⟨5800, 6100, 6400, 6700, 6700⟩ }
    let decision : Geometry := { g with cellG := 1000, gate := 1115 }
    let strike : Geometry := { g with cellS := 5439 }
    let flap : Geometry := { g with flaps := ⟨5639 + g.flapLead, 6100, 6400, 6700, 7000⟩ }
    let h : Threshold := ⟨2040, 2040, 7, 1, 7, 255, 401⟩
    (∀ g : Geometry, CanTake (asking ⟨0x10, 0, encGeometry g⟩) ⟨0x10, 0, encGeometry g⟩ []) ∧
    (CanTake (askingIn ⟨0x10, 0, encGeometry first⟩ rolling) ⟨0x10, 0, encGeometry first⟩ [] ∧
      rolling.run.state ≠ .idle) ∧ State.reset.run.state = .idle ∧
    (∀ g ∈ [first, last, second, twelfth, decision, strike, flap], narrow g) ∧
    (first.ranges = [] ++ (0, 1, 20000) :: first.ranges.tail ∧ bad (0, 1, 20000)) ∧
    (last.ranges = last.ranges.take 24 ++ (32, 8, 31) :: [] ∧ (∀ z ∈ last.ranges.take 24, ¬bad z) ∧ bad (32, 8, 31)) ∧
    (∀ g ∈ [second, twelfth, decision, strike, flap], ∀ z ∈ g.ranges, ¬bad z) ∧
    (places second = [] ++ 400 :: 400 :: (places second).drop 2 ∧ ([] ++ [400]).Pairwise (· < ·)) ∧
    (places twelfth = (places twelfth).take 10 ++ 6700 :: 6700 :: [] ∧
      ((places twelfth).take 10 ++ [6700]).Pairwise (· < ·)) ∧
    (∀ g ∈ [decision, strike, flap], (places g).Pairwise (· < ·)) ∧
    (decision.decisionMargin = false ∧ { decision with gate := 1116 }.decisionMargin = true) ∧
    (strike.decisionMargin = true ∧ strike.strikeMargin = false ∧ { strike with cellS := 5440 }.strikeMargin = true) ∧
    (flap.decisionMargin = true ∧ flap.strikeMargin = true ∧ flap.flapMargin = false) ∧
    (∀ p ∈ ([[4, 0], [3, 16]] : List (List Byte)), CanTake (asking ⟨0x22, 0, p⟩) ⟨0x22, 0, p⟩ []) ∧
    (∀ c : Byte, CanTake (asking ⟨0x20, 0, c :: encThreshold h⟩) ⟨0x20, 0, c :: encThreshold h⟩ []) ∧
    (bad ((4 : Byte).toNat, 0, 3) ∧ ¬bad ((3 : Byte).toNat, 0, 3) ∧ bad (h.minMark, 16, 400) ∧ h.minMark ≤ 65535 ∧
      ∀ z ∈ [(h.tagHigh, 1, 2040), (h.tagLow, 0, h.tagHigh), (h.transLow, 0, 7), (h.meterHigh, 1, 2040),
        (h.transHigh, h.transLow, 7), (h.transLevel, 0, 255)], ¬bad z) ∧
    (∀ code ∈ ([0x10, 0x20, 0x22] : List Byte), CanTake (asking ⟨code, 0, []⟩) ⟨code, 0, []⟩ []) :=
  ⟨fun _ => asking_takes _, ⟨askingIn_takes _ _ (by decide), by decide⟩, by decide, by decide, by decide, by decide,
    by decide, by decide, by decide, by decide, by decide, by decide, by decide, fun _ _ => asking_takes _,
    fun _ => asking_takes _, by decide, fun _ _ => asking_takes _⟩

theorem witness_GetDetectReadsChannel :
    (CanTake (asking ⟨0x21, 0, [3]⟩) ⟨0x21, 0, [3]⟩ [] ∧ (3 : Byte).toNat = channelNumber .bl) ∧
    (CanTake (asking ⟨0x21, 0, [4]⟩) ⟨0x21, 0, [4]⟩ [] ∧ 3 < (4 : Byte).toNat) :=
  ⟨⟨asking_takes _, by decide⟩, asking_takes _, by decide⟩

/-- FORCE_ON at the ends of the times' ranges. -/
theorem witness_LampsWakeRestAndObey :
    { resetLamps with record := ⟨.forceOn, 0, 5⟩ }.record.mode ≠ .auto ∧ State.reset.lamps.record.mode = .auto ∧
    0 < State.reset.lamps.record.saver ∧ State.reset.lamps.saver = some 10000 ∧
    { resetLamps with state := ⟨.warming 40, .on⟩ }.state.get .a = .warming 40 ∧
    CanTake (asking ⟨0x23, 0, encLampRecord ⟨.forceOn, 600000, 5⟩⟩) ⟨0x23, 0, encLampRecord ⟨.forceOn, 600000, 5⟩⟩
      [] ∧ (⟨.forceOn, 600000, 5⟩ : LampRecord).saver ≤ 600000 ∧ 5 ≤ (⟨.forceOn, 600000, 5⟩ : LampRecord).warm :=
  ⟨by decide, by decide, by decide, by decide, by decide, asking_takes _, by decide, by decide⟩

/-- The record of the widest values; a plate of twelve characters; slot 4. -/
theorem witness_CancelSettingsInstalled :
    let r : CancelRecord := ⟨40, 40, 120, 20, 100, ⟨false, true⟩⟩
    let q : Plate := ⟨List.replicate 12 126, 31, 12, 2099, 90, 15⟩
    (CanTake (asking ⟨0x40, 0, encCancel r⟩) ⟨0x40, 0, encCancel r⟩ [] ∧ r.leadMargin ≤ 40 ∧
      r.trailMargin ≤ 40 ∧ r.postmark ≤ 120 ∧ 2 ≤ r.clearance ∧ r.clearance ≤ 20 ∧ 2 ≤ r.recharge ∧
      r.recharge ≤ 100 ∧ State.reset.cancel.heads.a.waiting = false ∧
      ∀ (h : Head) (left : Nat), (State.reset.cancel.heads.get h).state ≠ .striking (.test left)) ∧
    (CanTake (asking ⟨0x41, 0, u8 4 ++ encPlate q⟩) ⟨0x41, 0, u8 4 ++ encPlate q⟩ [] ∧
      officeOk q.office = true ∧ 1 ≤ q.day ∧ q.day ≤ 31 ∧ 1 ≤ q.month ∧ q.month ≤ 12 ∧ 2000 ≤ q.year ∧
      q.year ≤ 2099 ∧ 65 ≤ q.shift.toNat ∧ q.shift.toNat ≤ 90 ∧ q.slogan ≤ 15) ∧
    CanTake (asking ⟨0x42, 0, u8 4⟩) ⟨0x42, 0, u8 4⟩ [] ∧ CanTake (asking ⟨0x42, 0, [0]⟩) ⟨0x42, 0, [0]⟩ [] := by
  refine ⟨⟨asking_takes _, by decide, by decide, by decide, by decide, by decide, by decide, by decide,
    by decide, ?_⟩, ⟨asking_takes _, by decide⟩, asking_takes _, asking_takes _⟩
  intro h left
  cases h <;> simp [State.reset, PerHead.all, PerHead.get]

/-- Bin 6 with this record. -/
def bin6 (r : BinRecord) : State :=
  { State.reset with stacker := { resetStacker with bins := { resetStacker.bins with b6 := r } } }

theorem witness_BinReleaseReloads :
    let shut : BinRecord := ⟨1000, some 5000, 0, .hold, .closed, 65535⟩
    (CanTake (askingIn ⟨0x53, 0, u8 6⟩ (bin6 shut)) ⟨0x53, 0, u8 6⟩ [] ∧
      (askingIn ⟨0x53, 0, u8 6⟩ (bin6 shut)).stacker.bins.get .b6 = shut ∧ shut.state = .closed) ∧
    (CanTake (asking ⟨0x53, 0, u8 1⟩) ⟨0x53, 0, u8 1⟩ [] ∧
      ((asking ⟨0x53, 0, u8 1⟩).stacker.bins.get .b1).state = .opened) ∧
    (CanTake (asking ⟨0x53, 0, [7]⟩) ⟨0x53, 0, [7]⟩ [] ∧ ((7 : Byte).toNat < 1 ∨ 6 < (7 : Byte).toNat)) :=
  ⟨⟨askingIn_takes _ _ (by decide), by decide, by decide⟩, ⟨asking_takes _, by decide⟩, asking_takes _,
    by decide⟩

/-- The largest base; a CLOSED bin; an OPEN bin in each mode. -/
theorem witness_BinSetAndClosed :
    let shut : BinRecord := ⟨1000, none, 0, .auto, .closed, 0⟩
    let auto : BinRecord := ⟨1000, some 1, 1, .auto, .opened, 65535⟩
    let hold : BinRecord := ⟨1000, some 1, 1, .hold, .opened, 65535⟩
    CanTake (asking ⟨0x51, 0, u8 6 ++ u16 5000 ++ u8 1⟩) ⟨0x51, 0, u8 6 ++ u16 5000 ++ u8 1⟩ [] ∧
    ∀ r ∈ [shut, auto, hold], CanTake (askingIn ⟨0x52, 0, u8 6⟩ (bin6 r)) ⟨0x52, 0, u8 6⟩ [] ∧
      (askingIn ⟨0x52, 0, u8 6⟩ (bin6 r)).stacker.bins.get .b6 = r :=
  ⟨asking_takes _, fun _ _ => ⟨askingIn_takes _ _ rfl, rfl⟩⟩

/-- A snapshot held, for the latch and the read. -/
def withSnapshot : State :=
  { State.reset with tally := { resetTally with held := some ⟨65535, zeroTallies, zeroTallies, 0, 0, 0, 32⟩ } }

theorem witness_TallyLatchTakesOrHolds :
    CanTake (asking ⟨0x60, 0, [0]⟩) ⟨0x60, 0, [0]⟩ [] ∧
    (CanTake (asking ⟨0x60, 0, []⟩) ⟨0x60, 0, []⟩ [] ∧ (asking ⟨0x60, 0, []⟩).tally.held = none) ∧
    (CanTake (askingIn ⟨0x60, 0, []⟩ withSnapshot) ⟨0x60, 0, []⟩ [] ∧
      (askingIn ⟨0x60, 0, []⟩ withSnapshot).tally.held =
        some ⟨65535, zeroTallies, zeroTallies, 0, 0, 0, 32⟩) :=
  ⟨asking_takes _, ⟨asking_takes _, by decide⟩, askingIn_takes _ _ (by decide), by decide⟩

theorem witness_TallyReadReleasesAndClears :
    (CanTake (asking ⟨0x61, 0, [2]⟩) ⟨0x61, 0, [2]⟩ [] ∧ 1 < (2 : Byte).toNat) ∧
    (CanTake (asking ⟨0x61, 0, [0, 0]⟩) ⟨0x61, 0, [0, 0]⟩ [] ∧ ([0, 0] : List Byte).length ≠ 1) ∧
    CanTake (askingIn ⟨0x61, 0, flag true⟩ withSnapshot) ⟨0x61, 0, flag true⟩ [] ∧
    CanTake (asking ⟨0x61, 0, flag false⟩) ⟨0x61, 0, flag false⟩ [] :=
  ⟨⟨asking_takes _, by decide⟩, ⟨asking_takes _, by decide⟩, askingIn_takes _ _ (by decide), asking_takes _⟩

/-- The reset state in a run state, with STACK_FULL in service or not. -/
def standing (r : RunState) (full : Bool) : State :=
  { State.reset with run := { resetRun with
      state := r, causes := { resetCauses with stackFull := ⟨false, false, full, .feedHold, .none⟩ } } }

/-- RUN in each run state with and without a cause in service; FINISH with and without a ticket; HALT. -/
theorem witness_RunFinishAndHalt :
    (∀ r : RunState, ∀ full : Bool, CanTake (askingIn ⟨0x70, 0, []⟩ (standing r full)) ⟨0x70, 0, []⟩ [] ∧
      (askingIn ⟨0x70, 0, []⟩ (standing r full)).run.state = r ∧
      leadingCause (askingIn ⟨0x70, 0, []⟩ (standing r full)) = if full then some .stackFull else none) ∧
    (CanTake (askingIn ⟨0x71, 0, []⟩ (holding struck41 0)) ⟨0x71, 0, []⟩ [] ∧
      (holding struck41 0).run.state = .running ∧ (holding struck41 0).tracker.table ≠ []) ∧
    (CanTake (askingIn ⟨0x71, 0, []⟩ (standing .held false)) ⟨0x71, 0, []⟩ [] ∧
      (standing .held false).tracker.table = []) ∧
    CanTake (asking ⟨0x71, 0, []⟩) ⟨0x71, 0, []⟩ [] ∧
    (CanTake (askingIn ⟨0x72, 0, []⟩ (holding struck41 0)) ⟨0x72, 0, []⟩ [] ∧
      (holding struck41 0).run.state ≠ .idle) ∧
    CanTake (asking ⟨0x72, 0, []⟩) ⟨0x72, 0, []⟩ [] :=
  ⟨fun r full => ⟨askingIn_takes _ _ rfl, rfl, by cases full <;> rfl⟩,
    ⟨askingIn_takes _ _ (by decide), by decide, by decide⟩, ⟨askingIn_takes _ _ (by decide), by decide⟩,
    asking_takes _, ⟨askingIn_takes _ _ (by decide), by decide⟩, asking_takes _⟩

/-- A value of 9; 0 with no cause in service; DOOR held active; JAM absent; STACK_FULL in service, and in service in
STOPPED with no BELT_STOP cause left; LINK_LOSS requested and masked; every setting at 0 but the timeout, 60,000, which
masks STACK_FULL in service; LINK_LOSS unmasked. -/
theorem witness_CausesClearedAndSet :
    let opened : State := { State.reset with pins := { quietPins with door := true } }
    let lost : State := { State.reset with run := { resetRun with
      causes := { resetCauses with linkLoss := ⟨true, true, false, .feedHold, .none⟩ } } }
    let v : CauseSettings := ⟨⟨true, true, true, true, true, true, true, true⟩, .beltStop, .beltStop, .beltStop,
      60000⟩
    (CanTake (asking ⟨0x73, 0, [9]⟩) ⟨0x73, 0, [9]⟩ [] ∧ 8 < (9 : Byte).toNat) ∧
    (CanTake (asking ⟨0x73, 0, [0]⟩) ⟨0x73, 0, [0]⟩ [] ∧ leadingCause (asking ⟨0x73, 0, [0]⟩) = none) ∧
    (CanTake (askingIn ⟨0x73, 0, [1]⟩ opened) ⟨0x73, 0, [1]⟩ [] ∧ (1 : Byte).toNat = causeNumber .door ∧
      heldActive (askingIn ⟨0x73, 0, [1]⟩ opened).pins .door = true) ∧
    (CanTake (asking ⟨0x73, 0, [3]⟩) ⟨0x73, 0, [3]⟩ [] ∧ (3 : Byte).toNat = causeNumber .jam ∧
      heldActive (asking ⟨0x73, 0, [3]⟩).pins .jam = false ∧ requestPresent (asking ⟨0x73, 0, [3]⟩) .jam = false) ∧
    (CanTake (askingIn ⟨0x73, 0, [0]⟩ (standing .held true)) ⟨0x73, 0, [0]⟩ [] ∧
      leadingCause (standing .held true) = some .stackFull ∧
      heldActive (standing .held true).pins .stackFull = false ∧
      ((standing .held true).run.causes.get .stackFull).inService = true ∧
      (standing .stopped true).run.state = .stopped ∧
      beltStopGroup { standing .stopped true with run := { (standing .stopped true).run with
        causes := resetCauses.set .stackFull ⟨false, false, false, .feedHold, .none⟩ } } = false) ∧
    (CanTake (askingIn ⟨0x73, 0, [8]⟩ lost) ⟨0x73, 0, [8]⟩ [] ∧ (8 : Byte).toNat = causeNumber .linkLoss ∧
      heldActive lost.pins .linkLoss = false ∧ (lost.run.causes.get .linkLoss).inService = false ∧
      requestPresent lost .linkLoss = true) ∧
    (CanTake (askingIn ⟨0x74, 0, [0, 0, 0, 0, 0, 0, 0, 1, 0, 0, 0, 0, 100]⟩ lost)
        ⟨0x74, 0, [0, 0, 0, 0, 0, 0, 0, 1, 0, 0, 0, 0, 100]⟩ [] ∧
      readCauses [0, 0, 0, 0, 0, 0, 0, 1, 0, 0, 0, 0, 100] =
        .ok (some { v with masked := v.masked.set .linkLoss false, linkTimeout := 100 }) ∧
      ServiceUnmasked lost ∧ (lost.run.causes.get .linkLoss).masked = true ∧
      ([.door, .extStop, .jam, .beltStall, .tableFull, .actuator, .stackFull, .linkLoss] : List Cause).map causeNumber =
        [1, 2, 3, 4, 5, 6, 7, 8]) ∧
    (CanTake (askingIn ⟨0x74, 0, List.replicate 11 0 ++ u16 60000⟩ (standing .held true))
        ⟨0x74, 0, List.replicate 11 0 ++ u16 60000⟩ [] ∧
      readCauses (List.replicate 11 0 ++ u16 60000) = .ok (some v) ∧ ServiceUnmasked (standing .held true)) :=
  ⟨⟨asking_takes _, by decide⟩, ⟨asking_takes _, by decide⟩,
    ⟨askingIn_takes _ _ (by decide), by decide, by decide⟩,
    ⟨asking_takes _, by decide, by decide, by decide⟩,
    ⟨askingIn_takes _ _ (by decide), by decide, by decide, by decide, by decide, by decide⟩,
    ⟨askingIn_takes _ _ (by decide), by decide, by decide, by decide, by decide⟩,
    ⟨askingIn_takes _ _ (by decide), by rfl, by unfold ServiceUnmasked; decide, by decide⟩,
    askingIn_takes _ _ (by decide), by rfl, by unfold ServiceUnmasked; decide⟩

theorem witness_FaultReadKeepsOrEmpties :
    (∀ v ∈ ([0, 1, 2] : List Byte), CanTake (asking ⟨0x76, 0, [v]⟩) ⟨0x76, 0, [v]⟩ []) ∧ 1 < (2 : Byte).toNat ∧
    CanTake (asking ⟨0x76, 0, []⟩) ⟨0x76, 0, []⟩ [] ∧ State.reset.run.faults = ⟨none, none, 0⟩ :=
  ⟨fun _ _ => asking_takes _, by decide, asking_takes _, by decide⟩

/-- Each request at the ends of its ranges, CAL_APPLY in OFF; a deviation of a running calibration; a cold, a LONG and a
plain ticket; the third and the fourth clipped mark of AU, its third and fourth valid peak of four, an average of 0
and one of 1; each condition of an arm, met and not met. -/
theorem witness_CalibrationAndTraceRequests :
    let ready : State := { State.reset with cal := .ready ⟨.au, 1200, 4, 4400, 4, 1⟩ ⟨1100, 3, false⟩ }
    let collecting := fun r : CalRecord => ({ State.reset with cal := .collecting r } : State)
    let mark := fun (p : Nat) (clip : Bool) => (⟨.au, .stamp, 0, 40, 900, clip, p⟩ : Mark)
    (CanTake (asking ⟨0x80, 0, u8 3 ++ u16 2000 ++ u8 16⟩) ⟨0x80, 0, u8 3 ++ u16 2000 ++ u8 16⟩ [] ∧
      CanTake (asking ⟨0x80, 0, u8 3⟩) ⟨0x80, 0, u8 3⟩ [] ∧
      (CanTake (askingIn ⟨0x81, 0, []⟩ ready) ⟨0x81, 0, []⟩ [] ∧
        (askingIn ⟨0x81, 0, []⟩ ready).cal = .ready ⟨.au, 1200, 4, 4400, 4, 1⟩ ⟨1100, 3, false⟩) ∧
      (CanTake (asking ⟨0x81, 0, []⟩) ⟨0x81, 0, []⟩ [] ∧ ∀ r p, (asking ⟨0x81, 0, []⟩).cal ≠ .ready r p) ∧
      CanTake (askingIn ⟨0x82, 0, []⟩ ready) ⟨0x82, 0, []⟩ [] ∧
      (∀ p ∈ ([[0], 1 :: word16 65535, 2 :: u8 11] : List (List Byte)),
        CanTake (asking ⟨0x83, 0, p⟩) ⟨0x83, 0, p⟩ []) ∧
      CanTake (asking ⟨0x84, 0, []⟩) ⟨0x84, 0, []⟩ []) ∧
    calRunning ready.cal = some ⟨.au, 1200, 4, 4400, 4, 1⟩ ∧
    ({ ticket41 with cold := ⟨false, true⟩ }.cold.b = true ∧ { ticket41 with size := some .long }.size = some .long ∧
      ticket41.cold.a = false ∧ ticket41.cold.b = false ∧ ticket41.size ≠ some .long ∧
      ∀ r, State.reset.cal ≠ .collecting r) ∧
    ((collecting ⟨.au, 1200, 4, 0, 3, 2⟩).cal = .collecting ⟨.au, 1200, 4, 0, 3, 2⟩ ∧
      (mark 0 false).channel = .au ∧ (mark 0 false).kind = .stamp ∧
      (⟨.al, .stamp, 0, 40, 900, false, 0⟩ : Mark).channel ≠ .au ∧ (mark 0 true).clipped = true ∧
      (2 : Nat) + 1 < 4 ∧ 4 ≤ (3 : Nat) + 1 ∧ (2 : Nat) + 1 < 4 ∧ 4 ≤ (3 : Nat) + 1 ∧
      (0 + (mark 0 false).peak) / 4 = 0 ∧ 0 < (0 + (mark 4 false).peak) / 4) ∧
    ((∀ cond ∈ (none : Option TraceCond), (∃ n, cond = .ticket n ∧ n ≠ 41) ∨ ∃ p, cond = .outcome p ∧ p ≠ .long) ∧
      (∀ cond ∈ some (TraceCond.ticket 40), (∃ n, cond = .ticket n ∧ n ≠ ticket41.number) ∨
        ∃ p, cond = .outcome p ∧ p ≠ LetterOutcome.long) ∧
      (TraceCond.ticket 41 = .ticket ticket41.number ∧ TraceCond.outcome .long = .outcome .long)) := by
  refine ⟨⟨asking_takes _, asking_takes _, ⟨askingIn_takes _ _ (by decide), by decide⟩,
    ⟨asking_takes _, fun _ _ h => nomatch h⟩, askingIn_takes _ _ (by decide), fun _ _ => asking_takes _,
    asking_takes _⟩, by decide, ⟨by decide, by decide, by decide, by decide, by decide, fun _ h => nomatch h⟩,
    by decide, by simp, ?_, by decide⟩
  rintro cond h
  cases h
  exact .inl ⟨40, rfl, by decide⟩

/-- Frames of each actuator, of a wrong length, and with a field one past its range; a flap that is OPEN, a head that
is RECHARGING and one that is DISABLED, a confirm and an exercise in progress, and RUNNING. -/
theorem witness_ExercisesStart :
    let busy : State := { State.reset with
      gate := { State.reset.gate with confirm := some ⟨.turn, 51, 9⟩ }
      stacker := { resetStacker with flaps := { resetStacker.flaps with f5 := true } }
      cancel := { resetCancel with
        heads := ⟨{ resetHead with state := .recharging 5 }, { resetHead with state := .disabled }⟩ } }
    let held : State := { State.reset with gate := { State.reset.gate with exercise := some (.flap .f1 50) } }
    (∀ s ∈ [State.reset, busy, held, rolling],
      ∀ p ∈ ([[0, 0], [0, 1], [1, 5], [2, 1], [0], [3, 0], [0, 2], [1, 0], [1, 6], [2, 2]] : List (List Byte)),
      CanTake (askingIn ⟨0x38, 0, p⟩ s) ⟨0x38, 0, p⟩ []) ∧
    (busy.gate.confirm ≠ none ∧ busy.gate.exercise = none ∧ busy.stacker.flaps.get .f5 = true ∧
      (busy.cancel.heads.get .a).state = .recharging 5 ∧ (busy.cancel.heads.get .b).state = .disabled) ∧
    (held.gate.exercise ≠ none ∧ rolling.run.state ≠ .idle) ∧
    State.reset.run.state = .idle ∧ State.reset.gate.exercise = none ∧ State.reset.gate.confirm = none ∧
    gateReads State.reset.pins .turn = false ∧ gateReads State.reset.pins .straight = true ∧
    State.reset.stacker.flaps.get .f5 = false ∧ (State.reset.cancel.heads.get .b).state = .ready := by
  refine ⟨fun s hs p _ => askingIn_takes _ s ?_, by decide, by decide, by decide⟩
  revert s
  decide

/-- A warm reset due in RUNNING with a ticket in the table and a lost count; with the door open and a head at
fault, and with every input quiet. -/
theorem witness_ResetRunsWarmReset :
    let s : State := { holding struck41 7 with link := { resetLink with reset := .acting, tracesLost := 1 } }
    let open' : State := { s with pins := { quietPins with door := true, headFault := ⟨true, false⟩ } }
    CanTake (asking ⟨0x92, 0, []⟩) ⟨0x92, 0, []⟩ [] ∧ State.reset.link.reset ≠ .acting ∧
    (s.link.reset = .acting ∧ StartMatchesRun s ∧ levelActive s.pins .door = false ∧
      levelActive s.pins .extStop = false ∧ levelActive s.pins .stackFull = false ∧
      s.pins.headFault = ⟨false, false⟩) ∧
    (open'.link.reset = .acting ∧ StartMatchesRun open') :=
  ⟨asking_takes _, by decide, by unfold StartMatchesRun; decide, by unfold StartMatchesRun; decide⟩

theorem witness_PowerOnGivesResetState :
    quietPins.door = false ∧ quietPins.extStop = false ∧ quietPins.binFull.b6 = false ∧
      quietPins.headFault = ⟨false, false⟩ := by decide

/-- A run one short of the filter. -/
theorem witness_PulseCountsAndFilters : (15 : Nat) < 16 := by decide

theorem witness_PulseGainsSamples :
    ∃ t, exec (.encoderPulse darkPulse) State.reset = .next t := next_of_goesOn (by decide)

/-- 31 tickets and 32 tickets in RUNNING; an edge in IDLE. -/
theorem witness_EntryEdgeByRunState :
    let s := fun n => edgeAt .e true 9 { rolling with tracker := { resetTracker with
      table := List.replicate n blankTicket } }
    (OldestEdge (s 31) [] ⟨.e, true, 9⟩ [] ∧ tracks (s 31).run.state = true ∧ (s 31).tracker.table.length < 32) ∧
    (OldestEdge (s 32) [] ⟨.e, true, 9⟩ [] ∧ tracks (s 32).run.state = true ∧ 32 ≤ (s 32).tracker.table.length) ∧
    (OldestEdge (edgeAt .e true 9 State.reset) [] ⟨.e, true, 9⟩ [] ∧
      tracks (edgeAt .e true 9 State.reset).run.state = false) :=
  ⟨⟨edgeAt_oldest _ _ _ _, by decide, by simp [edgeAt, rolling]⟩,
    ⟨edgeAt_oldest _ _ _ _, by decide, by simp [edgeAt, rolling]⟩,
    edgeAt_oldest _ _ _ _, by decide⟩

/-- Ticket 41 with its trail still to come. -/
def entering41 : Ticket := { ticket41 with trail := none, length := none, state := .entering }

/-- An edge in IDLE; the youngest ticket with a trail, and without one. -/
theorem witness_TrailingEdgeRecorded :
    (OldestEdge (edgeAt .e false 9 State.reset) [] ⟨.e, false, 9⟩ [] ∧ tracks State.reset.run.state = false) ∧
    (OldestEdge (edgeAt .e false 9 (holding ticket41 9)) [] ⟨.e, false, 9⟩ [] ∧
      tracks (holding ticket41 9).run.state = true ∧
      ∀ y ∈ (holding ticket41 9).tracker.table.getLast?, y.trail ≠ none) ∧
    (OldestEdge (edgeAt .e false 1000179 (holding entering41 1000182)) [] ⟨.e, false, 1000179⟩ [] ∧
      NumbersDiffer (edgeAt .e false 1000179 (holding entering41 1000182)) ∧
      (holding entering41 1000182).tracker.table = [] ++ [entering41] ∧ entering41.trail = none) :=
  ⟨⟨edgeAt_oldest _ _ _ _, by decide⟩, ⟨edgeAt_oldest _ _ _ _, by decide, by decide⟩, edgeAt_oldest _ _ _ _,
    by unfold NumbersDiffer; decide, by decide, by decide⟩

/-- The checks due at lead + 600 and lead + 2400, with a trail and without one. -/
theorem witness_LengthChecksOnce :
    ((holding entering41 1000600).tracker.table.find? (longDue (holding entering41 1000600)) = some entering41 ∧
      trailAbsent (holding entering41 1000600) entering41 = true) ∧
    ((holding ticket41 1000600).tracker.table.find? (longDue (holding ticket41 1000600)) = some ticket41 ∧
      trailAbsent (holding ticket41 1000600) ticket41 = false) ∧
    ((holding entering41 1002400).tracker.table.find? (stuckDue (holding entering41 1002400)) =
        some entering41 ∧ trailAbsent (holding entering41 1002400) entering41 = true) ∧
    ((holding ticket41 1002400).tracker.table.find? (stuckDue (holding ticket41 1002400)) = some ticket41 ∧
      trailAbsent (holding ticket41 1002400) ticket41 = false) ∧
    ticket41.longChecked = false ∧ { ticket41 with longChecked := true, stuckChecked := true }.stuckChecked = true := by
  decide

/-- An edge at the last step of the window at G; in IDLE; a match at S without an outcome. -/
theorem witness_ArrivalEdgesMatched :
    let odd : Ticket := { struck41 with outcome := none }
    (OldestEdge (edgeAt .g true 9 State.reset) [] ⟨arrivalCell .g, true, 9⟩ [] ∧
      tracks State.reset.run.state = false) ∧
    (OldestEdge (edgeAt .g true 1001740 (holding ticket41 1001743)) [] ⟨arrivalCell .g, true, 1001740⟩ [] ∧
      tracks (holding ticket41 1001743).run.state = true ∧
      NumbersDiffer (edgeAt .g true 1001740 (holding ticket41 1001743)) ∧
      (holding ticket41 1001743).tracker.table = [] ++ ticket41 :: [] ∧ eligible ticket41 .g = true ∧
      ticket41.missed = false ∧
      -(defaultGeometry.jamTol : Int) ≤
        ((1001740 : Pos) - (ticket41.lead + BitVec.ofNat 32 (cellPlace defaultGeometry .g))).toInt ∧
      ((1001740 : Pos) - (ticket41.lead + BitVec.ofNat 32 (cellPlace defaultGeometry .g))).toInt ≤
        defaultGeometry.jamTol) ∧
    (OldestEdge (edgeAt .s true 1005602 (holding odd 1005605)) [] ⟨.s, true, 1005602⟩ [] ∧
      (holding odd 1005605).tracker.table.find? (matchesEdge defaultGeometry .s 1005602) = some odd ∧
      odd.outcome = none) :=
  ⟨⟨edgeAt_oldest _ _ _ _, by decide⟩,
    ⟨edgeAt_oldest _ _ _ _, by decide, by unfold NumbersDiffer; decide, by decide, by decide, by decide, by decide,
      by decide⟩,
    edgeAt_oldest _ _ _ _, by decide, by decide⟩

/-- One step past the window at G; a window at G that closes at 1,001,744, with and without an edge in it still waiting; a
ticket missed, and one not. -/
theorem witness_UnmatchedRaisesJam :
    (OldestEdge (edgeAt .g true 1001741 (holding ticket41 1001744)) [] ⟨arrivalCell .g, true, 1001741⟩ [] ∧
      tracks (holding ticket41 1001744).run.state = true ∧
      ∀ z ∈ (holding ticket41 1001744).tracker.table, matchesEdge defaultGeometry .g 1001741 z = false) ∧
    (holding ticket41 1001744).tracker.table.find? (closeDue (holding ticket41 1001744) .g) = some ticket41 ∧
    (⟨arrivalCell .g, true, 1001740⟩ ∈ (edgeAt .g true 1001740 (holding ticket41 1001744)).tracker.edges ∧
      matchesEdge defaultGeometry .g 1001740 ticket41 = true ∧
      closeDue (edgeAt .g true 1001740 (holding ticket41 1001744)) .g ticket41 = false) ∧
    ticket41.missed = false ∧ { ticket41 with missed := true }.missed = true :=
  ⟨⟨edgeAt_oldest _ _ _ _, by decide, by decide⟩, by decide, by decide, by decide, by decide⟩

/-- R17: a ticket whose window closed unmatched is not matched again, and the edge is an unexpected letter. -/
theorem test_closed_window_stays_closed :
    (after? (.arrivalMatch .g) (edgeAt .g true 1001740 (holding { ticket41 with missed := true } 1001743))).map
      (fun t => (t.tally.life.jams, t.run.causes.jam.latch)) = some (1, true) := by decide

theorem witness_CommitCountsOnce :
    let s := edgeAt .s true 1005602 (holding struck41 1005605)
    OldestEdge s [] ⟨.s, true, 1005602⟩ [] ∧ tracks s.run.state = true ∧ NumbersDiffer s ∧
      s.tracker.table = [] ++ struck41 :: [] ∧ matchesEdge s.tracker.geometry .s 1005602 struck41 = true ∧
      struck41.outcome = some .facedA ∧ s.link.letterEnable = true ∧ sharedUsed s.link < 58 :=
  ⟨edgeAt_oldest _ _ _ _, by decide, by unfold NumbersDiffer; decide, by decide, by decide, by decide, by decide,
    by decide⟩

/-- Window 1 at its first step, with that one sample kept. -/
theorem witness_WindowOneStartsSpans :
    let s : State := { holding ticket41 1000400 with
      channels := PerChannel.all { resetChannel with recent := samples 1 30 20 } }
    s.tracker.table.find? (windowDue s) = some ticket41 ∧
    ∀ k ∈ s.channels.toList,
      (s.tracker.belt - (ticket41.lead + BitVec.ofNat 32 s.tracker.geometry.scanLine)).toNat + 1 ≤
        k.recent.length := by decide

/-- A gap window of eight steps on BL alone. -/
theorem witness_GapWindowMovesBaselines :
    let s : State := { State.reset with channels := { State.reset.channels with
      bl := { resetChannel with gap := ⟨1, samples 8 255 0⟩ } } }
    allChannels.find? (fun d => windowReady (s.channels.get d)) = some .bl ∧
    (∀ sp ∈ (s.channels.get .bl).spans, sp.samples.length < 8) ∧ (s.channels.get .bl).gap.samples.length = 8 ∧
    (0 ≤ 2 * 0) := by decide

/-- A span of ticket 41 on BL with eight cold samples, at window 1, at its last window, 62, and for a ticket gone from
the table; the cold flag clear and set; a span complete on all four channels. -/
theorem witness_LetterWindowCompletes :
    let span := fun (n : U16) (k : Nat) =>
      (⟨n, defaultThreshold, windows (List.replicate k .none), 1000400, List.replicate 8 ⟨30, 20, false, true⟩, none⟩ : Span)
    let s := fun sp : Span => ({ holding ticket41 1000408 with channels := { State.reset.channels with
      bl := { resetChannel with spans := [sp] } } } : State)
    (∀ sp ∈ [span 41 0, span 41 61, span 7 0],
      allChannels.find? (fun d => windowReady ((s sp).channels.get d)) = some .bl ∧
      ((s sp).channels.get .bl).spans = [] ++ sp :: [] ∧ 8 ≤ sp.samples.length ∧ NumbersDiffer (s sp) ∧
      (windowOf sp.bound 0 0 sp.start (sp.samples.take 8)).cold = true) ∧
    (∀ y ∈ (s (span 7 0)).tracker.table, y.number ≠ 7) ∧
    (ticket41 ∈ (s (span 41 0)).tracker.table ∧
      (spanEnd defaultGeometry ticket41).any (fun last => decide (last ≤ 1)) = false ∧
      (spanEnd defaultGeometry ticket41).any (fun last => decide (last ≤ 62)) = true) ∧
    (ticketOf (holding ticket41 0) 41 = some ticket41 ∧ ticket41.cold.get .b = false ∧
      ticketOf (holding { ticket41 with cold := ⟨false, true⟩ } 0) 41 = some { ticket41 with cold := ⟨false, true⟩ }) ∧
    ({ ticket41 with spanStarted := true }.spanStarted = true ∧
      (∀ k ∈ (holding ticket41 0).channels.toList, ∀ sp ∈ k.spans, sp.ticket ≠ 41) ∧
      ticket41.size ≠ some .long ∧ ticket41.state ≠ .decided) := by
  unfold NumbersDiffer
  decide

/-- Two STAMP windows of three hold a mark open, one does not; a METER mark opens at the earliest of two windows of
three; a STAMP mark whose last window is the last but one; a list of five and a list of six; a speck of 8 and a
mark of 16 for a ticket gone and for ticket 41. -/
theorem witness_MarksByTwoOfThree :
    2 ≤ countClass (classOfKind .stamp) (considered (windows [.stamp, .none, .stamp])) ∧
    countClass (classOfKind .stamp) (considered (windows [.stamp, .none, .none])) < 2 ∧
    (∃ (before behind : List Window) (w : Window),
      windows [.meter, .stamp, .meter, .meter] = before ++ w :: behind ∧ behind.length ≤ 2 ∧
      w.cls = classOfKind .meter ∧ (∀ x ∈ before.drop (4 - 3), x.cls ≠ classOfKind .meter) ∧
      2 ≤ countClass (classOfKind .meter) (considered (windows [.meter, .stamp, .meter, .meter]))) ∧
    (∃ (before behind : List Window) (w : Window), windows [.stamp, .stamp, .none] = before ++ w :: behind ∧
      w.cls = classOfKind .stamp ∧ ∀ x ∈ behind, x.cls ≠ classOfKind .stamp) ∧
    (List.replicate 5 (⟨.au, .stamp, 0, 40, 900, false, 0⟩ : Mark)).length < 6 ∧
    (let x : Mark := ⟨.au, .stamp, 0, 40, 410, false, 0⟩
     let z : Mark := ⟨.au, .stamp, 0, 40, 411, false, 0⟩
     [x, z].length + [z, z, z].length = 5 ∧ (∀ y ∈ [x, z] ++ [z, z, z], x.score ≤ y.score) ∧
     (∀ y ∈ [z, z, z], y.score ≠ x.score) ∧ x.score ≤ 65535) ∧
    (ticketOf State.reset 41 = none ∧ ticketOf (holding ticket41 0) 41 = some ticket41 ∧
      (⟨.au, .stamp, 0, 8, 900, false, 0⟩ : Mark).length < 16 ∧
      16 ≤ (⟨.au, .stamp, 0, 16, 900, false, 0⟩ : Mark).length) :=
  ⟨by decide, by decide,
    ⟨windows [.meter, .stamp], windows [.meter], ⟨0, 100, 100, 0, .meter, false, false⟩, by decide⟩,
    ⟨windows [.stamp], windows [.none], ⟨0, 100, 100, 0, .stamp, false, false⟩, by decide⟩, by decide⟩

/-- AU at exactly 12 eighths of AL; AU and AL alike; no score with a METER mark and without one; a SHORT ticket. -/
theorem witness_DominanceGivesClass :
    let a := fun c n => (⟨c, .stamp, 0, 40, n, false, 0⟩ : Mark)
    (12 ≤ (⟨12, 0⟩ : DecideRecord).dom8 ∧ 0 < channelScore 0 [a .au 900, a .al 600] .au ∧
      ∀ d ∈ allChannels, d ≠ .au →
        12 * channelScore 0 [a .au 900, a .al 600] d ≤ 8 * channelScore 0 [a .au 900, a .al 600] .au) ∧
    (0 < channelScore 0 [a .au 900, a .al 900] .au ∧
      ∀ c ∈ allChannels, ∃ d ∈ allChannels, d ≠ c ∧
        8 * channelScore 0 [a .au 900, a .al 900] c < 12 * channelScore 0 [a .au 900, a .al 900] d) ∧
    (∀ c ∈ allChannels, channelScore 901 [a .au 900] c = 0 ∧
      channelScore 0 [{ a .bl 900 with kind := .meter }] c = 0) ∧
    { ticket41 with size := some .short }.size ≠ none ∧ ticket41.size = none ∧
    ticket41.cold = ⟨false, false⟩ := by decide

/-- A ticket behind a DECIDED elder and behind an undecided one; LONG, SHORT and cold; the ticket behind it waiting;
a forced ticket, one without a head and one with a head. -/
theorem witness_DecisionPointDecides :
    let elder : Ticket := { struck41 with number := 40 }
    let s := fun z y => ({ rolling with tracker := { resetTracker with table := [z] ++ y :: [] } } : State)
    let young : Ticket := { ticket41 with number := 42 }
    let chain : State := { rolling with
      tracker := { resetTracker with table := [] ++ ticket41 :: young :: [] }
      facing := { record := ⟨12, 0⟩, waiting := [young.number] } }
    let turned : Ticket := { ticket41 with gap := some 0, marks := [⟨.bl, .stamp, 120, 32, 2600, false, 0⟩] }
    ((s elder ticket41).tracker.table = [elder] ++ ticket41 :: [] ∧ NumbersDiffer (s elder ticket41) ∧
      (∀ z ∈ [elder], z.state = .decided) ∧ (s elder ticket41).facing.waiting = []) ∧
    ({ ticket41 with size := some .long }.size = some .long ∧ { ticket41 with size := some .short }.size = some .short ∧
      ticket41.size = none ∧ { ticket41 with cold := ⟨false, true⟩ }.cold.b = true) ∧
    (NumbersDiffer (s { elder with state := .scanning } ticket41) ∧
      ∃ z ∈ [{ elder with state := .scanning }], z.state ≠ .decided) ∧
    (NumbersDiffer chain ∧ chain.tracker.table = [] ++ ticket41 :: young :: [] ∧
      chain.facing.waiting = [young.number]) ∧
    ((pathAnswer (s elder turned) turned (verdict ⟨12, 0⟩ turned).required).2 = true ∧
      (verdict ⟨12, 0⟩ { ticket41 with marks := [] }).head = .none ∧
      (pathAnswer (s elder ticket41) ticket41 (verdict ⟨12, 0⟩ ticket41).required).2 = false ∧
      (verdict ⟨12, 0⟩ ticket41).head = .on .a) ∧
    (ticket41.size = none ∧ ticket41.cold = ⟨false, false⟩) :=
  ⟨⟨by decide, by unfold NumbersDiffer; decide, by decide, by decide⟩, by decide,
    ⟨by unfold NumbersDiffer; decide, by decide⟩, ⟨by unfold NumbersDiffer; decide, by decide, by decide⟩,
    by decide, by decide⟩

/-- A gate with this queue, confirm and exercise, its confirm input at a level. -/
def gateAt (q : List GateEntry) (c : Option Confirm) (e : Option Exercise) (level : Bool) : State :=
  { rolling with gate := ⟨.straight, q, c, e⟩, pins := { quietPins with gateConfirm := level } }

theorem witness_GateSwitchesAtDue :
    ((gateAt [⟨0, .turn, 51⟩] none none false).gate.queue = ⟨0, .turn, 51⟩ :: [] ∧ reached 0 0 = true) ∧
    (gateAt [] none none false).gate.confirm = none ∧
    ((gateAt [] (some ⟨.turn, 51, 0⟩) none true).gate.confirm = some ⟨.turn, 51, 0⟩ ∧
      gateReads (gateAt [] (some ⟨.turn, 51, 0⟩) none true).pins .turn = true) ∧
    gateReads (gateAt [] (some ⟨.turn, 51, 0⟩) none false).pins .turn = false ∧
    exerciseReplyDue (gateAt [] none none false).gate = false ∧
    (gateAt [] none (some (.gate .turn 0 0 7)) false).gate.exercise = some (.gate .turn 0 0 7) ∧
    (let seven : List GateEntry := List.replicate 7 ⟨0, .straight, 1⟩
     let eight : List GateEntry := List.replicate 8 ⟨0, .straight, 1⟩
     plannedGate (gateAt seven none none false).gate = .straight ∧
     Path.turn ≠ plannedGate (gateAt seven none none false).gate ∧
     (∀ n ∈ some 80, defaultGeometry.gateClear + defaultGeometry.gateLead ≤ n) ∧ seven.length < 8 ∧
     ¬(∀ n ∈ some 79, defaultGeometry.gateClear + defaultGeometry.gateLead ≤ n) ∧ 8 ≤ eight.length) := by decide

theorem witness_GateConfirmEnds :
    (gateAt [] none none true).pins.gateConfirm = true ∧
    ((gateAt [] (some ⟨.turn, 51, 4⟩) none false).pins.gateConfirm ≠ true ∧
      exerciseReplyDue (gateAt [] (some ⟨.turn, 51, 4⟩) none false).gate = false ∧
      gateReads (gateAt [] none none true).pins .turn = true) ∧
    ((gateAt [] (some ⟨.straight, 51, 4⟩) none false).pins.gateConfirm ≠ true ∧
      gateReads (gateAt [] none none true).pins .straight = false) ∧
    ((gateAt [] none (some (.gate .turn 4 0 7)) false).gate.confirm = none ∧
      (gateAt [] none (some (.gate .turn 4 0 7)) false).gate.exercise = some (.gate .turn 4 0 7)) ∧
    (gateAt [] (some ⟨.turn, 51, 0⟩) none false).gate.confirm = some ⟨.turn, 51, 0⟩ := by decide

/-- A band; lines cut away; a strike queue of seven and of eight entries. -/
theorem witness_StrikeBandOnLetter :
    (planStrike resetCancel.record (some .p1) 70 110 180).band = some ⟨4, 122, .before, 54, some .p1⟩ ∧
    (planStrike { resetCancel.record with leadMargin := 0, trailMargin := 0, clearance := 20 } (some .p1)
      184 200 200).band = none ∧
    (List.replicate 7 entry41).length < 8 ∧ 8 ≤ (List.replicate 8 entry41).length := by decide

/-- The start reached with the head READY, DISABLED, busy with room and busy without; the deadline reached. -/
theorem witness_StrikeStartsWaitsOrMisses :
    ((headA .ready false 1005088).cancel.heads.get .a).queue = entry41 :: [] ∧
    reached (headA .ready false 1005088).tracker.belt 1005088 = true ∧
    ((headA .ready false 1005088).cancel.heads.get .a).waiting = false ∧
    ((headA .ready false 1005088).cancel.heads.get .a).state = .ready ∧
    ((headA .disabled false 1005088).cancel.heads.get .a).state = .disabled ∧
    (((headA (.recharging 1) false 1005088).cancel.heads.get .a).state ≠ .ready ∧
      ((headA (.recharging 1) false 1005088).cancel.heads.get .a).state ≠ .disabled ∧
      after 1005160 1005088 = true ∧ after 1005088 1005088 = false) ∧
    (reached (headA (.recharging 1) true 1005160).tracker.belt 1005160 = true ∧
      ((headA (.recharging 1) true 1005160).cancel.heads.get .a).waiting = true) ∧
    (ticketOf State.reset 41 = none ∧ ticketOf (holding struck41 0) 41 = some struck41) := by decide

theorem witness_StrikeEndsAndRecharges :
    let test : State := { headA (.striking (.test 20)) false 0 with gate := ⟨.straight, [], none, some (.head .a)⟩ }
    (((headA (.striking (.letter 41 1005212 none)) false 1005212).cancel.heads.get .a).state =
        .striking (.letter 41 1005212 none) ∧ reached 1005212 1005212 = true) ∧
    (test.gate.exercise = some (.head .a) ∧ (test.cancel.heads.get .a).state = .striking (.test 20)) ∧
    (((headA (.recharging 0) false 1005088).cancel.heads.get .a).state = .recharging 0 ∧
      ((headA (.recharging 0) false 1005088).cancel.heads.get .a).waiting = false) ∧
    (((headA (.recharging 5) true 1005100).cancel.heads.get .a).waiting = true ∧
      ((headA (.recharging 5) true 1005100).cancel.heads.get .a).queue =
        entry41 :: []) := by decide

/-- A head fault going active on a head without and with a waiting entry, and going inactive with the head
enabled and not. -/
theorem witness_HeadFaultDisables :
    let down : State := { headA .disabled false 0 with pins := { quietPins with headFault := ⟨true, false⟩ } }
    let off : State := { down with cancel := { down.cancel with
      record := { resetCancel.record with enable := ⟨false, true⟩ } } }
    (headA .ready false 0).pins.headFault.get .a = false ∧
    ((headA .ready false 0).cancel.heads.get .a).waiting = false ∧
    (down.pins.headFault.get .a = true ∧ down.cancel.record.enable.get .a = true ∧
      (down.cancel.heads.get .a).state = .disabled) ∧
    (off.pins.headFault.get .a = true ∧ off.cancel.record.enable.get .a = false ∧
      (off.cancel.heads.get .a).state = .disabled) := by decide

theorem witness_PulsesPhasesAndFlapsEnd :
    let s : State := { State.reset with
      gate := ⟨.straight, [], none, some (.flap .f5 100)⟩
      run := { resetRun with beacon := .flashOn 0 }
      stacker := { resetStacker with
        trays := { resetStacker.trays with b6 := some 50 }, queue := [⟨0, .f5, true, 1⟩] } }
    s.gate.exercise = some (.flap .f5 100) ∧ s.stacker.trays.get .b6 = some 50 ∧ s.run.beacon = .flashOn 0 ∧
    { s.run with beacon := .flashOff 900 }.beacon = .flashOff 900 ∧
    s.stacker.queue = ⟨0, .f5, true, 1⟩ :: [] ∧ reached s.tracker.belt 0 = true := by decide

/-- A letter wanted in the route; one with a gap of 60 and one with 59, for another bin; a queue with two actions for
one flap. -/
theorem witness_RouteChangedOrForced :
    let far : Ticket := { struck41 with gap := some 60 }
    let near : Ticket := { struck41 with gap := some 59 }
    let end6 : State := { holding struck41 0 with stacker := { resetStacker with
      plan := { defaultPlan with facedA := ⟨.b6, none⟩ } } }
    (usable end6 .b6 = true ∧ Bin.b6 = route end6.stacker) ∧
    (Bin.b1 ≠ route (holding far 0).stacker ∧
      defaultGeometry.flapClear + defaultGeometry.flapLead ≤ 60 ∧ far.gap = some 60 ∧
      (actionsNeeded defaultGeometry (holding far 0).stacker far .b1 0).length ≤ 16) ∧
    (¬(defaultGeometry.flapClear + defaultGeometry.flapLead ≤ 59) ∧ near.gap = some 59) ∧
    (let k : Stacker := { resetStacker with
       queue := [⟨1, .f2, true, 1⟩] ++ ⟨2, .f2, false, 2⟩ :: [⟨3, .f4, true, 2⟩] }
     (∀ a ∈ k.queue, a.flap ≠ .f1) ∧ (∀ z ∈ ([⟨3, .f4, true, 2⟩] : List FlapAction), z.flap ≠ .f2) ∧
       plannedFlap k .f4 = true ∧ (∀ z ∈ allFlaps, flapNumber z < flapNumber .f4 → plannedFlap k z = false)) ∧
    ∀ z ∈ allFlaps, plannedFlap resetStacker z = false := by decide

theorem witness_InputsReportAndRequest :
    State.reset.pins.binFull.get .b6 ≠ true ∧ State.reset.pins.door ≠ true ∧ State.reset.pins.extStop ≠ true := by
  decide

/-- RUNNING with its timers at their last ms; STARTING at its start position; IDLE. -/
theorem witness_TimersRaiseAndStartEnds :
    let s : State := { State.reset with
      tracker := { resetTracker with belt := 400 }
      run := { resetRun with state := .starting, startTimer := some 0, startPos := some 400 } }
    (tracks rolling.run.state = true ∧ rolling.tracker.stallRaised = false ∧ rolling.run.linkRaised = false) ∧
    tracks State.reset.run.state = false ∧ s.run.startTimer = some 0 ∧
    (s.run.state = .starting ∧ s.run.startPos = some 400 ∧ reached s.tracker.belt 400 = true ∧
      beltStopGroup s = false ∧ s.tracker.table = []) := by decide

/-- A cause unmasked and not in service, one masked, one in service; with DOOR in service each run state that its stop acts
on and one it does not; with STACK_FULL in service RUNNING, and with and without it each other run state. -/
theorem witness_RequestRecordedAndServed :
    let opened := fun r : RunState => ({ State.reset with run := { resetRun with
      state := r, causes := { resetCauses with door := ⟨false, false, true, .beltStop, .none⟩ } } } : State)
    ((State.reset.run.causes.get .door).masked = false ∧ (State.reset.run.causes.get .door).inService = false ∧
      (State.reset.run.causes.get .linkLoss).masked = true ∧
      ((standing .held true).run.causes.get .stackFull).inService = true) ∧
    (∀ r ∈ ([.starting, .running, .draining .finish, .draining .hold, .held] : List RunState),
      beltStopGroup (opened r) = true ∧ (opened r).run.state ≠ .idle ∧ (opened r).run.state ≠ .stopped) ∧
    (beltStopGroup (opened .stopped) = true ∧ (opened .stopped).run.state = .stopped) ∧
    (∀ r ∈ ([.idle, .starting, .running, .draining .finish, .draining .hold, .held, .stopped] : List RunState),
      ∀ full : Bool, (standing r full).run.state = r ∧ beltStopGroup (standing r full) = false ∧
        feedHoldGroup (standing r full) = full) := by decide

/-- One ticket and a running calibration, with two slots free in the shared area. -/
theorem witness_PurgeEmptiesWork :
    let s : State := { holding struck41 0 with
      cal := .collecting ⟨.au, 1200, 4, 0, 0, 0⟩
      link := { resetLink with outbound := List.replicate 58 (.notice (.lost 0 0 0 0)) } }
    s.link.letterEnable = true ∧ s.tracker.table.length + (calRunning s.cal).toList.length = 2 ∧
      sharedUsed s.link + 2 ≤ 60 := by decide +kernel

/-- One slot free in the shared area. -/
theorem witness_RunStateByEvaluation :
    sharedUsed (queued (List.replicate 59 (.notice (.lost 0 0 0 0)))).link < 60 := by decide +kernel

end Sys2Proof.Tests
end

section
/-! PROOFS. GET_DETECT (R42): the request is taken whatever the run state, and its one byte, the channel,
decides between the channel's state and the refusal. -/

namespace Sys2Proof.Proofs

open Sys2Proof.Machine Sys2Proof.Safety

/-- The step on a channel's number queues that channel's state. -/
theorem getDetectStep_channel {f : InFrame} {b : Byte} {c : Channel} (s : State) (hp : f.payload = [b])
    (hb : b.toNat = channelNumber c) :
    getDetectStep f s = reply f (.ok (encDetect (s.channels.get c))) s := by
  have hread : readByte 0 3 f.payload = .ok (channelNumber c) := by
    rw [hp, readByte_one, hb, if_pos ⟨Nat.zero_le _, channelNumber_lt c⟩]
  rw [getDetectStep, hread, answer_ok, channelOf_channelNumber]

/-- The step on a byte above 3 refuses the request by its first field. -/
theorem getDetectStep_above {f : InFrame} {b : Byte} (s : State) (hp : f.payload = [b]) (hb : 3 < b.toNat) :
    getDetectStep f s = refuse f (.badValue 1) s := by
  have hread : readByte 0 3 f.payload = .error (.badValue 1) := by
    rw [hp, readByte_one, if_neg fun h => Nat.not_le.mpr hb h.2]
  rw [getDetectStep, hread, answer_error]

/-- A GET_DETECT that the link can take is its step on the state with the frame removed (R171). -/
theorem exec_getDetect_taken {f : InFrame} {rest : List InFrame} {s : State} (h : CanTake s f rest)
    (hcode : f.code = 0x21) : exec .getDetect s = .next (getDetectStep f (took rest s)) := by
  have hrow : requestOf f = .getDetect := by
    rw [requestOf, hcode]
    rfl
  calc exec .getDetect s = .next (takeRequest .getDetect s getDetectStep) := rfl
    _ = .next (getDetectStep f (took rest s)) := by rw [takeRequest_taken h hrow]

/-- Settles O20: by the reading of the request's one byte, at a channel's number and above 3. -/
theorem getDetectReadsChannel : Obligations.GetDetectReadsChannel := by
  intro f rest s b h hcode hp
  refine ⟨fun c hb => ?channel, fun hb => ?above⟩
  case channel =>
    rw [exec_getDetect_taken h hcode, getDetectStep_channel _ hp hb, took_channels, ← okAfter_eq, encDetect]
  case above =>
    rw [exec_getDetect_taken h hcode, getDetectStep_above _ hp hb, ← refusedAfter_eq]

end Sys2Proof.Proofs
end

section
/-! PROOFS. SET_PLAN (R104) and BIN_RELEASE (R119): both requests are taken whatever the run state. For SET_PLAN
the reading of the payload decides: no fields, the 24 fields of a plan, 24 fields with one out of its range, or
another number of fields. For BIN_RELEASE the bin's number and then the bin's state decide. -/

namespace Sys2Proof.Proofs

open Sys2Proof.Machine Sys2Proof.Safety

/-! ### The fields of a plan (R103, R104) -/

/-- The alternate's field of a plan row: the bin's number, 0 for none (R103). -/
def alternateNumber (r : PlanRow) : Nat := (r.alternate.map binNumber).getD 0

theorem alternateNumber_le (r : PlanRow) : alternateNumber r ≤ 6 := by
  obtain ⟨p, _ | b⟩ := r
  · exact Nat.zero_le 6
  · exact (binNumber_range b).2

/-- A row is read back from its two numbers. -/
theorem planRow_numbers (r : PlanRow) : planRow (binNumber r.primary) (alternateNumber r) = r := by
  obtain ⟨p, _ | b⟩ := r
  case none => simp [planRow, alternateNumber]
  case some =>
    have hb : binNumber b ≠ 0 := Nat.ne_of_gt (binNumber_range b).1
    simp [planRow, alternateNumber, hb]

theorem encPlan_eq (plan : PerOutcome PlanRow) :
    encPlan plan = plan.toList.flatMap fun r => u8 (binNumber r.primary) ++ u8 (alternateNumber r) := rfl

/-- The numbers a plan's bytes carry, two for each row. -/
theorem encPlan_numbers (plan : PerOutcome PlanRow) :
    (encPlan plan).map BitVec.toNat =
      plan.toList.flatMap fun r => [binNumber r.primary, alternateNumber r] := by
  rw [encPlan_eq, List.map_flatMap]
  congr 1
  funext r
  have hp : binNumber r.primary < 256 := Nat.lt_of_le_of_lt (binNumber_range r.primary).2 (by decide)
  have ha : alternateNumber r < 256 := Nat.lt_of_le_of_lt (alternateNumber_le r) (by decide)
  simp [u8_eq, Nat.mod_eq_of_lt hp, Nat.mod_eq_of_lt ha]

/-- Each row's numbers stand with the ranges of a primary and of an alternate. -/
theorem planRanges_rows (rows : List PlanRow) :
    planRanges (rows.flatMap fun r => [binNumber r.primary, alternateNumber r]) =
      rows.flatMap fun r => [(binNumber r.primary, 1, 6), (alternateNumber r, 0, 6)] := by
  induction rows with
  | nil => rfl
  | cons r rows ih => simp only [List.flatMap_cons, List.cons_append, List.nil_append, planRanges, ih]

/-- Every number of a plan lies in its range. -/
theorem firstBad_encPlan (n : Nat) (plan : PerOutcome PlanRow) :
    firstBad n (planRanges ((encPlan plan).map BitVec.toNat)) = none := by
  rw [encPlan_numbers, planRanges_rows]
  refine firstBad_none fun z hz => ?_
  obtain ⟨r, -, hr⟩ := List.mem_flatMap.mp hz
  rcases List.mem_pair.mp hr with rfl | rfl
  · exact binNumber_range r.primary
  · exact ⟨Nat.zero_le _, alternateNumber_le r⟩

/-- Field i of an even number of fields has the range of a primary or, at an odd place, of an alternate. -/
theorem planRanges_eq_mapIdx (vs : List Nat) (h : vs.length % 2 = 0) :
    planRanges vs = vs.mapIdx fun i v => (v, 1 - i % 2, 6) := by
  induction vs using planRanges.induct with
  | case1 p a rest ih =>
    have hrest : rest.length % 2 = 0 := by
      simp only [List.length_cons] at h
      omega
    simp [planRanges, ih hrest, List.mapIdx_cons, Nat.add_assoc]
  | case2 vs hshort =>
    match vs with
    | [] => rfl
    | [_] => simp at h
    | p :: a :: rest => exact absurd rfl (hshort p a rest)

/-- The field at a place is reported when it is out of its range and every field before it is in its own (R172). -/
theorem firstBad_at {n i : Nat} {fields : List (Nat × Nat × Nat)} (hi : i < fields.length)
    (hbad : ¬(fields[i].2.1 ≤ fields[i].1 ∧ fields[i].1 ≤ fields[i].2.2))
    (hgood : ∀ (j : Nat) (hj : j < i), fields[j].2.1 ≤ fields[j].1 ∧ fields[j].1 ≤ fields[j].2.2) :
    firstBad n fields = some (n + i) := by
  have hbefore : ∀ z ∈ fields.take i, z.2.1 ≤ z.1 ∧ z.1 ≤ z.2.2 := by
    intro z hz
    obtain ⟨j, hj, rfl⟩ := List.mem_take_iff_getElem.mp hz
    exact hgood j (by omega)
  have hsplit : fields = fields.take i ++ fields[i] :: fields.drop (i + 1) := by
    rw [List.getElem_cons_drop, List.take_append_drop]
  rw [hsplit, firstBad_first hbefore hbad, List.length_take_of_le (Nat.le_of_lt hi)]

/-! ### The reading of a SET_PLAN payload (R104, R172) -/

/-- The bytes of a plan are read as that plan. -/
theorem readPlan_encPlan (plan : PerOutcome PlanRow) : readPlan (encPlan plan) = .ok (some plan) := by
  have hne : encPlan plan ≠ [] := List.cons_ne_nil _ _
  have hchecked : checked (planRanges ((encPlan plan).map BitVec.toNat)) (some plan) = .ok (some plan) := by
    rw [checked, firstBad_encPlan]
  rw [readPlan, if_neg hne]
  rw [encPlan_numbers] at hchecked ⊢
  simpa only [PerOutcome.toList, List.flatMap_cons, List.flatMap_nil, List.cons_append, List.nil_append,
    planRow_numbers] using hchecked

/-- The reading of 24 fields ends in the check of their ranges. -/
theorem readPlan_length (p : List Byte) (h : p.length = 24) :
    ∃ plan, readPlan p = checked (planRanges (p.map BitVec.toNat)) (some plan) := by
  match p, h with
  | [_, _, _, _, _, _, _, _, _, _, _, _, _, _, _, _, _, _, _, _, _, _, _, _], _ => exact ⟨_, rfl⟩

/-- Of 24 fields the first out of its range is refused by its number. -/
theorem readPlan_badValue {p : List Byte} {i : Nat} (hlen : p.length = 24) (hi : i < p.length)
    (hbad : ¬(1 - i % 2 ≤ p[i].toNat ∧ p[i].toNat ≤ 6))
    (hgood : ∀ (j : Nat) (hj : j < i), 1 - j % 2 ≤ p[j].toNat ∧ p[j].toNat ≤ 6) :
    readPlan p = .error (.badValue (i + 1)) := by
  obtain ⟨plan, hread⟩ := readPlan_length p hlen
  have hranges : planRanges (p.map BitVec.toNat) = (p.map BitVec.toNat).mapIdx fun i v => (v, 1 - i % 2, 6) :=
    planRanges_eq_mapIdx _ (by rw [List.length_map, hlen])
  have hfirst : firstBad 1 (planRanges (p.map BitVec.toNat)) = some (1 + i) := by
    rw [hranges]
    exact firstBad_at (by simpa using hi) (by simpa using hbad) (by simpa using hgood)
  rw [hread, checked, hfirst, Nat.add_comm]

/-- Any other number of fields than none and 24 is refused. -/
theorem readPlan_badLength {p : List Byte} (hne : p ≠ []) (hlen : p.length ≠ 24) :
    readPlan p = .error .badLength := by
  rw [readPlan, if_neg hne]
  split
  next heq => exact absurd (by simpa using congrArg List.length heq) hlen
  next => rfl

/-! ### SET_PLAN (R104) -/

/-- A SET_PLAN that the link can take is its step on the state with the frame removed (R171). -/
theorem exec_setPlan_taken {f : InFrame} {rest : List InFrame} {s : State} (h : CanTake s f rest)
    (hcode : f.code = 0x50) : exec .setPlan s = .next (setPlanStep f (took rest s)) := by
  have hrow : requestOf f = .setPlan := by
    rw [requestOf, hcode]
    rfl
  calc exec .setPlan s = .next (takeRequest .setPlan s setPlanStep) := rfl
    _ = .next (setPlanStep f (took rest s)) := by rw [takeRequest_taken h hrow]

/-- A plan read is installed and answered. -/
theorem setPlanStep_install {f : InFrame} {plan : PerOutcome PlanRow} (s : State)
    (hread : readPlan f.payload = .ok (some plan)) :
    setPlanStep f s =
      reply f (.ok (encPlan plan)) { s with stacker := { s.stacker with plan := plan } } := by
  rw [setPlanStep, hread, answer_ok]

/-- Without fields the plan in force is answered. -/
theorem setPlanStep_read {f : InFrame} (s : State) (hp : f.payload = []) :
    setPlanStep f s = reply f (.ok (encPlan s.stacker.plan)) s := by
  have hread : readPlan f.payload = .ok none := by
    rw [readPlan, if_pos hp]
  rw [setPlanStep, hread, answer_ok]

/-- A payload that is not read is refused with the reading's reason. -/
theorem setPlanStep_refuse {f : InFrame} {r : Reason} (s : State) (hread : readPlan f.payload = .error r) :
    setPlanStep f s = refuse f r s := by
  rw [setPlanStep, hread, answer_error]

/-- Settles O18: by the reading of the payload, in the order of the statement's clauses. -/
theorem setPlanInstallsOrRefuses : Obligations.SetPlanInstallsOrRefuses := by
  intro f rest s h hcode
  rw [exec_setPlan_taken h hcode]
  refine ⟨fun plan hp => ?install, fun i hi hlen hbad hgood => ?badValue, fun hp => ?read,
    fun hne hlen => ?badLength⟩
  case install =>
    have hread : readPlan f.payload = .ok (some plan) := by rw [hp, readPlan_encPlan]
    rw [setPlanStep_install _ hread, took_stacker, ← okAfter_eq]
  case badValue => rw [setPlanStep_refuse _ (readPlan_badValue hlen hi hbad hgood), ← refusedAfter_eq]
  case read => rw [setPlanStep_read _ hp, took_stacker, ← okAfter_eq]
  case badLength => rw [setPlanStep_refuse _ (readPlan_badLength hne hlen), ← refusedAfter_eq]

/-! ### BIN_RELEASE (R119) -/

/-- A bin's number is read as itself. -/
theorem readByte_binNumber (b : Bin) : readByte 1 6 (u8 (binNumber b)) = .ok (binNumber b) := by
  have hlt : binNumber b < 256 := Nat.lt_of_le_of_lt (binNumber_range b).2 (by decide)
  rw [u8_eq, readByte_one, BitVec.toNat_ofNat, Nat.mod_eq_of_lt hlt, if_pos (binNumber_range b)]

/-- A BIN_RELEASE that the link can take is its step on the state with the frame removed (R171). -/
theorem exec_binRelease_taken {f : InFrame} {rest : List InFrame} {s : State} (h : CanTake s f rest)
    (hcode : f.code = 0x53) : exec .binRelease s = .next (binReleaseStep f (took rest s)) := by
  have hrow : requestOf f = .binRelease := by
    rw [requestOf, hcode]
    rfl
  calc exec .binRelease s = .next (takeRequest .binRelease s binReleaseStep) := rfl
    _ = .next (binReleaseStep f (took rest s)) := by rw [takeRequest_taken h hrow]

/-- The release of an OPEN bin is refused. -/
theorem binReleaseStep_opened {f : InFrame} {b : Bin} (s : State) (hp : f.payload = u8 (binNumber b))
    (hopen : (s.stacker.bins.get b).state = .opened) :
    binReleaseStep f s = refuse f barredElsewhere s := by
  rw [binReleaseStep, hp, readByte_binNumber, answer_ok]
  simp only [binOf_binNumber, hopen]

/-- The release of a CLOSED bin reloads and opens it, and answers with its record. -/
theorem binReleaseStep_closed {f : InFrame} {b : Bin} (s : State) (hp : f.payload = u8 (binNumber b))
    (hclosed : (s.stacker.bins.get b).state = .closed) :
    binReleaseStep f s =
      let t := setBinRecord b (fun r => { r.reload with state := .opened }) s
      reply f (.ok (encBin t b)) t := by
  rw [binReleaseStep, hp, readByte_binNumber, answer_ok]
  simp only [binOf_binNumber, hclosed]

/-- A number of no bin is refused by its field. -/
theorem binReleaseStep_outside {f : InFrame} {v : Byte} (s : State) (hp : f.payload = [v])
    (hv : v.toNat < 1 ∨ 6 < v.toNat) : binReleaseStep f s = refuse f (.badValue 1) s := by
  rw [binReleaseStep, hp, readByte_one, if_neg (by omega), answer_error]

/-- A change to bin records leaves the route, which the flaps and their queue give (R107). -/
theorem route_setBinRecord (b : Bin) (g : BinRecord → BinRecord) (s : State) :
    route (setBinRecord b g s).stacker = route s.stacker := rfl

/-- A bin made OPEN is usable exactly if its full input is inactive (R106). -/
theorem usable_setBinRecord_opened {b : Bin} {g : BinRecord → BinRecord} {s : State}
    (hg : (g (s.stacker.bins.get b)).state = .opened) :
    usable (setBinRecord b g s) b = !s.pins.binFull.get b := by
  simp [usable, hg]

/-- Settles O23: by the state of the bin named, and for a number of no bin by the reading of the request's byte. -/
theorem binReleaseReloads : Obligations.BinReleaseReloads := by
  intro f rest s h hcode
  rw [exec_binRelease_taken h hcode]
  refine ⟨fun b r hp hr => ⟨fun hopen => ?opened, fun hclosed => ?closed⟩, fun v hp hv => ?outside⟩
  case opened =>
    rw [binReleaseStep_opened _ hp (by rw [took_stacker, hr, hopen]), ← refusedAfter_eq, barredElsewhere]
  case closed =>
    subst hr
    refine ⟨setBinRecord b (fun r => { r.reload with state := .opened }) (took rest s), rfl, ?_,
      route_setBinRecord _ _ _, usable_setBinRecord_opened rfl⟩
    rw [binReleaseStep_closed (took rest s) hp hclosed, ← okAfter_eq]
  case outside => rw [binReleaseStep_outside _ hp hv, ← refusedAfter_eq]

end Sys2Proof.Proofs
end

section
/-! PROOFS. TALLY_LATCH (R127): the request is taken whatever the run state. A payload with any field is refused;
without fields the tally unit's held snapshot decides between the taking of one and the answer HELD. -/

namespace Sys2Proof.Proofs

open Sys2Proof.Machine Sys2Proof.Safety

/-! ### Requests without fields and their replies (R171, R172) -/

theorem noFields_nil : noFields [] = .ok () := rfl

theorem noFields_of_ne_nil {p : List Byte} (h : p ≠ []) : noFields p = .error .badLength := if_neg h

/-- A reply of any kind stands at the young end of the outbound queue, and nothing else changes (R171). -/
theorem answered_eq (f : InFrame) (b : ReplyBody) (s : State) : answered f b s = reply f b s := rfl

/-! ### TALLY_LATCH (R127) -/

/-- A TALLY_LATCH that the link can take is its step on the state with the frame removed (R171). -/
theorem exec_tallyLatch_taken {f : InFrame} {rest : List InFrame} {s : State} (h : CanTake s f rest)
    (hcode : f.code = 0x60) : exec .tallyLatch s = .next (tallyLatchStep f (took rest s)) := by
  have hrow : requestOf f = .tallyLatch := by
    rw [requestOf, hcode]
    rfl
  calc exec .tallyLatch s = .next (takeRequest .tallyLatch s tallyLatchStep) := rfl
    _ = .next (tallyLatchStep f (took rest s)) := by rw [takeRequest_taken h hrow]

/-- A latch with any field is refused. -/
theorem tallyLatchStep_fields {f : InFrame} (s : State) (hp : f.payload ≠ []) :
    tallyLatchStep f s = refuse f .badLength s := by
  rw [tallyLatchStep, noFields_of_ne_nil hp, answer_error]

/-- With no snapshot held the latch takes one and answers with its number and the uptime. -/
theorem tallyLatchStep_free {f : InFrame} {s : State} (hp : f.payload = []) (hheld : s.tally.held = none) :
    tallyLatchStep f s =
      reply f (.ok (word16 s.tally.nextSnapshot ++ word32 s.uptime)) (takeSnapshot s) := by
  rw [tallyLatchStep, hp, noFields_nil, answer_ok]
  simp only [hheld]

/-- With a snapshot held the latch only answers with its number. -/
theorem tallyLatchStep_held {f : InFrame} {s : State} {n : Snapshot} (hp : f.payload = [])
    (hheld : s.tally.held = some n) : tallyLatchStep f s = reply f (.held n.number) s := by
  rw [tallyLatchStep, hp, noFields_nil, answer_ok]
  simp only [hheld]

/-- The removal of the request's frame leaves every field of a snapshot taken after it (R126). -/
theorem snapshotNow_took (rest : List InFrame) (s : State) : snapshotNow (took rest s) = snapshotNow s := rfl

/-- A snapshot taken once the frame is removed is one of the state before, and only the tally unit changes. -/
theorem takeSnapshot_took (rest : List InFrame) (s : State) :
    takeSnapshot (took rest s) = { took rest s with tally := { s.tally with
      held := some (snapshotNow s), nextSnapshot := s.tally.nextSnapshot + 1 } } := by
  rw [takeSnapshot, snapshotNow_took, took_tally]

/-- Settles O25: by the request's fields, and without any by the snapshot held. -/
theorem tallyLatchTakesOrHolds : Obligations.TallyLatchTakesOrHolds := by
  intro f rest s h hcode
  rw [exec_tallyLatch_taken h hcode]
  refine ⟨fun hp => ?fields, fun hp hfree => ?free, fun hp n hheld => ?held⟩
  case fields => rw [tallyLatchStep_fields _ hp, ← refusedAfter_eq]
  case free =>
    have hfree' : (took rest s).tally.held = none := by rw [took_tally, hfree]
    rw [tallyLatchStep_free hp hfree', ← okAfter_eq, takeSnapshot_took, took_tally, took_uptime, snapshotNow,
      occupancy]
  case held =>
    have hheld' : (took rest s).tally.held = some n := by rw [took_tally, hheld]
    rw [tallyLatchStep_held hp hheld', answered_eq]

end Sys2Proof.Proofs
end

section
/-! PROOFS. FAULT_READ (R150): the request is taken whatever the run state, and its one byte decides between the
reading of the fault record, its reading and emptying, and the refusal. The record changes with a request of a
cause alone (R149): neither the entering nor the leaving of service, nor the evaluation they make, touches it. -/

namespace Sys2Proof.Proofs

open Sys2Proof.Machine Sys2Proof.Safety

/-! ### The fault record (R149, R150) -/

/-- A request entered in an empty record is its first and its latest entry, and the only one counted. -/
theorem recordFault_empty (e : FaultEntry) : recordFault e ⟨none, none, 0⟩ = ⟨some e, some e, 1⟩ := rfl

/-- The raising of a cause changes the record by the request's entry alone, whether or not the cause is served. -/
theorem raiseCause_run_faults (c : Cause) (d : SourceDetail) (n : Option U16) (why : StopReason) (s : State) :
    (raiseCause c d n why s).run.faults =
      recordFault ⟨c, (s.run.causes.get c).masked, d, s.tracker.belt, s.uptime, n⟩ s.run.faults := by
  unfold raiseCause
  dsimp only
  split
  case isTrue => rw [noteRequest_run_faults]
  case isFalse => rw [evaluate_run_faults, enterService_run_faults, noteRequest_run_faults]

/-- The clearing of a cause leaves the record, whether or not the cause was in service. -/
theorem clearCause_run_faults (c : Cause) (s : State) : (clearCause c s).run.faults = s.run.faults := by
  unfold clearCause
  split
  case isTrue => rw [evaluate_run_faults, leaveService_run_faults, setCause_run_faults]
  case isFalse => rw [setCause_run_faults]

/-! ### FAULT_READ (R150) -/

/-- A FAULT_READ that the link can take is its step on the state with the frame removed (R171). -/
theorem exec_faultRead_taken {f : InFrame} {rest : List InFrame} {s : State} (h : CanTake s f rest)
    (hcode : f.code = 0x76) : exec .faultRead s = .next (faultReadStep f (took rest s)) := by
  have hrow : requestOf f = .faultRead := by
    rw [requestOf, hcode]
    rfl
  calc exec .faultRead s = .next (takeRequest .faultRead s faultReadStep) := rfl
    _ = .next (faultReadStep f (took rest s)) := by rw [takeRequest_taken h hrow]

/-- With clear 0 the record is answered and stays. -/
theorem faultReadStep_keep {f : InFrame} (s : State) (hp : f.payload = [0]) :
    faultReadStep f s = reply f (.ok (encFaults s.run.faults)) s := by
  have hread : readByte 0 1 f.payload = .ok 0 := by
    rw [hp, readByte_one]
    rfl
  rw [faultReadStep, hread, answer_ok, if_neg Nat.zero_ne_one]

/-- With clear 1 the record is answered as it was and then emptied. -/
theorem faultReadStep_empty {f : InFrame} (s : State) (hp : f.payload = [1]) :
    faultReadStep f s =
      reply f (.ok (encFaults s.run.faults)) { s with run := { s.run with faults := ⟨none, none, 0⟩ } } := by
  have hread : readByte 0 1 f.payload = .ok 1 := by
    rw [hp, readByte_one]
    rfl
  rw [faultReadStep, hread, answer_ok, if_pos rfl]

/-- A clear above 1 is refused by its field. -/
theorem faultReadStep_above {f : InFrame} {v : Byte} (s : State) (hp : f.payload = [v]) (hv : 1 < v.toNat) :
    faultReadStep f s = refuse f (.badValue 1) s := by
  have hread : readByte 0 1 f.payload = .error (.badValue 1) := by
    rw [hp, readByte_one, if_neg fun h => Nat.not_le.mpr hv h.2]
  rw [faultReadStep, hread, answer_error]

/-- A request of another length than one byte is refused. -/
theorem faultReadStep_length {f : InFrame} (s : State) (hlen : f.payload.length ≠ 1) :
    faultReadStep f s = refuse f .badLength s := by
  rw [faultReadStep, readByte_length hlen, answer_error]

/-- Settles O29: the request by its one byte, and the record's independence of the cause table by what a raising
and a clearing of a cause make of it. -/
theorem faultReadKeepsOrEmpties : Obligations.FaultReadKeepsOrEmpties := by
  refine ⟨fun f rest s h hcode => ?request, fun c d n why s hempty => ?raised, clearCause_run_faults⟩
  case request =>
    rw [exec_faultRead_taken h hcode]
    refine ⟨fun hp => ?keep, fun hp => ?empty, fun v hp hv => ?above, fun hlen => ?length⟩
    case keep => rw [faultReadStep_keep _ hp, took_run, ← okAfter_eq]
    case empty => rw [faultReadStep_empty _ hp, took_run, ← okAfter_eq]
    case above => rw [faultReadStep_above _ hp hv, ← refusedAfter_eq]
    case length => rw [faultReadStep_length _ hlen, ← refusedAfter_eq]
  case raised =>
    rw [raiseCause_run_faults, hempty, recordFault_empty]
    exact ⟨rfl, rfl, rfl⟩

end Sys2Proof.Proofs
end

section
/-! PROOFS. What the invariants of the controller's work rest on, and how a step keeps a property of it. The work of a
state is what R7, R21, R26, R46, R48, R68, R92, R95, R105, R108, R124 and R125 speak of: the table, the throttle, the
tallies, the channels, the bins, the heads and the queues. Most commands leave it; run control changes it by a
purge alone (R144). -/

namespace Sys2Proof.Proofs

open Sys2Proof.Machine Sys2Proof.Safety

/-! ### The work of a state -/

/-- What the invariants read of a ticket: what a decision writes (R9, R61 to R65), and how many marks it has (R46). -/
structure TicketWork where
  state : TicketState
  cls : Option LetterClass
  required : Option ReqPath
  head : Option HeadChoice
  taken : Option Path
  strike : Option StrikeResult
  outcome : Option LetterOutcome
  marks : Nat

/-- The work of a ticket. -/
def ticketWork (t : Ticket) : TicketWork :=
  ⟨t.state, t.cls, t.required, t.head, t.taken, t.strike, t.outcome, t.marks.length⟩

/-- The counters of a tally set that R124 and R125 relate. -/
structure TallyWork where
  entered : U32
  committed : U32
  purged : U32
  outcome : PerOutcome U32
  bin : PerBin U32

/-- The work of a tally set. -/
def tallyWork (t : TallySet) : TallyWork := ⟨t.entered, t.committed, t.purged, t.outcome, t.bin⟩

/-- What the invariants read of a channel: its samples, its baselines and how full its ring is. -/
structure ChannelWork where
  gap : List Sample
  leadIn : List Sample
  recent : List Sample
  spans : List (List Sample)
  bp : Nat
  bf : Nat
  ring : Nat

/-- The work of a channel. -/
def channelWork (c : ScanChannel) : ChannelWork :=
  ⟨c.gap.samples, c.leadIn, c.recent, c.spans.map Span.samples, c.bp, c.bf, c.ring.length⟩

/-- Whether a head is DISABLED. -/
def isDisabled (u : HeadUnit) : Bool := decide (u.state = .disabled)

/-- The work of the controller. -/
structure Work where
  tickets : List TicketWork
  geometry : Geometry
  throttle : Bool
  life : TallyWork
  shift : TallyWork
  baseOcc : Nat
  held : Option Snapshot
  channels : PerChannel ChannelWork
  bins : PerBin BinRecord
  faults : PerHead Bool
  enables : PerHead Bool
  disabled : PerHead Bool
  strikes : PerHead Nat
  switches : Nat
  actions : Nat

/-- The work of a state. -/
def workOf (s : State) : Work where
  tickets := s.tracker.table.map ticketWork
  geometry := s.tracker.geometry
  throttle := s.tracker.throttle
  life := tallyWork s.tally.life
  shift := tallyWork s.tally.shift
  baseOcc := s.tally.baseOcc
  held := s.tally.held
  channels := s.channels.map channelWork
  bins := s.stacker.bins
  faults := s.pins.headFault
  enables := s.cancel.record.enable
  disabled := s.cancel.heads.map isDisabled
  strikes := s.cancel.heads.map fun u => u.queue.length
  switches := s.gate.queue.length
  actions := s.stacker.queue.length

/-! ### Operations that leave the work -/

@[simp] theorem workOf_handNotice (n : Notice) (s : State) : workOf (handNotice n s) = workOf s := by
  simp [workOf]
@[simp] theorem workOf_enterRunState (new : RunState) (why : RunReason) (s : State) :
    workOf (enterRunState new why s) = workOf s := by
  simp [workOf]
@[simp] theorem workOf_advance (dt : Nat) (s : State) : workOf (advance dt s) = workOf s := by
  have hd : (advance dt s).cancel.heads.map isDisabled = s.cancel.heads.map isDisabled :=
    PerHead.ext_get fun h => by
      simp only [advance, PerHead.get_map, headAfter, isDisabled]
      split <;> simp_all
  have hq : (advance dt s).cancel.heads.map (fun u => u.queue.length) = s.cancel.heads.map fun u => u.queue.length :=
    rfl
  simp [workOf, hd, hq]
@[simp] theorem workOf_took (rest : List InFrame) (s : State) : workOf (took rest s) = workOf s := rfl
@[simp] theorem workOf_reply (f : InFrame) (b : ReplyBody) (s : State) : workOf (reply f b s) = workOf s := rfl
@[simp] theorem workOf_refuse (f : InFrame) (r : Reason) (s : State) : workOf (refuse f r s) = workOf s := rfl
@[simp] theorem workOf_noteRequest (c d n s) : workOf (noteRequest c d n s) = workOf s := rfl
@[simp] theorem workOf_enterService (c why s) : workOf (enterService c why s) = workOf s := by simp [workOf]
@[simp] theorem workOf_leaveService (c why s) : workOf (leaveService c why s) = workOf s := by simp [workOf]
@[simp] theorem workOf_setService (c on why s) : workOf (setService c on why s) = workOf s := by simp [workOf]
@[simp] theorem workOf_endDrain (s) : workOf (endDrain s) = workOf s := by simp [workOf]

@[simp] theorem workOf_abortCal (why s) : workOf (abortCal why s) = workOf s := by simp [workOf]
@[simp] theorem workOf_abortCalOf (c why s) : workOf (abortCalOf c why s) = workOf s := by simp [workOf]
@[simp] theorem workOf_changeLamp (d new why s) : workOf (changeLamp d new why s) = workOf s := by
  rw [changeLamp, workOf_handNotice]; rfl
@[simp] theorem workOf_wakeLamp (why d s) : workOf (wakeLamp why d s) = workOf s := by
  unfold wakeLamp; split <;> simp
@[simp] theorem workOf_restLamp (why d s) : workOf (restLamp why d s) = workOf s := by
  unfold restLamp; split <;> simp
@[simp] theorem workOf_restartSaver (s) : workOf (restartSaver s) = workOf s := rfl
@[simp] theorem workOf_lampEdge (s) : workOf (lampEdge s) = workOf s := by
  unfold lampEdge; split <;> simp
@[simp] theorem workOf_applyLampMode (m s) : workOf (applyLampMode m s) = workOf s := by
  cases m <;> simp [applyLampMode]
@[simp] theorem workOf_testLost (s) : workOf (testLost s) = workOf s := by simp [workOf]
@[simp] theorem workOf_restartLinkTimer (s) : workOf (restartLinkTimer s) = workOf s := rfl
@[simp] theorem workOf_judgeBeacon (s) : workOf (judgeBeacon s) = workOf s := rfl
@[simp] theorem workOf_setCause (c f s) : workOf (setCause c f s) = workOf s := rfl
@[simp] theorem workOf_evalIdle (s) : workOf (evalIdle s) = workOf s := by
  unfold evalIdle; split <;> simp
@[simp] theorem workOf_evalHold (s) : workOf (evalHold s) = workOf s := by
  unfold evalHold; split <;> simp
@[simp] theorem workOf_evalResume (s) : workOf (evalResume s) = workOf s := by
  unfold evalResume; split <;> simp
@[simp] theorem workOf_endGateExercise (s) : workOf (endGateExercise s) = workOf s := by
  unfold endGateExercise; dsimp only; split <;> (try split) <;> rfl
@[simp] theorem workOf_switchGate (e s) : workOf (switchGate e s) = workOf s := rfl

/-- Hearing what the receiver found leaves the work (R168 to R170). -/
@[simp] theorem workOf_hear (s : State) (h : Heard) : workOf (hear s h) = workOf s := by
  cases h with
  | oversize => rfl
  | bad => rfl
  | frame f => unfold hear validFrame; dsimp only; split <;> rfl

@[simp] theorem workOf_foldl_hear (hs : List Heard) (s : State) : workOf (hs.foldl hear s) = workOf s := by
  induction hs generalizing s with
  | nil => rfl
  | cons h hs ih => rw [List.foldl_cons, ih, workOf_hear]

/-- The recharge of a head that strikes leaves the work. -/
theorem workOf_recharge {h : Head} {s : State} (hs : (s.cancel.heads.get h).state ≠ .disabled) :
    workOf (recharge h s) = workOf s := by
  have hd : (recharge h s).cancel.heads.map isDisabled = s.cancel.heads.map isDisabled :=
    PerHead.ext_get fun x => by
      by_cases hx : x = h <;> simp_all [recharge, isDisabled]
  have hq : (recharge h s).cancel.heads.map (fun u => u.queue.length) = s.cancel.heads.map fun u => u.queue.length :=
    PerHead.ext_get fun x => by
      by_cases hx : x = h <;> simp_all [recharge]
  simp [workOf, hd, hq]

/-! ### A change of the gate confirm input (R73, R78) -/

/-- The confirm in progress ends where the input reads its target. -/
def confirmIfRead (s : State) : State :=
  match s.gate.confirm with
  | some c => if gateReads s.pins c.target then endConfirm s else s
  | none => s

/-- The gate exercise in progress ends where the input reads its target. -/
def exerciseIfRead (s : State) : State :=
  match s.gate.exercise with
  | some (.gate target _ _ _) => if gateReads s.pins target then endGateExercise s else s
  | _ => s

theorem gateConfirmChange_eq (level : Bool) (s : State) :
    gateConfirmChange level s =
      exerciseIfRead (confirmIfRead { s with pins := { s.pins with gateConfirm := level } }) := rfl

/-! ### Properties of the work -/

/-- A write to a ticket that changes nothing of its work leaves the work. -/
theorem workOf_setTicket {n : U16} {f : Ticket → Ticket} (hf : ∀ t, ticketWork (f t) = ticketWork t) (s : State) :
    workOf (setTicket n f s) = workOf s := by
  have ht : (setTicket n f s).tracker.table.map ticketWork = s.tracker.table.map ticketWork := by
    rw [setTicket_tracker_table, List.map_map]
    refine List.map_congr_left fun t _ => ?_
    simp only [Function.comp]
    split
    · exact hf t
    · rfl
  unfold workOf
  rw [ht]
  rfl

/-- A property of the work alone that a purge keeps. -/
structure RestsOnWork (P : State → Prop) : Prop where
  same : ∀ {s t : State}, workOf t = workOf s → P s → P t
  purge : ∀ (how : Purge) {s : State}, P s → P (purge how s)

namespace RestsOnWork

variable {P : State → Prop} (hP : RestsOnWork P)
include hP

/-- The evaluation of the cause table purges or leaves the work (R143, R144). -/
theorem evaluate {s : State} (h : P s) : P (evaluate s) := by
  have hstop : P (evalStop s) := by
    unfold evalStop beltStop
    split
    · exact hP.same (workOf_enterRunState _ _ _) (hP.purge .beltStop h)
    · exact h
  exact hP.same (by simp [Machine.evaluate]) hstop

/-- The raising of a cause purges or leaves the work (R142). -/
theorem raiseCause {c : Cause} {d : SourceDetail} {n : Option U16} {why : StopReason} {s : State} (h : P s) :
    P (raiseCause c d n why s) := by
  unfold Machine.raiseCause
  dsimp only
  split
  · exact hP.same (workOf_noteRequest c d n s) h
  · exact hP.evaluate (hP.same (by simp) h)

theorem raiseIf {level : Bool} {c : Cause} {s : State} (h : P s) : P (raiseIf level c s) := by
  unfold Machine.raiseIf
  split
  · exact hP.raiseCause h
  · exact h

/-- A request command keeps what its row's step keeps (R171). -/
theorem takeRequest {c : Instr} {s : State} {k : InFrame → State → State} (hk : ∀ f u, P u → P (k f u)) (h : P s) :
    P (takeRequest c s k) := by
  unfold Machine.takeRequest
  split
  · split
    · exact hk _ _ (hP.same (s := s) rfl h)
    · exact h
  · exact h

/-- A request keeps what its carrying out keeps: a refusal leaves the work (R172). -/
theorem answer {α : Type} {f : InFrame} {fields : Except Reason α} {k : α → State → State} {s : State}
    (hk : ∀ v, fields = .ok v → P (k v s)) (h : P s) : P (answer f fields k s) := by
  cases fields with
  | error r => exact hP.same (workOf_refuse f r s) h
  | ok v => exact hk v rfl

/-- A request whose carrying out leaves the work keeps a property of it. -/
theorem request {α : Type} {c : Instr} {s : State} {fields : InFrame → State → Except Reason α}
    {k : InFrame → α → State → State} (hk : ∀ f v u, P u → P (k f v u)) (h : P s) :
    P (Machine.takeRequest c s fun f u => Machine.answer f (fields f u) (k f) u) :=
  hP.takeRequest (fun f u hu => hP.answer (fun v _ => hk f v u hu) hu) h

end RestsOnWork

/-! ### The steps of the requests of run control and of EXERCISE -/

theorem workOf_startBelt (s : State) : workOf (startBelt s) = workOf s := by
  rw [startBelt, workOf_enterRunState]
  rfl

/-- What a RUN does where a run state lets it leaves the work (R136). -/
theorem workOf_runEffect {r : RunState} {act : State → State} (ha : runEffect r = some act) (s : State) :
    workOf (act s) = workOf s := by
  unfold runEffect at ha
  split at ha <;> cases ha
  · exact workOf_startBelt s
  · exact workOf_enterRunState _ _ _
  · exact workOf_enterRunState _ _ _

theorem workOf_finishDrain (s : State) : workOf (finishDrain s) = workOf s := by
  unfold finishDrain
  split <;> exact workOf_enterRunState _ _ _

theorem workOf_applyMask (was : PerCause CauseEntry) (s : State) (c : Cause) :
    workOf (applyMask was s c) = workOf s := by
  unfold applyMask
  dsimp only
  split
  · exact workOf_setService _ _ _ _
  · split
    · exact workOf_setService _ _ _ _
    · rfl

theorem workOf_foldl_applyMask (was : PerCause CauseEntry) (cs : List Cause) (s : State) :
    workOf (cs.foldl (applyMask was) s) = workOf s := by
  induction cs generalizing s with
  | nil => rfl
  | cons c cs ih => rw [List.foldl_cons, ih, workOf_applyMask]

/-- The start of a gate exercise leaves the work, whether or not it ends at once (R78). -/
theorem workOf_startGateExercise (p : Path) (f : InFrame) (s : State) :
    workOf (startGateExercise p f s) = workOf s := by
  unfold startGateExercise startGateExercise.endIfRead
  split
  · exact (workOf_endGateExercise _).trans rfl
  · rfl

/-- A test strike is begun by a head that is not DISABLED and stays so (R80). -/
theorem workOf_testStrike {h : Head} {s : State} (e : Option Exercise) (n : Nat)
    (hs : (s.cancel.heads.get h).state ≠ .disabled) :
    workOf { s with
      gate := { s.gate with exercise := e }
      cancel := { s.cancel with heads := s.cancel.heads.set h { s.cancel.heads.get h with
        state := .striking (.test n) } } } = workOf s := by
  have hd : (s.cancel.heads.set h { s.cancel.heads.get h with state := .striking (.test n) }).map isDisabled =
      s.cancel.heads.map isDisabled :=
    PerHead.ext_get fun x => by
      by_cases hx : x = h <;> simp_all [isDisabled]
  have hq : (s.cancel.heads.set h { s.cancel.heads.get h with state := .striking (.test n) }).map
      (fun u => u.queue.length) = s.cancel.heads.map fun u => u.queue.length :=
    PerHead.ext_get fun x => by
      by_cases hx : x = h <;> simp_all
  simp [workOf, hd, hq]

theorem workOf_setDetect (c : Channel) (r : Option Threshold) (s : State) :
    workOf (setChannel c (fun k => { k with pendingRecord := r }) s) = workOf s := by
  have hc : (setChannel c (fun k => { k with pendingRecord := r }) s).channels.map channelWork =
      s.channels.map channelWork :=
    PerChannel.ext_get fun x => by
      by_cases hx : x = c <;> simp_all [channelWork]
  unfold workOf
  rw [hc]
  rfl

namespace RestsOnWork

variable {P : State → Prop} (hP : RestsOnWork P)
include hP

theorem clearCause {c : Cause} {s : State} (h : P s) : P (clearCause c s) := by
  unfold Machine.clearCause
  dsimp only
  split
  · exact hP.evaluate (hP.same (by simp) h)
  · exact hP.same (s := s) rfl h

theorem clearNamed {f : InFrame} {c : Cause} {s : State} (h : P s) : P (clearNamed f c s) := by
  unfold Machine.clearNamed
  split
  · exact hP.same (workOf_refuse _ _ s) h
  · split
    · exact hP.same (workOf_refuse _ _ s) h
    · exact hP.same (workOf_reply _ _ _) (hP.clearCause h)

theorem raiseJam {x : Cell} {kind : JamKind} {edge : Option Pos} {n : Option U16} {s : State} (h : P s) :
    P (raiseJam x kind edge n s) :=
  hP.raiseCause (hP.same (s := s) rfl h)

/-- The end of a confirm marks its ticket and raises ACTUATOR, or changes nothing of the work (R73). -/
theorem endConfirm {s : State} (h : P s) : P (endConfirm s) := by
  unfold Machine.endConfirm
  dsimp only
  split
  · exact h
  · split
    · exact hP.same (s := s) rfl h
    · exact hP.raiseCause (hP.same (s := s) ((workOf_setTicket (by exact fun _ => rfl) _).trans rfl) h)

theorem applyCauses {v : CauseSettings} {s : State} (h : P s) : P (applyCauses v s) :=
  hP.evaluate (hP.same (s := s) ((workOf_judgeBeacon _).trans (workOf_foldl_applyMask _ _ _)) h)

end RestsOnWork

/-! ### Commands -/

/-- The commands that write the work themselves. Every other one leaves it, or purges through run control. -/
def writesWork : Instr → Bool
  | .powerOnReset _ | .encoderPulse _ | .entryLeadingEdge | .entryTrailingEdge | .window1Start
  | .windowCompletion | .longCheck | .arrivalMatch _ | .gateDue
  | .strikeStart _ | .strikeDeadline _ | .rechargeExpiry _ | .headFaultInput _ _ | .flapDue
  | .setGeometry | .setTrim | .calApply | .setCancel | .setBin | .binClose | .binRelease
  | .tallyLatch | .tallyRead | .warmReset => true
  | _ => false

/-- A command that does not write the work keeps every property of it. -/
theorem RestsOnWork.exec {P : State → Prop} (hP : RestsOnWork P) {c : Instr} (hc : writesWork c = false) {s t : State}
    (h : P s) (he : exec c s = .next t) : P t := by
  cases c <;> cases hc <;> obtain rfl := Host.Outcome.next.inj he <;> clear he
  case stuckLetterCheck =>
    unfold stuckCheckStep
    dsimp only
    have hs : ∀ n, P (setTicket n (fun u => { u with stuckChecked := true }) s) := fun n =>
      hP.same (workOf_setTicket (by exact fun _ => rfl) s) h
    split
    · split
      · exact hP.raiseJam (hs _)
      · exact hs _
    · exact h
  case arrivalWindowClose x =>
    unfold windowCloseStep
    split
    · exact hP.raiseJam (hP.same (workOf_setTicket (by exact fun _ => rfl) s) h)
    · exact h
  case gateConfirmInput level =>
    split
    · exact h
    · have hp : P { s with pins := { s.pins with gateConfirm := level } } := hP.same (s := s) rfl h
      have hc : P (confirmIfRead { s with pins := { s.pins with gateConfirm := level } }) := by
        unfold confirmIfRead
        split
        · split
          · exact hP.endConfirm hp
          · exact hp
        · exact hp
      rw [gateConfirmChange_eq]
      unfold exerciseIfRead
      split
      · split
        · exact hP.same (workOf_endGateExercise _) hc
        · exact hc
      · exact hc
  case gateConfirmTimeout =>
    split
    · exact hP.endConfirm (hP.same (workOf_advance _ s) h)
    · exact h
  case gateExerciseTimeout =>
    split
    · exact hP.same (by simp) h
    · exact h
  case strikeEnd head =>
    unfold strikeEndStep
    split
    · rename_i hs
      split
      · exact hP.same (workOf_recharge (by simp [hs])) h
      · exact h
    · exact h
  case testStrikeEnd =>
    split
    · split
      · rename_i x _ _ left hs
        have hne : ((advance left s).cancel.heads.get x).state ≠ .disabled := by simp [advance, headAfter, hs]
        exact hP.same ((workOf_recharge hne).trans (workOf_advance _ s)) h
      · exact h
    · exact h
  case flapExerciseEnd =>
    split
    · exact hP.same (workOf_advance _ s) h
    · exact h
  case traySwapPulseEnd =>
    split
    · exact hP.same (workOf_advance _ s) h
    · exact h
  case binFullInput b level =>
    split
    · exact h
    · have hs : workOf (handNotice (.bin b level (s.stacker.bins.get b).state (s.stacker.bins.get b).current s.uptime)
          { s with pins := { s.pins with binFull := s.pins.binFull.set b level } }) = workOf s := by
        rw [workOf_handNotice]; rfl
      unfold binFullChange
      dsimp only
      split
      · exact hP.raiseCause (hP.same hs h)
      · exact hP.same hs h
  case doorInput level =>
    split
    · exact h
    · exact hP.raiseIf (hP.same (s := s) rfl h)
  case extStopInput level =>
    split
    · exact h
    · exact hP.raiseIf (hP.same (s := s) rfl h)
  case beltStall =>
    split
    · exact hP.raiseCause (hP.same (workOf_advance _ s) h)
    · exact h
  case startDone =>
    split
    · exact hP.evaluate (hP.same (by simp) h)
    · exact h
  case startTimerExpiry =>
    split
    · exact hP.raiseCause (hP.same (workOf_advance _ s) h)
    · exact h
  case linkLoss =>
    split
    · exact hP.raiseCause (hP.same (workOf_advance _ s) h)
    · exact h
  case warmDone =>
    split
    · exact hP.same (by simp) h
    · exact h
  case saverExpiry =>
    split
    · rename_i left _
      have hs : workOf { advance left s with lamps := { (advance left s).lamps with saver := none } } = workOf s :=
        workOf_advance left s
      exact hP.same ((workOf_restLamp _ _ _).trans ((workOf_restLamp _ _ _).trans hs)) h
    · exact h
  case beaconFlash =>
    split
    · exact hP.same (workOf_advance _ s) h
    · exact hP.same (workOf_advance _ s) h
    · exact h
  case byteReceived b => exact hP.same (workOf_foldl_hear _ s) h
  case interByteTimeout =>
    split
    · exact hP.same (workOf_advance _ s) h
    · exact h
  case lineBreak =>
    split
    · exact hP.same (s := s) rfl h
    · exact h
  case frameSent =>
    unfold frameSentStep
    split
    · split
      · exact hP.same (s := s) ((workOf_testLost _).trans rfl) h
      · exact h
    · exact h
  case unknownCode => exact hP.takeRequest (fun f u hu => hP.same (workOf_refuse f _ u) hu) h
  case getGeometry => exact hP.request (fun f _ u hu => hP.same (s := u) rfl hu) h
  case tableRead => exact hP.request (fun f _ u hu => hP.same (s := u) rfl hu) h
  case setDetect =>
    refine hP.request (fun f v u hu => hP.same (s := u) ?_ hu) h
    simp [workOf_setDetect]
  case getDetect => exact hP.request (fun f _ u hu => hP.same (s := u) rfl hu) h
  case setLamp => exact hP.request (fun f r u hu => hP.same (s := u) (by simp; rfl) hu) h
  case lampStatus => exact hP.request (fun f _ u hu => hP.same (s := u) rfl hu) h
  case setDecide => exact hP.request (fun f r u hu => by cases r <;> exact hP.same (s := u) rfl hu) h
  case exerciseGate =>
    refine hP.takeRequest (fun f u hu => hP.answer (fun x _ => ?_) hu) h
    split
    · exact hP.same (workOf_refuse _ _ u) hu
    · exact hP.same (workOf_startGateExercise _ _ u) hu
  case exerciseFlap =>
    refine hP.request (fun f x u hu => ?_) h
    split <;> exact hP.same (s := u) rfl hu
  case exerciseHead =>
    refine hP.request (fun f x u hu => ?_) h
    dsimp only
    split
    · rename_i hs
      exact hP.same ((workOf_reply _ _ _).trans (workOf_testStrike _ _ (by simp [hs]))) hu
    · exact hP.same (s := u) rfl hu
    · exact hP.same (s := u) rfl hu
  case loadPlate =>
    refine hP.request (fun f v u hu => ?_) h
    split
    · exact hP.same (s := u) rfl hu
    · split <;> exact hP.same (s := u) rfl hu
  case selectPlate =>
    refine hP.request (fun f v u hu => ?_) h
    split
    · exact hP.same (s := u) rfl hu
    · split <;> exact hP.same (s := u) rfl hu
  case plateRead => exact hP.request (fun f _ u hu => hP.same (s := u) rfl hu) h
  case setPlan => exact hP.request (fun f r u hu => by cases r <;> exact hP.same (s := u) rfl hu) h
  case binStatus => exact hP.request (fun f _ u hu => hP.same (s := u) rfl hu) h
  case run =>
    refine hP.request (fun f _ u hu => ?_) h
    split
    · exact hP.same (workOf_refuse _ _ u) hu
    · rename_i ha
      split
      · exact hP.same (workOf_refuse _ _ u) hu
      · exact hP.same ((workOf_reply _ _ _).trans (workOf_runEffect ha u)) hu
  case finish =>
    refine hP.request (fun f _ u hu => ?_) h
    split
    · exact hP.same ((workOf_reply _ _ _).trans (workOf_finishDrain u)) hu
    · exact hP.same ((workOf_reply _ _ _).trans (workOf_finishDrain u)) hu
    · exact hP.same (workOf_refuse _ _ u) hu
  case halt =>
    refine hP.request (fun f _ u hu => ?_) h
    split
    · exact hP.same (workOf_refuse _ _ u) hu
    · exact hP.same ((workOf_reply _ _ _).trans (workOf_enterRunState _ _ _)) (hP.purge .halt hu)
  case causeClear =>
    refine hP.request (fun f v u hu => ?_) h
    split
    · split
      · exact hP.same (workOf_refuse _ _ u) hu
      · exact hP.clearNamed hu
    · exact hP.clearNamed hu
  case setCauses =>
    refine hP.request (fun f v u hu => hP.same (workOf_reply _ _ _) ?_) h
    cases v with
    | none => exact hu
    | some v => exact hP.applyCauses hu
  case status => exact hP.request (fun f _ u hu => hP.same (s := u) rfl hu) h
  case faultRead => exact hP.request (fun f r u hu => by split <;> exact hP.same (s := u) rfl hu) h
  case calStart => exact hP.request (fun f _ u hu => hP.same (s := u) rfl hu) h
  case calAbort => exact hP.request (fun f _ u hu => hP.same (s := u) rfl hu) h
  case traceArm => exact hP.request (fun f _ u hu => hP.same (s := u) rfl hu) h
  case traceDisarm => exact hP.request (fun f _ u hu => hP.same (s := u) rfl hu) h
  case setNotices => exact hP.request (fun f r u hu => by cases r <;> exact hP.same (s := u) rfl hu) h
  case linkStatus => exact hP.request (fun f _ u hu => hP.same (s := u) rfl hu) h
  case reset => exact hP.request (fun f _ u hu => hP.same (s := u) rfl hu) h

/-- A property of the work that the commands which write the work keep, every step keeps. -/
theorem RestsOnWork.step {P : State → Prop} (hP : RestsOnWork P)
    (hw : ∀ c s t, writesWork c = true → P s → Machine.exec c s = .next t → P t) (s t : State) (h : P s)
    (hs : step s = .next t) : P t := by
  have hexec : ∀ c u, P u → Machine.exec c u = .next t → P t := fun c u hu he => by
    cases hc : writesWork c
    case false => exact hP.exec hc hu he
    case true => exact hw c u t hc hu he
  unfold Machine.step at hs
  split at hs
  · unfold idleStep at hs
    split at hs
    · exact hexec _ s h hs
    · obtain rfl := Host.Outcome.next.inj hs
      exact hP.same (workOf_advance 1 s) h
  · have hrest : ∀ q, P { s with pending := q } := fun q => hP.same (s := s) rfl h
    exact hexec _ _ (hrest _) hs

end Sys2Proof.Proofs
end

section
/-! PROOFS. The work as a machine of its own: its steps, and that every step of the controller makes the work take
such steps. An invariant of the work is then kept by the controller because each of these few steps keeps it. -/

namespace Sys2Proof.Proofs

open Sys2Proof.Machine Sys2Proof.Safety

/-! ### The steps of the work -/

/-- Every field a decision writes is written. -/
def TicketWork.Complete (t : TicketWork) : Prop :=
  t.cls.isSome ∧ t.required.isSome ∧ t.head.isSome ∧ t.taken.isSome ∧ t.strike.isSome ∧ t.outcome.isSome

/-- A DECIDED ticket has every field its decision writes. -/
def TicketWork.Whole (t : TicketWork) : Prop := t.state = .decided → t.Complete

/-- A change of a ticket that leaves it whole and its mark list within bounds. -/
def Amends (t u : TicketWork) : Prop := (t.Whole → u.Whole) ∧ (t.marks ≤ 6 → u.marks ≤ 6)

/-- A channel's samples are at most 255 and its baselines at most 4080. -/
def ChannelWork.InRange (c : ChannelWork) : Prop :=
  SamplesInRange c.gap ∧ SamplesInRange c.leadIn ∧ SamplesInRange c.recent ∧
    (∀ xs ∈ c.spans, SamplesInRange xs) ∧ c.bp ≤ 4080 ∧ c.bf ≤ 4080

/-- A change of a channel that leaves it in range and its ring within bounds. -/
def Rereads (c d : ChannelWork) : Prop := (c.InRange → d.InRange) ∧ (c.ring ≤ 128 → d.ring ≤ 128)

/-- A set of tallies after an entry (R11). -/
def TallyWork.entering (t : TallyWork) : TallyWork := { t with entered := t.entered + 1 }

/-- A set of tallies after a commit (R19). -/
def TallyWork.committing (o : LetterOutcome) (b : Bin) (t : TallyWork) : TallyWork :=
  { t with
    committed := t.committed + 1
    outcome := t.outcome.set o (t.outcome.get o + 1)
    bin := t.bin.set b (t.bin.get b + 1) }

/-- A set of tallies after a purge of some tickets (R20). -/
def TallyWork.purging (n : Nat) (t : TallyWork) : TallyWork := { t with purged := t.purged + BitVec.ofNat 32 n }

/-- A set of tallies less another (R129). -/
def TallyWork.minus (t u : TallyWork) : TallyWork :=
  ⟨t.entered - u.entered, t.committed - u.committed, t.purged - u.purged,
    t.outcome.zip (· - ·) u.outcome, t.bin.zip (· - ·) u.bin⟩

/-- Whether a head's fault input or its enable bars it (R95). -/
def Work.barred (faults enables : PerHead Bool) (h : Head) : Bool := faults.get h || !enables.get h

/-- A step of the work. -/
inductive WorkStep : Work → Work → Prop
  /-- The state after a power-on reset. -/
  | reset (w : Work) (pins : Pins) : WorkStep w (workOf (powerOnState pins))
  /-- A ticket enters (R11). -/
  | enter {w : Work} (t : TicketWork) (hwhole : t.Whole) (hmarks : t.marks ≤ 6) (hroom : w.tickets.length < 32) :
    WorkStep w { w with
      tickets := w.tickets ++ [t]
      throttle := throttleAfter w.geometry (w.tickets.length + 1) w.throttle
      life := w.life.entering
      shift := w.shift.entering }
  /-- Tickets are written. -/
  | amend {w : Work} (ts : List TicketWork) (hts : List.Forall₂ Amends w.tickets ts) :
    WorkStep w { w with tickets := ts }
  /-- A ticket is committed (R19). -/
  | commit {w : Work} {older younger : List TicketWork} {t : TicketWork} (o : LetterOutcome) (b : Bin)
      (ht : w.tickets = older ++ t :: younger) :
    WorkStep w { w with
      tickets := older ++ younger
      throttle := throttleAfter w.geometry (older ++ younger).length w.throttle
      life := w.life.committing o b
      shift := w.shift.committing o b }
  /-- Every ticket is purged (R20). -/
  | purge {w : Work} :
    WorkStep w { w with
      tickets := []
      throttle := false
      life := w.life.purging w.tickets.length
      shift := w.shift.purging w.tickets.length }
  /-- A legal geometry comes into force (R5, R21). -/
  | geometry {w : Work} (g : Geometry) (hg : g.badField = none) :
    WorkStep w { w with geometry := g, throttle := throttleAfter g w.tickets.length w.throttle }
  /-- A snapshot is taken (R126). -/
  | latch {w : Work} (n : Snapshot) (hlife : tallyWork n.life = w.life) (hshift : tallyWork n.shift = w.shift)
      (hbase : n.baseOcc = w.baseOcc) (hocc : n.occupancy = w.tickets.length) :
    WorkStep w { w with held := some n }
  /-- The held snapshot is released (R128). -/
  | release {w : Work} : WorkStep w { w with held := none }
  /-- The shift set is cleared by the held snapshot, which is released (R129). -/
  | clear {w : Work} (n : Snapshot) (hn : w.held = some n) :
    WorkStep w { w with shift := w.shift.minus (tallyWork n.shift), baseOcc := n.occupancy, held := none }
  /-- Channels take samples, complete windows or move baselines. -/
  | channels {w : Work} (cs : PerChannel ChannelWork) (hcs : ∀ x, Rereads (w.channels.get x) (cs.get x)) :
    WorkStep w { w with channels := cs }
  /-- A bin record is written (R105). -/
  | bin {w : Work} (b : Bin) (r : BinRecord) (hr : BinLegal (w.bins.get b) → BinLegal r) :
    WorkStep w { w with bins := w.bins.set b r }
  /-- The bars of the heads change, and the heads follow (R95). -/
  | bars {w : Work} (f e d : PerHead Bool)
      (hd : ∀ h, w.disabled.get h = Work.barred w.faults w.enables h → d.get h = Work.barred f e h) :
    WorkStep w { w with faults := f, enables := e, disabled := d }
  /-- The queues of heads, gate and flaps change within their bounds (R68, R92, R108). -/
  | queues {w : Work} (k : PerHead Nat) (g a : Nat) (hk : ∀ h, w.strikes.get h ≤ 8 → k.get h ≤ 8)
      (hg : w.switches ≤ 8 → g ≤ 8) (ha : w.actions ≤ 16 → a ≤ 16) :
    WorkStep w { w with strikes := k, switches := g, actions := a }

/-- The work of a state is reached by steps of the work. -/
def Reached (w : Work) (s : State) : Prop := Relation.ReflTransGen WorkStep w (workOf s)

namespace Reached

variable {w : Work} {s t : State}

theorem start (s : State) : Reached (workOf s) s := Relation.ReflTransGen.refl

theorem same (e : workOf t = workOf s) (h : Reached w s) : Reached w t := by
  unfold Reached
  rwa [e]

theorem tail {v : Work} (h : Reached w s) (hs : WorkStep (workOf s) v) (e : workOf t = v) : Reached w t := by
  unfold Reached
  rw [e]
  exact Relation.ReflTransGen.tail h hs

end Reached

/-! ### The purge -/

theorem tallyWork_purgeTickets (how : Purge) (ts : List Ticket) (s : State) :
    tallyWork (purgeTickets how ts s).tally.life = (tallyWork s.tally.life).purging ts.length ∧
      tallyWork (purgeTickets how ts s).tally.shift = (tallyWork s.tally.shift).purging ts.length := by
  induction ts generalizing s with
  | nil => simp [purgeTickets, TallyWork.purging, tallyWork]
  | cons t ts ih =>
    have hone : ∀ x : U32, x + 1#32 + BitVec.ofNat 32 ts.length = x + BitVec.ofNat 32 (ts.length + 1) := fun x => by
      rw [BitVec.ofNat_add, BitVec.add_comm (BitVec.ofNat 32 ts.length), BitVec.add_assoc]
    simp only [purgeTickets, ih, purgeTicket_tally_life, purgeTicket_tally_shift]
    simp [TallyWork.purging, tallyWork, bump, hone]

theorem samplesInRange_append {xs ys : List Sample} :
    SamplesInRange (xs ++ ys) ↔ SamplesInRange xs ∧ SamplesInRange ys := List.forall_mem_append

/-- A gap window that goes on with samples in range stays in range. -/
theorem samplesInRange_join {belt : Pos} {xs : List Sample} {g : GapWindow} (hx : SamplesInRange xs)
    (hg : SamplesInRange g.samples) : SamplesInRange (g.join belt xs).samples := by
  unfold GapWindow.join
  split
  · exact hg
  · exact samplesInRange_append.mpr ⟨hg, hx⟩

theorem samplesInRange_nil : SamplesInRange [] := fun _ h => absurd h List.not_mem_nil

theorem rereads_purge (how : Purge) (belt : Pos) (c : ScanChannel) :
    Rereads (channelWork c) (channelWork (purgeChannel how belt c)) := by
  refine ⟨fun ⟨hgap, hlead, hrecent, _, hb⟩ => ⟨?_, samplesInRange_nil, hrecent, by simp [channelWork, purgeChannel], hb⟩, id⟩
  show SamplesInRange (purgeChannel how belt c).gap.samples
  unfold purgeChannel
  dsimp only
  split
  · exact samplesInRange_nil
  · exact samplesInRange_join hlead hgap

theorem Reached.purge {w : Work} (how : Purge) {s : State} (h : Reached w s) : Reached w (purge how s) := by
  let w1 : Work := { workOf s with
    tickets := []
    throttle := false
    life := (workOf s).life.purging (workOf s).tickets.length
    shift := (workOf s).shift.purging (workOf s).tickets.length }
  let w2 : Work := { w1 with channels := (Machine.purge how s).channels.map channelWork }
  have h1 : WorkStep (workOf s) w1 := .purge
  have h2 : WorkStep w1 w2 := .channels _ fun x => by
    simp only [w1, workOf, purge_channels, PerChannel.get_map]
    exact rereads_purge how _ _
  have h3 : WorkStep w2 { w2 with strikes := .all 0, switches := 0, actions := 0 } :=
    .queues _ _ _ (by simp) (by simp) (by simp)
  have hd : (Machine.purge how s).cancel.heads.map isDisabled = s.cancel.heads.map isDisabled :=
    PerHead.ext_get fun h => by
      simp only [purge_cancel_heads, PerHead.get_map, isDisabled, purgeHead]
      split
      · simp_all
      · split <;> simp_all
      · rfl
  have hq : (Machine.purge how s).cancel.heads.map (fun u => u.queue.length) = .all 0 :=
    PerHead.ext_get fun h => by simp [purgeHead]
  have e : workOf (Machine.purge how s) = { w2 with strikes := .all 0, switches := 0, actions := 0 } := by
    have ht := tallyWork_purgeTickets how s.tracker.table s
    have hl : (Machine.purge how s).tally = (purgeTickets how s.tracker.table s).tally := by simp [Machine.purge]
    simp only [workOf, hd, hq, hl, ht.1, ht.2, w2, w1]
    simp
  unfold Reached
  rw [e]
  exact ((Relation.ReflTransGen.tail h h1).tail h2).tail h3

/-- What is reached rests on the work. -/
theorem Reached.restsOnWork (w : Work) : RestsOnWork (Reached w) where
  same e h := h.same e
  purge how _ h := h.purge how

end Sys2Proof.Proofs
end

section
/-! PROOFS. The invariants of the work, each kept by every step of the work. -/

namespace Sys2Proof.Proofs

open Sys2Proof.Machine Sys2Proof.Safety

/-- A property of the work that its steps keep holds wherever they reach. -/
theorem Reached.keeps {Q : Work → Prop} (hQ : ∀ {v w : Work}, WorkStep v w → Q v → Q w) {v : Work} {s : State}
    (h : Reached v s) (hv : Q v) : Q (workOf s) :=
  Relation.ReflTransGen.trans_induction_on (motive := fun {a b} _ => Q a → Q b) h (fun _ ha => ha) (fun hs ha => hQ hs ha)
    (fun _ _ hab hbc ha => hbc (hab ha)) hv

/-! ### Sums of counters -/

theorem sum_outcome_set (t : PerOutcome U32) (o : LetterOutcome) :
    (t.set o (t.get o + 1)).toList.sum = t.toList.sum + 1 := by
  cases o <;> simp only [PerOutcome.set, PerOutcome.get, PerOutcome.toList, List.sum_cons, List.sum_nil] <;> ring

theorem sum_bin_set (t : PerBin U32) (b : Bin) : (t.set b (t.get b + 1)).toList.sum = t.toList.sum + 1 := by
  cases b <;> simp only [PerBin.set, PerBin.get, PerBin.toList, List.sum_cons, List.sum_nil] <;> ring

theorem sum_outcome_minus (t u : PerOutcome U32) : (t.zip (· - ·) u).toList.sum = t.toList.sum - u.toList.sum := by
  simp only [PerOutcome.zip, PerOutcome.toList, List.sum_cons, List.sum_nil]
  ring

theorem sum_bin_minus (t u : PerBin U32) : (t.zip (· - ·) u).toList.sum = t.toList.sum - u.toList.sum := by
  simp only [PerBin.zip, PerBin.toList, List.sum_cons, List.sum_nil]
  ring

/-! ### The tallies (R124, R125) -/

/-- The relation of R124 on the counters of a set. -/
def TallyWork.Balanced (t : TallyWork) (occ base : Nat) : Prop :=
  t.entered - t.committed - t.purged = BitVec.ofNat 32 occ - BitVec.ofNat 32 base

/-- The relation of R125 on the counters of a set. -/
def TallyWork.Adds (t : TallyWork) : Prop :=
  t.committed = t.outcome.toList.sum ∧ t.committed = t.bin.toList.sum

/-- The relations of R124 and R125 on the work. -/
def Work.TalliesAgree (w : Work) : Prop :=
  w.life.Balanced w.tickets.length 0 ∧ w.shift.Balanced w.tickets.length w.baseOcc ∧ w.life.Adds ∧ w.shift.Adds ∧
    ∀ n ∈ w.held, SnapshotAgrees w.baseOcc n

theorem talliesAgree_iff (s : State) : TalliesAgree s ↔ (workOf s).TalliesAgree := by
  simp only [TalliesAgree, Work.TalliesAgree, workOf, List.length_map]
  rfl

theorem TallyWork.balanced_entering {t : TallyWork} {occ base : Nat} (h : t.Balanced occ base) :
    t.entering.Balanced (occ + 1) base := by
  have hone : BitVec.ofNat 32 1 = (1 : U32) := rfl
  simp only [Balanced, entering, BitVec.ofNat_add, hone] at h ⊢
  linear_combination h

theorem TallyWork.balanced_committing {t : TallyWork} {o : LetterOutcome} {b : Bin} {occ base : Nat}
    (h : t.Balanced (occ + 1) base) : (t.committing o b).Balanced occ base := by
  have hone : BitVec.ofNat 32 1 = (1 : U32) := rfl
  simp only [Balanced, committing, BitVec.ofNat_add, hone] at h ⊢
  linear_combination h

theorem TallyWork.balanced_purging {t : TallyWork} {occ base : Nat} (h : t.Balanced occ base) :
    (t.purging occ).Balanced 0 base := by
  have hzero : BitVec.ofNat 32 0 = (0 : U32) := rfl
  simp only [Balanced, purging, hzero] at h ⊢
  linear_combination h

/-- The shift set cleared by a snapshot is balanced over the entries since it (R129). -/
theorem TallyWork.balanced_minus {t u : TallyWork} {occ base snap : Nat} (h : t.Balanced occ base)
    (hu : u.Balanced snap base) : (t.minus u).Balanced occ snap := by
  simp only [Balanced, minus] at h hu ⊢
  linear_combination h - hu

theorem TallyWork.adds_committing {t : TallyWork} (o : LetterOutcome) (b : Bin) (h : t.Adds) :
    (t.committing o b).Adds := by
  obtain ⟨ho, hb⟩ := h
  refine ⟨?_, ?_⟩
  · simp only [committing, sum_outcome_set, ← ho]
  · simp only [committing, sum_bin_set, ← hb]

theorem TallyWork.adds_minus {t u : TallyWork} (ht : t.Adds) (hu : u.Adds) : (t.minus u).Adds := by
  obtain ⟨hto, htb⟩ := ht
  obtain ⟨huo, hub⟩ := hu
  refine ⟨?_, ?_⟩
  · simp only [minus, sum_outcome_minus, ← hto, ← huo]
  · simp only [minus, sum_bin_minus, ← htb, ← hub]

theorem entriesBalance_zero : EntriesBalance zeroTallies 0 0 := by
  unfold EntriesBalance
  decide

theorem WorkStep.talliesAgree {v w : Work} (hs : WorkStep v w) (h : v.TalliesAgree) : w.TalliesAgree := by
  obtain ⟨hl, hsh, al, as, hn⟩ := h
  cases hs with
  | reset pins =>
    exact (talliesAgree_iff _).mp
      ⟨entriesBalance_zero, entriesBalance_zero, ⟨rfl, rfl⟩, ⟨rfl, rfl⟩, fun n h => nomatch h⟩
  | enter t =>
    simp only [Work.TalliesAgree, List.length_append, List.length_singleton]
    exact ⟨TallyWork.balanced_entering hl, TallyWork.balanced_entering hsh, al, as, hn⟩
  | amend ts hts =>
    simp only [Work.TalliesAgree, ← hts.length_eq]
    exact ⟨hl, hsh, al, as, hn⟩
  | commit o b ht =>
    simp only [ht, List.length_append, List.length_cons, ← Nat.add_assoc] at hl hsh
    simp only [Work.TalliesAgree, List.length_append]
    exact ⟨TallyWork.balanced_committing hl, TallyWork.balanced_committing hsh, TallyWork.adds_committing o b al,
      TallyWork.adds_committing o b as, hn⟩
  | purge => exact ⟨TallyWork.balanced_purging hl, TallyWork.balanced_purging hsh, al, as, hn⟩
  | latch n hlife hshift hbase hocc =>
    refine ⟨hl, hsh, al, as, fun m hm => ?_⟩
    obtain rfl : n = m := Option.some.inj hm
    refine ⟨hbase, ?_, ?_, ?_, ?_⟩
    · rw [← hlife, ← hocc] at hl; exact hl
    · rw [← hshift, ← hocc, ← hbase] at hsh; exact hsh
    · rw [← hlife] at al; exact al
    · rw [← hshift] at as; exact as
  | release => exact ⟨hl, hsh, al, as, fun n h => nomatch h⟩
  | clear n hheld =>
    obtain ⟨hbase, _, hbal, _, hadds⟩ := hn n hheld
    rw [hbase] at hbal
    exact ⟨hl, TallyWork.balanced_minus hsh hbal, al, TallyWork.adds_minus as hadds, fun n h => nomatch h⟩
  | geometry | channels | bin | bars | queues => exact ⟨hl, hsh, al, as, hn⟩

/-! ### The throttle (R5, R21) -/

theorem range_of_firstBad {n : Nat} {fields : List (Nat × Nat × Nat)} (h : firstBad n fields = none) :
    ∀ z ∈ fields, z.2.1 ≤ z.1 ∧ z.1 ≤ z.2.2 := by
  induction fields generalizing n with
  | nil => exact fun _ hz => absurd hz List.not_mem_nil
  | cons x fields ih =>
    rw [firstBad] at h
    split at h
    · rename_i hx
      exact List.forall_mem_cons.mpr ⟨hx, ih h⟩
    · nomatch h

/-- The hold mark of a legal geometry lies above the occupancy of an empty table (R4). -/
theorem holdMark_of_legal {g : Geometry} (h : g.badField = none) : 8 ≤ g.holdMark := by
  unfold Geometry.badField at h
  split at h
  · nomatch h
  · rename_i hranges
    exact (range_of_firstBad hranges (g.holdMark, 8, 31) (by simp [Geometry.ranges])).1

/-- The throttle on from the hold mark up and off from the hold mark less 4 down (R21). -/
def Work.ThrottleFollows (w : Work) : Prop :=
  (w.geometry.holdMark ≤ w.tickets.length → w.throttle = true) ∧
    (w.tickets.length + 4 ≤ w.geometry.holdMark → w.throttle = false)

/-- R5 and R21 on the work. -/
def Work.ThrottleLegal (w : Work) : Prop := w.geometry.badField = none ∧ w.ThrottleFollows

theorem throttleLegal_iff (s : State) : GeometryLegal s ∧ ThrottleFollows s ↔ (workOf s).ThrottleLegal := by
  simp only [GeometryLegal, ThrottleFollows, Work.ThrottleLegal, Work.ThrottleFollows, workOf, List.length_map,
    occupancy]

theorem throttleAfter_follows (g : Geometry) (occ : Nat) (was : Bool) :
    (g.holdMark ≤ occ → throttleAfter g occ was = true) ∧
      (occ + 4 ≤ g.holdMark → throttleAfter g occ was = false) := by
  unfold throttleAfter
  refine ⟨fun h => if_pos h, fun h => ?_⟩
  rw [if_neg (by omega), if_pos h]

theorem badField_default : Geometry.badField defaultGeometry = none := by decide

theorem WorkStep.throttleLegal {v w : Work} (hs : WorkStep v w) (h : v.ThrottleLegal) : w.ThrottleLegal := by
  obtain ⟨hg, hf⟩ := h
  cases hs with
  | reset pins =>
    refine ⟨badField_default, fun h => absurd h ?_, fun _ => rfl⟩
    exact Nat.not_le.mpr (Nat.zero_lt_succ _)
  | enter t =>
    refine ⟨hg, ?_⟩
    simp only [Work.ThrottleFollows, List.length_append, List.length_singleton]
    exact throttleAfter_follows _ _ _
  | amend ts hts =>
    refine ⟨hg, ?_⟩
    simp only [Work.ThrottleFollows, ← hts.length_eq]
    exact hf
  | commit o b ht => exact ⟨hg, throttleAfter_follows _ _ _⟩
  | purge => exact ⟨hg, fun h => absurd (Nat.le_trans (holdMark_of_legal hg) h) (by simp), fun _ => rfl⟩
  | geometry g hlegal => exact ⟨hlegal, throttleAfter_follows _ _ _⟩
  | latch | release | clear | channels | bin | bars | queues => exact ⟨hg, hf⟩

/-! ### Bins (R105) -/

/-- R105 on the work. -/
def Work.BinsLegal (w : Work) : Prop := ∀ b, BinLegal (w.bins.get b)

theorem binsLegal_iff (s : State) : BinsLegal s ↔ (workOf s).BinsLegal := by
  simp only [BinsLegal, PerBin.mem_toList, forall_exists_index, forall_apply_eq_imp_iff]
  rfl

theorem binLegal_reset : BinLegal ⟨1000, none, 1000, .auto, .opened, 0⟩ :=
  ⟨⟨by decide, by decide⟩, by simp, Nat.le_refl _, by decide⟩

theorem WorkStep.binsLegal {v w : Work} (hs : WorkStep v w) (h : v.BinsLegal) : w.BinsLegal := by
  cases hs with
  | reset pins => exact fun b => by cases b <;> exact binLegal_reset
  | bin b r hr =>
    intro x
    by_cases hx : x = b
    · subst hx
      simpa using hr (h x)
    · simpa [hx] using h x
  | enter | amend | commit | purge | geometry | latch | release | clear | channels | bars | queues => exact h

/-! ### Heads (R95) -/

/-- R95 on the work. -/
def Work.HeadsFollow (w : Work) : Prop := ∀ h, w.disabled.get h = Work.barred w.faults w.enables h

theorem headsFollow_iff (s : State) : HeadsFollowBars s ↔ (workOf s).HeadsFollow := by
  have hone : ∀ h, ((s.cancel.heads.get h).state = .disabled ↔ headBarred s h = true) ↔
      (workOf s).disabled.get h = Work.barred (workOf s).faults (workOf s).enables h := fun h => by
    simp only [workOf, PerHead.get_map, isDisabled, Work.barred, headBarred]
    by_cases hd : (s.cancel.heads.get h).state = .disabled <;>
      cases s.pins.headFault.get h || !s.cancel.record.enable.get h <;> simp [hd]
  constructor
  · intro hf h
    cases h
    · exact (hone .a).mp (hf .a (by simp))
    · exact (hone .b).mp (hf .b (by simp))
  · exact fun hf h _ => (hone h).mpr (hf h)

theorem WorkStep.headsFollow {v w : Work} (hs : WorkStep v w) (h : v.HeadsFollow) : w.HeadsFollow := by
  cases hs with
  | reset pins =>
    intro x
    simp only [workOf, powerOnState, PerHead.get_map, isDisabled, headAtReset, Work.barred]
    cases pins.headFault.get x <;> simp
  | bars f e d hd => exact fun x => hd x (h x)
  | enter | amend | commit | purge | geometry | latch | release | clear | channels | bin | queues => exact h

/-! ### Decisions (R9, R61 to R65) -/

/-- R9 and R61 to R65 on the work. -/
def Work.DecisionsWhole (w : Work) : Prop := ∀ t ∈ w.tickets, t.Whole

theorem decisionsWhole_iff (s : State) : DecisionsWhole s ↔ (workOf s).DecisionsWhole := by
  simp only [DecisionsWhole, Work.DecisionsWhole, workOf, List.forall_mem_map]
  rfl

/-- What a change of each ticket keeps, the table keeps. -/
theorem forall_mem_amends {P : TicketWork → Prop} {ts us : List TicketWork} (h : List.Forall₂ Amends ts us)
    (hP : ∀ t u, Amends t u → P t → P u) (ht : ∀ t ∈ ts, P t) : ∀ u ∈ us, P u := by
  induction h with
  | nil => exact fun _ h => absurd h List.not_mem_nil
  | cons hab _ ih =>
    obtain ⟨ha, hts⟩ := List.forall_mem_cons.mp ht
    exact List.forall_mem_cons.mpr ⟨hP _ _ hab ha, ih hts⟩

theorem WorkStep.decisionsWhole {v w : Work} (hs : WorkStep v w) (h : v.DecisionsWhole) : w.DecisionsWhole := by
  cases hs with
  | reset pins => exact fun _ h => absurd h List.not_mem_nil
  | enter t hwhole => exact List.forall_mem_append.mpr ⟨h, List.forall_mem_singleton.mpr hwhole⟩
  | amend ts hts => exact forall_mem_amends hts (fun _ _ ha => ha.1) h
  | commit o b ht =>
    intro t hmem
    refine h t ?_
    rw [ht]
    simp only [List.mem_append, List.mem_cons] at hmem ⊢
    tauto
  | purge => exact fun _ h => absurd h List.not_mem_nil
  | geometry | latch | release | clear | channels | bin | bars | queues => exact h

/-! ### Readings (R26, R35, R38) -/

/-- R26, R35 and R38 on the work. -/
def Work.ReadingsInRange (w : Work) : Prop := ∀ x, (w.channels.get x).InRange

theorem channelInRange_iff (c : ScanChannel) : ChannelInRange c ↔ (channelWork c).InRange := by
  simp only [ChannelInRange, ChannelWork.InRange, channelWork, List.forall_mem_map]

theorem readingsInRange_iff (s : State) : ReadingsInRange s ↔ (workOf s).ReadingsInRange := by
  simp only [ReadingsInRange, PerChannel.mem_toList, forall_exists_index, forall_apply_eq_imp_iff,
    channelInRange_iff, Work.ReadingsInRange, workOf, PerChannel.get_map]

theorem channelInRange_reset : (channelWork resetChannel).InRange :=
  ⟨samplesInRange_nil, samplesInRange_nil, samplesInRange_nil, fun _ h => absurd h List.not_mem_nil,
    Nat.zero_le _, Nat.zero_le _⟩

theorem WorkStep.readingsInRange {v w : Work} (hs : WorkStep v w) (h : v.ReadingsInRange) : w.ReadingsInRange := by
  cases hs with
  | reset pins => exact fun x => by cases x <;> exact channelInRange_reset
  | channels cs hcs => exact fun x => (hcs x).1 (h x)
  | enter | amend | commit | purge | geometry | latch | release | clear | bin | bars | queues => exact h

/-! ### Capacities (R7, R46, R48, R68, R92, R108) -/

/-- The table, its mark lists, the rings and the queues within their capacities. -/
def Work.Fits (w : Work) : Prop :=
  (w.tickets.length ≤ 32 ∧ ∀ t ∈ w.tickets, t.marks ≤ 6) ∧ (∀ x, (w.channels.get x).ring ≤ 128) ∧
    w.switches ≤ 8 ∧ (∀ h, w.strikes.get h ≤ 8) ∧ w.actions ≤ 16

theorem fits_iff (s : State) : TableFits s ∧ RingsFit s ∧ QueuesFit s ↔ (workOf s).Fits := by
  simp only [TableFits, RingsFit, QueuesFit, PerChannel.mem_toList, PerHead.mem_toList, forall_exists_index,
    forall_apply_eq_imp_iff, Work.Fits, workOf, PerChannel.get_map, PerHead.get_map, List.length_map,
    List.forall_mem_map]
  rfl

theorem WorkStep.fits {v w : Work} (hs : WorkStep v w) (h : v.Fits) : w.Fits := by
  obtain ⟨⟨hlen, hmarks⟩, hring, hg, hk, ha⟩ := h
  cases hs with
  | reset pins =>
    exact ⟨⟨Nat.zero_le _, fun _ h => absurd h List.not_mem_nil⟩, fun x => by cases x <;> exact Nat.zero_le _,
      Nat.zero_le _, fun x => by cases x <;> exact Nat.zero_le _, Nat.zero_le _⟩
  | enter t hwhole ht hroom =>
    refine ⟨⟨?_, List.forall_mem_append.mpr ⟨hmarks, List.forall_mem_singleton.mpr ht⟩⟩, hring, hg, hk, ha⟩
    simp only [List.length_append, List.length_singleton]
    omega
  | amend ts hts =>
    exact ⟨⟨hts.length_eq ▸ hlen, forall_mem_amends hts (fun _ _ ht => ht.2) hmarks⟩, hring, hg, hk, ha⟩
  | commit o b ht =>
    rw [ht] at hlen hmarks
    simp only [List.length_append, List.length_cons] at hlen
    refine ⟨⟨?_, fun t hmem => hmarks t ?_⟩, hring, hg, hk, ha⟩
    · simp only [List.length_append]
      omega
    · simp only [List.mem_append, List.mem_cons] at hmem ⊢
      tauto
  | purge => exact ⟨⟨Nat.zero_le _, fun _ h => absurd h List.not_mem_nil⟩, hring, hg, hk, ha⟩
  | channels cs hcs => exact ⟨⟨hlen, hmarks⟩, fun x => (hcs x).2 (hring x), hg, hk, ha⟩
  | queues k g a hk' hg' ha' => exact ⟨⟨hlen, hmarks⟩, hring, hg' hg, fun x => hk' x (hk x), ha' ha⟩
  | geometry | latch | release | clear | bin | bars => exact ⟨⟨hlen, hmarks⟩, hring, hg, hk, ha⟩

end Sys2Proof.Proofs
end

section
/-! PROOFS. Every step of the controller makes the work take steps: the decisions and the strikes. -/

namespace Sys2Proof.Proofs

open Sys2Proof.Machine Sys2Proof.Safety

/-! ### Tickets written, heads and queues changed -/

theorem Amends.refl (t : TicketWork) : Amends t t := ⟨id, id⟩

/-- A write that leaves a ticket's state, the fields of its decision and its marks alone amends it. -/
theorem Amends.of_eq {t u : TicketWork} (h : u = t) : Amends t u := h ▸ Amends.refl t

namespace Reached

variable {w : Work} {s : State}

/-- Any change of the table that amends its tickets, one by one. -/
theorem table {f : Ticket → Ticket} (hf : ∀ t ∈ s.tracker.table, Amends (ticketWork t) (ticketWork (f t)))
    (h : Reached w s) : Reached w (withTable (s.tracker.table.map f) s) := by
  refine h.tail (.amend ((s.tracker.table.map f).map ticketWork) ?_) rfl
  simp only [workOf, List.map_map, List.forall₂_map_left_iff, List.forall₂_map_right_iff, List.forall₂_same]
  exact hf

theorem setTicket {n : U16} {f : Ticket → Ticket} (hf : ∀ t, Amends (ticketWork t) (ticketWork (f t)))
    (h : Reached w s) : Reached w (setTicket n f s) :=
  h.table fun t _ => by
    split
    · exact hf t
    · exact Amends.refl _

/-- The heads' states and queues change, none going into or out of DISABLED. -/
theorem setHead {x : Head} {f : HeadUnit → HeadUnit} (hd : ∀ u, u = s.cancel.heads.get x → isDisabled (f u) = isDisabled u)
    (hq : ∀ u, u = s.cancel.heads.get x → u.queue.length ≤ 8 → (f u).queue.length ≤ 8) (h : Reached w s) :
    Reached w (setHead x f s) := by
  have hdis : (Machine.setHead x f s).cancel.heads.map isDisabled = s.cancel.heads.map isDisabled :=
    PerHead.ext_get fun y => by
      by_cases hy : y = x
      · subst hy
        simpa [Machine.setHead] using hd _ rfl
      · simp [Machine.setHead, hy]
  refine h.tail (.queues ((Machine.setHead x f s).cancel.heads.map fun u => u.queue.length) _ _ (fun y hy => ?_) id id) ?_
  · simp only [workOf, PerHead.get_map] at hy ⊢
    by_cases hyx : y = x
    · subst hyx
      simpa [Machine.setHead] using hq _ rfl hy
    · simpa [Machine.setHead, hyx] using hy
  · simp only [workOf, hdis]
    rfl

/-- The gate queue changes within its bound. -/
theorem switches (q : List GateEntry) (hq : s.gate.queue.length ≤ 8 → q.length ≤ 8) (h : Reached w s) :
    Reached w { s with gate := { s.gate with queue := q } } :=
  h.tail (.queues _ q.length _ (fun _ h => h) hq id) rfl

/-- The flap queue changes within its bound. -/
theorem actions (fl : PerFlap Bool) (q : List FlapAction) (hq : s.stacker.queue.length ≤ 16 → q.length ≤ 16)
    (h : Reached w s) : Reached w { s with stacker := { s.stacker with flaps := fl, queue := q } } :=
  h.tail (.queues _ _ q.length (fun _ h => h) id hq) rfl

end Reached

/-! ### A field of the tickets of a number -/

/-- Every ticket of a number in the table has a property. -/
def AllOf (n : U16) (P : Ticket → Prop) (s : State) : Prop := ∀ t ∈ s.tracker.table, t.number = n → P t

theorem allOf_setTicket {n : U16} {f : Ticket → Ticket} {P : Ticket → Prop} {s : State}
    (hf : ∀ t ∈ s.tracker.table, t.number = n → P (f t)) : AllOf n P (setTicket n f s) := by
  intro u hu hn
  obtain ⟨t, ht, rfl⟩ := List.mem_map.mp hu
  by_cases hnum : t.number = n
  · rw [if_pos hnum]
    exact hf t ht hnum
  · rw [if_neg hnum] at hn
    exact absurd hn hnum

/-- A write that keeps a property of a ticket keeps it for all of the number. -/
theorem AllOf.setTicket {n : U16} {f : Ticket → Ticket} {P : Ticket → Prop} {s : State} (h : AllOf n P s)
    (hf : ∀ t, P t → P (f t)) : AllOf n P (setTicket n f s) :=
  allOf_setTicket fun t ht hn => hf t (h t ht hn)

/-- A strike that becomes MISSED gives every ticket of its number its result (R93). -/
theorem AllOf.missStrike {n : U16} {h : Head} {P Q : Ticket → Prop} {s : State} (hs : AllOf n P s)
    (hf : ∀ t, P t → Q { t with strike := some .missed, outcome := t.outcome.map handCancelled }) :
    AllOf n Q (missStrike n h s) := by
  unfold Machine.missStrike
  split
  · exact allOf_setTicket fun t ht hn => hf t (hs t ht hn)
  · rename_i hnone
    intro t ht hn
    refine absurd (List.find?_isSome.mpr ⟨t, ht, ?_⟩) hnone
    exact beq_iff_eq.mpr hn

/-! ### The decision (R50 to R52, R61 to R65) -/

theorem workOf_contribute (t : Ticket) (s : State) : workOf (contribute t s) = workOf s := by simp [workOf]

theorem workOf_testTrace (t : Ticket) (cls : LetterClass) (o : LetterOutcome) (s : State) :
    workOf (testTrace t cls o s) = workOf s := by simp [workOf]

/-- The work does not see a posting of a counter that R124 and R125 do not relate. -/
theorem workOf_postIf_pathForced (b : Bool) (s : State) : workOf (postIf b .pathForced s) = workOf s := by
  cases b <;> rfl

theorem length_insertStrike (e : StrikeEntry) (q : List StrikeEntry) :
    (insertStrike e q).length = q.length + 1 := by
  obtain ⟨ahead, behind, rfl, hins, -, -⟩ := insertStrike_splits e q
  rw [hins, List.length_append, List.length_append, List.length_cons]
  omega

/-- A switch is queued only with room in the gate queue (R70). -/
theorem switchQueued_room {s : State} {t : Ticket} {required : ReqPath} {p : Path}
    (h : switchQueued s t required = some p) : s.gate.queue.length < 8 := by
  unfold switchQueued at h
  split at h
  · nomatch h
  · split at h
    · rename_i hok
      have hfeasible := hok.2
      simp only [switchFeasible, Bool.and_eq_true, decide_eq_true_eq] at hfeasible
      exact hfeasible.2
    · nomatch h

namespace Reached

variable {w : Work} {s : State}

theorem pathRequest (t : Ticket) (required : ReqPath) (h : Reached w s) : Reached w (pathRequest t required s) := by
  unfold Machine.pathRequest
  dsimp only
  refine same (workOf_postIf_pathForced _ _) (setTicket (fun _ => ⟨fun hw hd => ?_, id⟩) (h.switches _ fun hq => ?_))
  · obtain ⟨hc, hr, hh, -, hs, ho⟩ := hw hd
    exact ⟨hc, hr, hh, rfl, hs, ho⟩
  · split
    · rename_i p hp
      have hroom := switchQueued_room hp
      rw [List.length_append]
      exact hroom
    · exact hq

theorem missStrike (n : U16) (x : Head) (h : Reached w s) : Reached w (missStrike n x s) := by
  unfold Machine.missStrike
  split
  · refine same (s := Machine.setTicket n _ s) rfl (h.setTicket fun _ => ⟨fun hw hd => ?_, id⟩)
    obtain ⟨hc, hr, hh, ht, -, ho⟩ := hw hd
    exact ⟨hc, hr, hh, ht, rfl, by simpa [ticketWork] using ho⟩
  · exact h

/-- A strike result written to a ticket leaves it whole. -/
theorem strikeResult (n : U16) (r : StrikeResult) (h : Reached w s) :
    Reached w (Machine.setTicket n (fun t => { t with strike := some r }) s) :=
  h.setTicket fun _ => ⟨fun hw hd => by
    obtain ⟨hc, hr, hh, ht, -, ho⟩ := hw hd
    exact ⟨hc, hr, hh, ht, rfl, ho⟩, id⟩

theorem planFor (t : Ticket) (x : Head) (ms len letter : Nat) (h : Reached w s) :
    Reached w (planFor t x ms len letter s) := by
  unfold Machine.planFor
  dsimp only
  have hplan := fun (b : Option Band) (p q : Bool) =>
    h.setTicket (n := t.number) (f := fun u => { u with band := b, pmShort := p, noPostmark := q })
      fun _ => Amends.refl _
  split
  · exact (hplan _ _ _).missStrike _ _
  · split
    · exact (hplan _ _ _).missStrike _ _
    · rename_i hroom
      refine ((hplan _ _ _).strikeResult t.number .pending).setHead (fun u _ => rfl) fun u hu _ => ?_
      rw [hu, length_insertStrike]
      exact Nat.not_le.mp hroom

theorem strikeFor (t : Ticket) (v : Verdict) (forced : Bool) (h : Reached w s) :
    Reached w (strikeFor t v forced s) := by
  unfold Machine.strikeFor
  split
  · exact h.planFor _ _ _ _ _
  · exact h.strikeResult _ _

end Reached

/-- The fields a decision writes before it plans the strike. -/
def Judged (t : Ticket) : Prop :=
  t.cls.isSome ∧ t.required.isSome ∧ t.head.isSome ∧ t.taken.isSome ∧ t.outcome.isSome

theorem AllOf.planFor {t : Ticket} {x : Head} {ms len letter : Nat} {s : State} (hs : AllOf t.number Judged s) :
    AllOf t.number (fun u => (ticketWork u).Complete) (planFor t x ms len letter s) := by
  have hmiss : ∀ u, Judged u →
      (ticketWork { u with strike := some .missed, outcome := u.outcome.map handCancelled }).Complete :=
    fun u ⟨hc, hr, hh, ht, ho⟩ => ⟨hc, hr, hh, ht, rfl, by simpa [ticketWork] using ho⟩
  have hplan := fun (b : Option Band) (p q : Bool) =>
    hs.setTicket (f := fun u => { u with band := b, pmShort := p, noPostmark := q }) fun _ hu => hu
  unfold Machine.planFor
  dsimp only
  split
  · exact (hplan _ _ _).missStrike (Q := fun u => (ticketWork u).Complete) hmiss
  · split
    · exact (hplan _ _ _).missStrike (Q := fun u => (ticketWork u).Complete) hmiss
    · exact allOf_setTicket fun u hu hn => by
        obtain ⟨hc, hr, hh, ht, ho⟩ := hplan _ _ _ u hu hn
        exact ⟨hc, hr, hh, ht, rfl, ho⟩

theorem AllOf.strikeFor {t : Ticket} {v : Verdict} {forced : Bool} {s : State} (hs : AllOf t.number Judged s) :
    AllOf t.number (fun u => (ticketWork u).Complete) (strikeFor t v forced s) := by
  unfold Machine.strikeFor
  split
  · exact hs.planFor
  · exact allOf_setTicket fun u hu hn => by
      obtain ⟨hc, hr, hh, ht, ho⟩ := hs u hu hn
      exact ⟨hc, hr, hh, ht, rfl, ho⟩

theorem allOf_pathRequest (t : Ticket) (required : ReqPath) (s : State) :
    AllOf t.number (fun u => u.taken.isSome) (pathRequest t required s) := by
  unfold Machine.pathRequest
  dsimp only
  intro u hu hn
  rw [postIf_tracker] at hu
  exact allOf_setTicket (P := fun u => u.taken.isSome) (fun _ _ _ => rfl) u hu hn

namespace Reached

variable {w : Work} {s : State}

/-- Tickets that have every field of a decision become DECIDED (R9). -/
theorem decided {n : U16} (hall : AllOf n (fun u => (ticketWork u).Complete) s) (h : Reached w s) :
    Reached w (Machine.setTicket n (fun u => { u with state := .decided }) s) :=
  h.table fun t ht => by
    split
    · rename_i hn
      exact ⟨fun _ _ => hall t ht hn, id⟩
    · exact Amends.refl _

theorem decideTicket (t : Ticket) (h : Reached w s) : Reached w (decideTicket t s) := by
  unfold Machine.decideTicket
  dsimp only
  refine same ((workOf_testTrace _ _ _ _).trans (workOf_contribute _ _)) (decided ?_ (strikeFor _ _ _ ?_))
  · exact AllOf.strikeFor (allOf_setTicket fun u hu hn =>
      ⟨rfl, rfl, rfl, allOf_pathRequest t _ s u hu hn, rfl⟩)
  · refine (h.pathRequest t _).setTicket fun _ => ⟨fun hw hd => ?_, id⟩
    obtain ⟨-, -, -, ht, hs, -⟩ := hw hd
    exact ⟨rfl, rfl, rfl, ht, hs, rfl⟩

theorem decideNumber (n : U16) (h : Reached w s) : Reached w (decideNumber n s) := by
  unfold Machine.decideNumber
  split
  · exact h.decideTicket _
  · exact h

theorem releaseWaiting (ns : List U16) (h : Reached w s) : Reached w (releaseWaiting ns s) := by
  induction ns generalizing s with
  | nil => exact h
  | cons n ns ih =>
    unfold Machine.releaseWaiting
    split
    · exact ih h
    · exact ih ((h.same (t := unwait n s) rfl).decideNumber n)

theorem decisionPoint (n : U16) (h : Reached w s) : Reached w (decisionPoint n s) := by
  unfold Machine.decisionPoint
  split
  · exact h.same rfl
  · exact (h.decideNumber n).releaseWaiting _

end Reached

/-! ### Strikes and heads (R94 to R99) -/

namespace Reached

variable {w : Work} {s : State}

theorem dropEntry (x : Head) (h : Reached w s) : Reached w (dropEntry x s) :=
  h.setHead (fun _ _ => rfl) fun u _ hq => by
    have := List.length_tail (l := u.queue)
    show u.queue.tail.length ≤ 8
    omega

/-- A strike begun by a head that is not DISABLED (R96). -/
theorem beginStrike {x : Head} {e : StrikeEntry} {late : Bool} (hs : (s.cancel.heads.get x).state ≠ .disabled)
    (h : Reached w s) : Reached w (beginStrike x e late s) := by
  unfold Machine.beginStrike
  dsimp only
  have himpress : ∀ u, workOf (impress e.slot u) = workOf u := fun u => by
    unfold impress
    split <;> rfl
  have hlate : ∀ u, workOf (postIf late (.late x) (post (.strikes x) u)) = workOf u := fun u => by
    cases late <;> rfl
  refine same ((himpress _).trans (hlate _)) (strikeResult _ _ ((h.dropEntry x).setHead (fun u hu => ?_) fun _ _ hq => hq))
  have hu' : u.state ≠ .disabled := by
    rw [hu]
    simpa [Machine.dropEntry, Machine.setHead] using hs
  simp [isDisabled, hu']

theorem strikeStart (x : Head) (h : Reached w s) : Reached w (strikeStartStep x s) := by
  unfold strikeStartStep
  dsimp only
  split
  · exact h
  · split
    · exact h
    · split
      · rename_i hs
        exact h.beginStrike (by simp [hs])
      · exact (h.dropEntry x).missStrike _ _
      · split
        · exact h.setHead (fun _ _ => rfl) fun _ _ hq => hq
        · exact (h.dropEntry x).missStrike _ _

theorem strikeDeadline (x : Head) (h : Reached w s) : Reached w (strikeDeadlineStep x s) := by
  unfold strikeDeadlineStep
  dsimp only
  split
  · exact h
  · split
    · exact (h.dropEntry x).missStrike _ _
    · exact h

theorem becomeReady {x : Head} (hs : (s.cancel.heads.get x).state ≠ .disabled) (h : Reached w s) :
    Reached w (becomeReady x s) := by
  have hready : Reached w (Machine.setHead x (fun u => { u with state := .ready }) s) :=
    h.setHead (fun u hu => by
      have hu' : u.state ≠ .disabled := by rw [hu]; exact hs
      simp [isDisabled, hu']) fun _ _ hq => hq
  unfold Machine.becomeReady
  dsimp only
  split
  · split
    · exact hready.beginStrike (by simp [Machine.setHead])
    · exact hready
  · exact hready

end Reached

end Sys2Proof.Proofs
end

section
/-! PROOFS. Every step of the controller makes the work take steps: heads, channels, table, bins and tallies. -/

namespace Sys2Proof.Proofs

open Sys2Proof.Machine Sys2Proof.Safety

/-! ### Heads judged by their bars (R95) -/

/-- A head's state brought in line with its bars (R95). -/
def linedState (barred : Bool) (recharge : Nat) (u : HeadState) : HeadState :=
  if barred then .disabled else if u = .disabled then .recharging recharge else u

/-- The state with one head brought in line with its bars, its waiting entry not yet dropped. -/
def lined (x : Head) (s : State) : State :=
  setHead x (fun u => { u with state := linedState (headBarred s x) s.cancel.record.recharge u.state }) s

theorem isDisabled_lined (x y : Head) (s : State) :
    isDisabled ((lined x s).cancel.heads.get y) =
      if y = x then headBarred s x else isDisabled (s.cancel.heads.get y) := by
  unfold lined setHead
  rw [PerHead.get_set]
  split
  · simp only [isDisabled, linedState]
    cases headBarred s x
    · by_cases h : (s.cancel.heads.get x).state = .disabled <;> simp [h]
    · rfl
  · rfl

theorem queue_lined (x y : Head) (s : State) :
    ((lined x s).cancel.heads.get y).queue = (s.cancel.heads.get y).queue := by
  unfold lined setHead
  rw [PerHead.get_set]
  split
  · rename_i h
    rw [h]
  · rfl

/-- A head that is in line already is left as it is. -/
theorem lined_of_line {x : Head} {s : State}
    (h : linedState (headBarred s x) s.cancel.record.recharge (s.cancel.heads.get x).state = (s.cancel.heads.get x).state) :
    lined x s = s := by
  unfold lined setHead
  dsimp only
  rw [h]
  cases x <;> rfl

/-- The MISSED of a head's waiting entry does not read the state of the other head. -/
theorem lined_missStrike (n : U16) (s : State) :
    lined .b (missStrike n .a (dropEntry .a s)) = missStrike n .a (dropEntry .a (lined .b s)) := by
  have hsome : (ticketOf (dropEntry .a (lined .b s)) n).isSome = (ticketOf (dropEntry .a s) n).isSome := rfl
  unfold missStrike
  rw [hsome]
  split <;> rfl

/-- The judging of a head brings it in line and drops its waiting entry. What comes after it, if it does not read
that entry or its ticket, comes after the head was brought in line. -/
theorem Reached.judgeHead {w : Work} {x : Head} {s : State} (F : State → State)
    (hmiss : ∀ n u, F (Machine.missStrike n x (Machine.dropEntry x u)) =
      Machine.missStrike n x (Machine.dropEntry x (F u)))
    (hgate : ∀ e u, workOf (F { u with gate := { u.gate with exercise := e } }) = workOf (F u))
    (h : Reached w (F (lined x s))) : Reached w (F (Machine.judgeHead x s)) := by
  unfold Machine.judgeHead
  split
  · rename_i hbar
    split
    · rename_i hdis
      rwa [lined_of_line (by simp [linedState, hbar, hdis])] at h
    · have hl : Reached w (F (Machine.setHead x (fun u => { u with state := .disabled })
          { s with gate := { s.gate with exercise := exerciseCut x (s.cancel.heads.get x).state s.gate.exercise } })) :=
        h.same ((hgate _ (Machine.setHead x (fun u => { u with state := .disabled }) s)).trans
          (by simp only [lined, linedState, hbar, if_true]))
      unfold disableHead
      dsimp only
      split
      · split
        · rw [hmiss]
          exact (hl.dropEntry x).missStrike _ _
        · exact hl
      · exact hl
  · rename_i hbar
    split
    · rename_i hdis
      have hl : lined x s = recharge x s := by simp [lined, recharge, Machine.setHead, linedState, hbar, hdis]
      rwa [hl] at h
    · rename_i hdis
      rwa [lined_of_line (by simp [linedState, hbar, hdis])] at h

/-- A head fault input changes, and its head follows (R95). -/
theorem Reached.headFault {w : Work} {s : State} (x : Head) (level : Bool) (h : Reached w s) :
    Reached w (Machine.judgeHead x { s with pins := { s.pins with headFault := s.pins.headFault.set x level } }) := by
  refine Reached.judgeHead id (fun _ _ => rfl) (fun _ _ => rfl) ?_
  let p : State := { s with pins := { s.pins with headFault := s.pins.headFault.set x level } }
  have hq : (lined x p).cancel.heads.map (fun u => u.queue.length) = s.cancel.heads.map fun u => u.queue.length :=
    PerHead.ext_get fun y => by simp only [PerHead.get_map, queue_lined]; rfl
  refine h.tail (.bars p.pins.headFault s.cancel.record.enable ((lined x p).cancel.heads.map isDisabled)
    fun y hy => ?_) ?_
  · rw [PerHead.get_map, isDisabled_lined]
    split
    · rename_i hyx
      subst hyx
      rfl
    · rename_i hyx
      simp only [workOf, PerHead.get_map, Work.barred] at hy
      simp only [Work.barred, p, PerHead.get_set, if_neg hyx]
      exact hy
  · show workOf (lined x p) = _
    unfold workOf
    rw [hq]
    rfl

/-- A cancel record comes into force, and both heads follow it (R84, R95). -/
theorem Reached.cancelRecord {w : Work} {s : State} (r : CancelRecord) (h : Reached w s) :
    Reached w (Machine.judgeHead .b (Machine.judgeHead .a { s with cancel := { s.cancel with record := r } })) := by
  refine Reached.judgeHead id (fun _ _ => rfl) (fun _ _ => rfl) ?_
  refine Reached.judgeHead (lined .b) lined_missStrike (fun _ _ => rfl) ?_
  let p : State := { s with cancel := { s.cancel with record := r } }
  have hq : (lined .b (lined .a p)).cancel.heads.map (fun u => u.queue.length) =
      s.cancel.heads.map fun u => u.queue.length :=
    PerHead.ext_get fun y => by simp only [PerHead.get_map, queue_lined]; rfl
  refine h.tail (.bars s.pins.headFault r.enable ((lined .b (lined .a p)).cancel.heads.map isDisabled)
    fun y _ => ?_) ?_
  · rw [PerHead.get_map, isDisabled_lined]
    cases y
    · rw [if_neg (by decide), isDisabled_lined, if_pos rfl]
      rfl
    · rw [if_pos rfl]
      rfl
  · show workOf (lined .b (lined .a p)) = _
    unfold workOf
    rw [hq]
    rfl

/-! ### Samples and baselines (R26, R33 to R38) -/

theorem SamplesInRange.drop {xs : List Sample} (n : Nat) (h : SamplesInRange xs) : SamplesInRange (xs.drop n) :=
  fun x hx => h x (List.mem_of_mem_drop hx)

theorem SamplesInRange.take {xs : List Sample} (n : Nat) (h : SamplesInRange xs) : SamplesInRange (xs.take n) :=
  fun x hx => h x (List.mem_of_mem_take hx)

theorem SamplesInRange.snoc {xs : List Sample} {x : Sample} (h : SamplesInRange xs) (hx : x.f ≤ 255 ∧ x.p ≤ 255) :
    SamplesInRange (xs ++ [x]) :=
  samplesInRange_append.mpr ⟨h, List.forall_mem_singleton.mpr hx⟩

/-- A gained pair is in range (R26). -/
theorem gainPair_range (code : BitVec 4) (cold : Bool) (r : RawPair) :
    (gainPair code cold r).f ≤ 255 ∧ (gainPair code cold r).p ≤ 255 :=
  ⟨Nat.min_le_left _ _, Nat.min_le_left _ _⟩

/-- The sum of a reading over a window's samples is at most 255 for each of its steps (R35). -/
theorem sum_map_le {xs : List Sample} {f : Sample → Nat} (h : ∀ x ∈ xs, f x ≤ 255) :
    (xs.map f).sum ≤ 255 * xs.length := by
  have := List.sum_le_card_nsmul (xs.map f) 255 (List.forall_mem_map.mpr h)
  rw [List.length_map, smul_eq_mul, Nat.mul_comm] at this
  exact this

/-- A baseline moves to a value between its old value and twice the window sum (R38). -/
theorem moveBaseline_between (b sum d : Nat) :
    min b (2 * sum) ≤ moveBaseline b sum d ∧ moveBaseline b sum d ≤ max b (2 * sum) := by
  have htdiv : ∀ n : Nat, Int.tdiv (n : Int) d = (n / d : Nat) := fun n => rfl
  rcases Nat.le_total b (2 * sum) with h | h
  · have hx : 2 * (sum : Int) - b = ((2 * sum - b : Nat) : Int) := by omega
    have hle : (2 * sum - b) / d ≤ 2 * sum - b := Nat.div_le_self _ _
    rw [moveBaseline, hx, htdiv]
    generalize (2 * sum - b) / d = q at hle
    omega
  · have hx : 2 * (sum : Int) - b = -((b - 2 * sum : Nat) : Int) := by omega
    have hle : (b - 2 * sum) / d ≤ b - 2 * sum := Nat.div_le_self _ _
    rw [moveBaseline, hx, Int.neg_tdiv, htdiv]
    generalize (b - 2 * sum) / d = q at hle
    omega

/-- A pulse keeps a channel in range (R25, R26, R33, R34). -/
theorem rereads_take {belt : Pos} {starting : Bool} {x : Sample} {c : ScanChannel} (hx : x.f ≤ 255 ∧ x.p ≤ 255) :
    Rereads (channelWork c) (channelWork (c.take belt starting x)) := by
  refine ⟨fun ⟨hgap, hlead, hrecent, hspans, hb⟩ => ⟨?gap, ?lead, ?recent, ?spans, hb⟩, id⟩
  case gap =>
    show SamplesInRange (c.take belt starting x).gap.samples
    unfold ScanChannel.take
    dsimp only
    split
    · exact samplesInRange_join (SamplesInRange.snoc hlead hx) hgap
    · exact hgap
  case lead =>
    show SamplesInRange (c.take belt starting x).leadIn
    unfold ScanChannel.take
    dsimp only
    split
    · exact SamplesInRange.snoc hlead hx
    · exact samplesInRange_nil
  case recent =>
    show SamplesInRange (keepRecent starting (c.recent ++ [x]))
    unfold keepRecent
    split
    · exact SamplesInRange.snoc hrecent hx
    · exact SamplesInRange.drop _ (SamplesInRange.snoc hrecent hx)
  case spans =>
    simp only [channelWork, ScanChannel.take, List.map_map, List.forall_mem_map] at hspans ⊢
    exact fun sp hsp => SamplesInRange.snoc (hspans sp hsp) hx

/-- A span takes its first samples from the latest steps (R33). -/
theorem rereads_startSpan (t : Ticket) (belt start : Pos) (c : ScanChannel) :
    Rereads (channelWork c) (channelWork (startSpan t belt start c)) := by
  refine ⟨fun ⟨_, _, hrecent, hspans, hb⟩ => ⟨samplesInRange_nil, samplesInRange_nil, hrecent, ?_, hb⟩, id⟩
  simp only [channelWork, startSpan, List.map_append, List.map_cons, List.map_nil] at hspans ⊢
  exact List.forall_mem_append.mpr ⟨hspans, List.forall_mem_singleton.mpr (SamplesInRange.drop _ hrecent)⟩

theorem length_ringPush (e : RingEntry) (ring : List RingEntry) :
    (ringPush e ring).length = min (ring.length + 1) 128 := by
  rw [ringPush, List.length_drop, List.length_append, List.length_singleton, Config.ringSize]
  omega

/-- A change of the ring alone keeps the readings. -/
theorem rereads_ring (c : ScanChannel) (r : List RingEntry) (hr : r.length ≤ 128) :
    Rereads (channelWork c) (channelWork { c with ring := r }) := ⟨fun h => h, fun _ => hr⟩

/-- A gap window's completion keeps a channel in range (R37, R38). -/
theorem rereads_completeGap (c : ScanChannel) : Rereads (channelWork c) (channelWork (completeGap c)) := by
  have hring : (completeGap c).ring.length = min (c.ring.length + 1) 128 := by
    have hpush : (completeGap c).ring = ringPush ⟨windowOf c.inForce c.bp c.bf c.gap.start
        (c.gap.samples.take Config.windowSteps), none⟩ c.ring := by
      unfold completeGap updateBaselines
      dsimp only
      split <;> dsimp only
    rw [hpush, length_ringPush]
  refine ⟨fun ⟨hgap, hlead, hrecent, hspans, hbp, hbf⟩ => ?_, fun _ => ?_⟩
  · have hwin : SamplesInRange (c.gap.samples.take 8) := SamplesInRange.take _ hgap
    have hlen : (c.gap.samples.take 8).length ≤ 8 := List.length_take_le _ _
    have hsum : ∀ f : Sample → Nat, (∀ x ∈ c.gap.samples.take 8, f x ≤ 255) →
        ((c.gap.samples.take 8).map f).sum ≤ 2040 := fun f hf =>
      Nat.le_trans (sum_map_le hf) (Nat.mul_le_mul_left 255 hlen)
    have hp := hsum Sample.p fun x hx => (hwin x hx).2
    have hf := hsum Sample.f fun x hx => (hwin x hx).1
    have hmove : ∀ b sum d, b ≤ 4080 → sum ≤ 2040 → moveBaseline b sum d ≤ 4080 := fun b sum d hb hs =>
      Nat.le_trans (moveBaseline_between b sum d).2 (by omega)
    unfold completeGap updateBaselines
    dsimp only
    split
    · exact ⟨SamplesInRange.drop _ hgap, hlead, hrecent, hspans, hbp, hbf⟩
    · exact ⟨SamplesInRange.drop _ hgap, hlead, hrecent, hspans, hmove _ _ _ hbp hp, hmove _ _ _ hbf hf⟩
  · show (completeGap c).ring.length ≤ 128
    omega

namespace Reached

variable {w : Work} {s : State}

theorem setChannel {c : Channel} {f : ScanChannel → ScanChannel}
    (hf : Rereads (channelWork (s.channels.get c)) (channelWork (f (s.channels.get c)))) (h : Reached w s) :
    Reached w (setChannel c f s) := by
  refine h.tail (.channels ((Machine.setChannel c f s).channels.map channelWork) fun x => ?_) rfl
  simp only [workOf, PerChannel.get_map, setChannel_channels, PerChannel.get_set]
  split
  · rename_i hx
    rw [hx]
    exact hf
  · exact ⟨id, id⟩

theorem pulse (inputs : PulseInputs) (h : Reached w s) :
    Reached w (samplePulse inputs.pairs (filterPulse inputs (countPulse s))) := by
  let p := samplePulse inputs.pairs (filterPulse inputs (countPulse s))
  refine h.tail (t := p) (.channels (p.channels.map channelWork) fun x => ?_) rfl
  have hx : p.channels.get x = channelPulse (filterPulse inputs (countPulse s)) inputs.pairs x := by cases x <;> rfl
  simp only [workOf, PerChannel.get_map, hx]
  exact rereads_take (gainPair_range _ _ _)

theorem window1 (h : Reached w s) : Reached w (window1Step s) := by
  unfold window1Step
  split
  · refine Reached.setTicket (fun _ => Amends.refl _) (h.tail (.channels _ fun x => ?_) rfl)
    simp only [workOf, PerChannel.get_map]
    exact rereads_startSpan _ _ _ _
  · exact h

theorem installTrim (c : Channel) (code : BitVec 4) (h : Reached w s) : Reached w (installTrim c code s) :=
  h.setChannel ⟨fun ⟨hgap, hlead, hrecent, hspans, _⟩ =>
    ⟨hgap, hlead, hrecent, hspans, Nat.zero_le _, Nat.zero_le _⟩, id⟩

end Reached

/-! ### Mark lists (R45, R46) -/

theorem foldl_min_mem (l : List Nat) (a : Nat) : l.foldl min a = a ∨ l.foldl min a ∈ l := by
  induction l generalizing a with
  | nil => exact .inl rfl
  | cons b l ih =>
    rw [List.foldl_cons]
    rcases ih (min a b) with h | h
    · rcases Nat.le_total a b with hab | hab
      · rw [h, Nat.min_eq_left hab]
        exact .inl rfl
      · rw [h, Nat.min_eq_right hab]
        exact .inr List.mem_cons_self
    · exact .inr (List.mem_cons_of_mem _ h)

/-- A mark list that a mark joins holds at most six (R46). The scores lie below the bound of `lowestScore`, so a
full list gives up a mark before it takes one. -/
theorem length_joinMarks {m : Mark} {ms : List Mark} (hm : m.score ≤ 65535) (h : ms.length ≤ 6) :
    (joinMarks m ms).length ≤ 6 := by
  unfold joinMarks
  split
  · rename_i hroom
    rw [List.length_append]
    exact hroom
  · split
    · rename_i hlow
      have hmem : ∃ x ∈ ms, x.score = lowestScore ms := by
        rcases foldl_min_mem (ms.map Mark.score) 65535 with heq | hin
        · have : lowestScore ms = 65535 := heq
          omega
        · exact List.mem_map.mp hin
      obtain ⟨x, hx, hscore⟩ := hmem
      have herase : (eraseLastScore (lowestScore ms) ms).length = ms.length - 1 := by
        rw [eraseLastScore, List.length_reverse,
          List.length_eraseP_of_mem (p := fun m => m.score == lowestScore ms) (List.mem_reverse.mpr hx)
            (beq_iff_eq.mpr hscore), List.length_reverse]
      rw [List.length_append, herase, List.length_singleton]
      have := List.length_pos_of_mem hx
      omega
    · exact h

theorem closedMark_score (g : Geometry) (t : Ticket) (c : Channel) (o : OpenMark) (done : List Window) :
    (closedMark g t c o done).score ≤ 65535 := Nat.min_le_left _ _

/-- Every mark that a window closes has a score in 16 bits (R45). -/
theorem findMarks_score (g : Geometry) (t : Ticket) (c : Channel) (ends : Bool) (done : List Window)
    (o : Option OpenMark) : ∀ m ∈ (findMarks g t c ends done o).2, m.score ≤ 65535 := by
  have hmap : ∀ (p : Option OpenMark), ∀ m ∈ (p.map fun x => closedMark g t c x done).toList, m.score ≤ 65535 := by
    intro p m hm
    cases p with
    | none => exact absurd hm List.not_mem_nil
    | some x =>
      rw [List.mem_singleton.mp hm]
      exact closedMark_score _ _ _ _ _
  have hclosed : ∀ (b : Bool), ∀ m ∈ (if b then (o.map fun x => closedMark g t c x done).toList else []),
      m.score ≤ 65535 := by
    intro b
    cases b
    · exact fun m hm => absurd hm List.not_mem_nil
    · exact hmap o
  unfold findMarks
  dsimp only
  cases ends
  · exact hclosed _
  · exact List.forall_mem_append.mpr ⟨hclosed _, hmap _⟩

/-! ### The completion of a letter window (R37) -/

theorem deliverMark_channels (n : U16) (minMark : Nat) (m : Mark) (s : State) :
    (deliverMark n minMark m s).channels = s.channels := by
  unfold deliverMark
  dsimp only
  split
  · rfl
  · split <;> simp

theorem foldl_deliverMark_channels (n : U16) (minMark : Nat) (ms : List Mark) (s : State) :
    (ms.foldl (fun a m => deliverMark n minMark m a) s).channels = s.channels := by
  induction ms generalizing s with
  | nil => rfl
  | cons m ms ih => rw [List.foldl_cons, ih, deliverMark_channels]

theorem flagCold_channels (n : U16) (d : Side) (s : State) : (flagCold n d s).channels = s.channels := by
  unfold flagCold
  split
  · rfl
  · split <;> rfl

/-- The first span that holds eight samples is one of the channel's. -/
theorem readySpan_splits {spans before behind : List Span} {sp : Span}
    (h : readySpan spans = some (before, sp, behind)) : spans = before ++ sp :: behind := by
  induction spans generalizing before with
  | nil => nomatch h
  | cons x rest ih =>
    unfold readySpan at h
    split at h
    · cases h
      rfl
    · obtain ⟨⟨b, y, z⟩, hr, heq⟩ := Option.map_eq_some_iff.mp h
      cases heq
      rw [ih hr]
      rfl

namespace Reached

variable {w : Work} {s : State}

theorem deliverMark (n : U16) (minMark : Nat) {m : Mark} (hm : m.score ≤ 65535) (h : Reached w s) :
    Reached w (deliverMark n minMark m s) := by
  unfold Machine.deliverMark
  dsimp only
  split
  · exact h
  · split
    · exact h.same rfl
    · have hpost : ∀ b u, workOf (postIf b .manyMarks u) = workOf u := fun b u => by cases b <;> rfl
      exact same (hpost _ _) (h.setTicket fun _ => ⟨id, length_joinMarks hm⟩)

theorem deliverMarks (n : U16) (minMark : Nat) {ms : List Mark} (hms : ∀ m ∈ ms, m.score ≤ 65535) (h : Reached w s) :
    Reached w (ms.foldl (fun a m => Machine.deliverMark n minMark m a) s) := by
  induction ms generalizing s with
  | nil => exact h
  | cons m ms ih =>
    obtain ⟨hm, hrest⟩ := List.forall_mem_cons.mp hms
    exact ih hrest (h.deliverMark n minMark hm)

theorem flagCold (n : U16) (d : Side) (h : Reached w s) : Reached w (flagCold n d s) := by
  unfold Machine.flagCold
  split
  · exact h
  · split
    · exact h
    · exact (h.same (t := { s with lamps := _ }) rfl).setTicket fun _ => Amends.refl _

theorem judgeComplete (n : U16) (h : Reached w s) : Reached w (judgeComplete n s) := by
  unfold Machine.judgeComplete
  split
  · exact h
  · split
    · exact h.decisionPoint n
    · exact h

/-- The spans of a channel replaced by others with samples in range. -/
theorem endSpan {c : Channel} {before behind : List Span} {sp : Span} (next : Pos)
    (hspans : (s.channels.get c).spans = before ++ sp :: behind) (h : Reached w s) :
    Reached w (endSpan c before behind next s) := by
  refine h.setChannel ⟨fun ⟨_, hlead, hrecent, hsp, hb⟩ => ⟨samplesInRange_nil, hlead, hrecent, ?_, hb⟩, id⟩
  simp only [channelWork, hspans, List.forall_mem_map] at hsp ⊢
  exact fun x hx => hsp x (by simp only [List.mem_append, List.mem_cons] at hx ⊢; tauto)

theorem nextWindow {c : Channel} {before behind : List Span} {sp : Span} (win : Window) (o : Option OpenMark)
    (hspans : (s.channels.get c).spans = before ++ sp :: behind) (h : Reached w s) :
    Reached w (Machine.setChannel c (fun k => { k with spans := before ++ sp.next win o :: behind }) s) := by
  refine h.setChannel ⟨fun ⟨hgap, hlead, hrecent, hsp, hb⟩ => ⟨hgap, hlead, hrecent, ?_, hb⟩, id⟩
  simp only [channelWork, hspans, List.forall_mem_map, List.forall_mem_append, List.forall_mem_cons] at hsp ⊢
  exact ⟨hsp.1, SamplesInRange.drop _ hsp.2.1, hsp.2.2⟩

/-- The cold flag and the marks of a window leave the channels as they are. -/
theorem flagsAndMarks {n : U16} {d : Side} {minMark : Nat} {ms : List Mark} (cold : Bool)
    (hms : ∀ m ∈ ms, m.score ≤ 65535) (h : Reached w s) :
    Reached w (ms.foldl (fun a m => Machine.deliverMark n minMark m a) (if cold then Machine.flagCold n d s else s)) ∧
      (ms.foldl (fun a m => Machine.deliverMark n minMark m a) (if cold then Machine.flagCold n d s else s)).channels =
        s.channels := by
  rw [foldl_deliverMark_channels]
  cases cold
  · exact ⟨h.deliverMarks n minMark hms, rfl⟩
  · exact ⟨(h.flagCold n d).deliverMarks n minMark hms, flagCold_channels n d s⟩

theorem completeLetter {c : Channel} {before behind : List Span} {sp : Span}
    (hspans : (s.channels.get c).spans = before ++ sp :: behind) (h : Reached w s) :
    Reached w (completeLetter c before sp behind s) := by
  unfold Machine.completeLetter
  dsimp only
  generalize hs1 : Machine.setChannel c (fun k => { k with ring := ringPush _ k.ring }) s = s1
  have h1 : Reached w s1 := hs1 ▸ h.setChannel (rereads_ring _ _ <|
    (length_ringPush _ (s.channels.get c).ring).trans_le (Nat.min_le_right _ _))
  have hspans1 : (s1.channels.get c).spans = before ++ sp :: behind := by
    rw [← hs1]
    simpa using hspans
  split
  · exact h1.endSpan _ hspans1
  · have h3 := fun b ms hms =>
      h1.flagsAndMarks (n := sp.ticket) (d := channelSide c) (minMark := sp.bound.minMark) (ms := ms) b hms
    split
    · obtain ⟨hr, hch⟩ := h3 _ _ (findMarks_score _ _ _ _ _ _)
      exact (hr.endSpan _ (by rw [hch]; exact hspans1)).judgeComplete _
    · obtain ⟨hr, hch⟩ := h3 _ _ (findMarks_score _ _ _ _ _ _)
      exact hr.nextWindow _ _ (by rw [hch]; exact hspans1)

theorem windowCompletion (h : Reached w s) : Reached w (windowCompletionStep s) := by
  unfold windowCompletionStep
  split
  · unfold completeOn
    split
    · rename_i hready
      exact h.completeLetter (readySpan_splits hready)
    · split
      · exact h.setChannel (rereads_completeGap _)
      · exact h
  · exact h

end Reached

end Sys2Proof.Proofs
end

section
/-! PROOFS. Every step of the controller makes the work take steps: table, bins and tallies, and every command. -/

namespace Sys2Proof.Proofs

open Sys2Proof.Machine Sys2Proof.Safety

/-! ### Entry and commit (R11, R12, R19) -/

theorem workOf_setBinRecord (b : Bin) (f : BinRecord → BinRecord) (s : State) :
    workOf (setBinRecord b f s) = { workOf s with bins := s.stacker.bins.set b (f (s.stacker.bins.get b)) } := rfl

/-- A terminal count writes its bin alone (R113 to R115). -/
theorem workOf_terminalCount (b : Bin) (n : Nat) (why : BatchReason) (s : State) :
    workOf (terminalCount b n why s) = workOf (setBinRecord b BinRecord.close s) := by
  unfold terminalCount
  dsimp only
  rw [workOf_handNotice]
  cases (s.stacker.bins.get b).mode <;> rfl

/-- The tallies of a commit (R19). -/
theorem workOf_countCommit (o : LetterOutcome) (b : Bin) (forced overrun : Bool) (s : State) :
    workOf (countCommit o b forced overrun s) = { workOf s with
      life := (workOf s).life.committing o b
      shift := (workOf s).shift.committing o b } := by
  cases forced <;> cases overrun <;> rfl

/-- A reloaded legal bin is full (R114). -/
theorem binLegal_reload {r : BinRecord} (h : BinLegal r) :
    (1 ≤ r.reload.base ∧ r.reload.base ≤ 5000) ∧ r.reload.pendingBase = none ∧ r.reload.current = r.reload.base := by
  obtain ⟨hbase, hpending, -⟩ := h
  refine ⟨?_, rfl, rfl⟩
  show 1 ≤ r.pendingBase.getD r.base ∧ r.pendingBase.getD r.base ≤ 5000
  cases hp : r.pendingBase with
  | none => exact hbase
  | some n => exact hpending n hp

/-- A bin reloaded and OPEN is legal (R114, R119). -/
theorem binLegal_reopened {r : BinRecord} (n : U16) (h : BinLegal r) :
    BinLegal { r.reload with batch := n, state := .opened } := by
  obtain ⟨hbase, hpending, hcurrent⟩ := binLegal_reload h
  refine ⟨hbase, ?_, Nat.le_of_eq hcurrent, ?_⟩
  · show ∀ n ∈ r.reload.pendingBase, 1 ≤ n ∧ n ≤ 5000
    rw [hpending]
    exact fun _ hn => nomatch hn
  · show r.reload.current = 0 ↔ BinState.opened = .closed
    simp only [hcurrent, reduceCtorEq, iff_false]
    omega

/-- A terminal count leaves a bin legal whatever its current count was (R113 to R115). -/
theorem binLegal_close {r : BinRecord} (n : Nat) (h : BinLegal r) : BinLegal (BinRecord.close { r with current := n }) := by
  unfold BinRecord.close
  cases hm : r.mode with
  | auto => exact binLegal_reopened (r := r) (r.batch + 1) h
  | hold =>
    obtain ⟨hbase, hpending, -⟩ := h
    exact ⟨hbase, hpending, Nat.zero_le _, iff_of_true rfl rfl⟩

namespace Reached

variable {w : Work} {s : State}

theorem setBinRecord {b : Bin} {f : BinRecord → BinRecord}
    (hf : BinLegal (s.stacker.bins.get b) → BinLegal (f (s.stacker.bins.get b))) (h : Reached w s) :
    Reached w (setBinRecord b f s) :=
  h.tail (.bin b _ hf) rfl

theorem terminalCount (b : Bin) (n : Nat) (why : BatchReason) (h : Reached w s) :
    Reached w (terminalCount b n why s) :=
  same (workOf_terminalCount b n why s) (h.setBinRecord fun hl => binLegal_close _ hl)

/-- A letter counted into its bin closes it at its last letter, so that no OPEN bin counts 0 (R105, R112). -/
theorem countLetter (b : Bin) (h : Reached w s) : Reached w (countLetter b s) := by
  unfold Machine.countLetter
  dsimp only
  split
  · exact h
  · rename_i hopen
    split
    · refine same (s := Machine.setBinRecord b
        (fun r => BinRecord.close { r with current := r.current - 1 }) s) ?_ (h.setBinRecord fun hl => binLegal_close _ hl)
      rw [workOf_terminalCount]
      simp only [workOf_setBinRecord, setBinRecord_stacker_bins, PerBin.set_set, PerBin.get_set, if_true]
    · rename_i hmore
      refine h.setBinRecord fun ⟨hbase, hpending, hcurrent, _⟩ => ⟨hbase, hpending, ?_, ?_⟩
      · show (s.stacker.bins.get b).current - 1 ≤ (s.stacker.bins.get b).base
        omega
      · show (s.stacker.bins.get b).current - 1 = 0 ↔ (s.stacker.bins.get b).state = .closed
        rw [hopen]
        simp only [reduceCtorEq, iff_false]
        omega

theorem queueActions {l : List FlapAction}
    (hl : s.stacker.queue.length ≤ 16 → s.stacker.queue.length + l.length ≤ 16) (h : Reached w s) :
    Reached w (l.foldl (fun a x => queueAction x a) s) := by
  rw [foldl_queueAction]
  refine h.actions _ _ fun hq => ?_
  have hlen : ∀ (as q : List FlapAction), (as.foldl (fun q a => insertAction a q) q).length = q.length + as.length := by
    have hins : ∀ (a : FlapAction) (q : List FlapAction), (insertAction a q).length = q.length + 1 := by
      intro a q
      induction q with
      | nil => rfl
      | cons x rest ih =>
        unfold insertAction
        split
        · rfl
        · rw [List.length_cons, ih, List.length_cons]
    intro as
    induction as with
    | nil => exact fun q => rfl
    | cons a as ih =>
      intro q
      rw [List.foldl_cons, ih, hins, List.length_cons]
      omega
  rw [hlen]
  exact Nat.le_trans (Nat.add_le_add_left (List.length_filter_le _ _) _) (hl hq)

end Reached

/-- The actions of a route change have room in the flap queue (R110). -/
theorem resolve_room {s : State} {t : Ticket} {o : LetterOutcome} (h : s.stacker.queue.length ≤ 16) :
    s.stacker.queue.length + (resolve s t o).actions.length ≤ 16 := by
  unfold resolve
  dsimp only
  split
  · exact h
  · split
    · rename_i hroom
      exact hroom.2
    · exact h

/-- A write to tickets that keeps their numbers leaves a ticket of each number in the table. -/
theorem mem_setTicket {n : U16} {f : Ticket → Ticket} {t : Ticket} {s : State} (hf : ∀ u, (f u).number = u.number)
    (ht : t ∈ s.tracker.table) : ∃ u ∈ (setTicket n f s).tracker.table, u.number = t.number := by
  refine ⟨if t.number = n then f t else t, List.mem_map_of_mem ht, ?_⟩
  split
  · exact hf t
  · rfl

theorem countLetter_table (b : Bin) (s : State) : (countLetter b s).tracker.table = s.tracker.table := by
  have hterm : ∀ n why u, (terminalCount b n why u).tracker.table = u.tracker.table := fun n why u => by
    unfold terminalCount
    dsimp only
    rw [handNotice_tracker]
    cases (u.stacker.bins.get b).mode <;> rfl
  unfold countLetter
  dsimp only
  split
  · rfl
  · split
    · rw [hterm]
      rfl
    · rfl

namespace Reached

variable {w : Work} {s : State}

theorem createTicket (pos : Pos) (hroom : occupancy s < 32) (h : Reached w s) : Reached w (createTicket pos s) := by
  refine h.tail (.enter (ticketWork (newTicket s pos)) (fun hd => nomatch hd) (Nat.zero_le _) ?_) ?_
  · simpa [workOf] using (show s.tracker.table.length < 32 from hroom)
  · simp [Machine.createTicket, workOf, occupancy, evalThrottle, post, bump, tallyWork, TallyWork.entering]

theorem stackLetter {t : Ticket} {o : LetterOutcome} (h : Reached w s) :
    Reached w (stackLetter t (resolve s t o) s) := by
  unfold Machine.stackLetter
  refine countLetter _ (queueActions (fun hq => ?_) (h.setTicket fun _ => Amends.refl _))
  exact resolve_room hq

/-- A commit of a ticket of the table (R19): its tallies, its removal and the throttle are one step of the work. -/
theorem commitTicket {t : Ticket} {o : LetterOutcome} {pos : Pos} (ht : t ∈ s.tracker.table) (h : Reached w s) :
    Reached w (commitTicket t o pos s) := by
  have h1 : Reached w (Machine.stackLetter t (resolve s t o) s) := h.stackLetter
  have hmem : ∃ u ∈ (Machine.stackLetter t (resolve s t o) s).tracker.table, u.number = t.number := by
    unfold Machine.stackLetter
    rw [countLetter_table, foldl_queueAction]
    exact mem_setTicket (fun _ => rfl) ht
  unfold Machine.commitTicket
  dsimp only
  generalize Machine.stackLetter t (resolve s t o) s = s1 at h1 hmem
  obtain ⟨u, hu, hun⟩ := hmem
  obtain ⟨x, older, younger, -, -, hsplit, herase⟩ :=
    List.exists_of_eraseP (p := fun y : Ticket => y.number == t.number) hu (beq_iff_eq.mpr hun)
  refine same (workOf_endDrain _) (h1.tail (.commit (t := ticketWork x) (older := older.map ticketWork)
    (younger := younger.map ticketWork) o (resolve s t o).bin ?_) ?_)
  · simp [workOf, hsplit]
  · generalize hn : handNotice _ (countCommit o (resolve s t o).bin (resolve s t o).forced _ s1) = s3
    have hw : workOf s3 = { workOf s1 with
        life := (workOf s1).life.committing o (resolve s t o).bin
        shift := (workOf s1).shift.committing o (resolve s t o).bin } := by
      rw [← hn, workOf_handNotice, workOf_countCommit]
    have htable : s3.tracker = s1.tracker := by
      rw [← hn, handNotice_tracker]
      simp only [countCommit, postIf_tracker]
      rfl
    have hlast : workOf (evalThrottle (removeTicket t.number s3)) = { workOf s3 with
        tickets := (s3.tracker.table.eraseP fun y => y.number == t.number).map ticketWork
        throttle := throttleAfter s3.tracker.geometry (s3.tracker.table.eraseP fun y => y.number == t.number).length
          s3.tracker.throttle } := rfl
    rw [hlast, hw, htable, herase]
    simp [workOf]

theorem recordTrail (pos : Pos) (h : Reached w s) : Reached w (recordTrail pos s) := by
  unfold Machine.recordTrail
  split
  · split
    · refine h.setTicket fun u => ⟨fun hw hd => hw ?_, id⟩
      have hstate : (if u.state = .entering then TicketState.scanning else u.state) = .decided := hd
      split at hstate
      · nomatch hstate
      · exact hstate
    · exact h
  · exact h

end Reached

/-- An edge taken from those that wait leaves the work (R3). -/
theorem RestsOnWork.takeEdge {P : State → Prop} (hP : RestsOnWork P) {c : Cell} {leading : Bool} {s : State}
    {k : Pos → State → State} (hk : ∀ p u, P u → P (k p u)) (h : P s) : P (takeEdge c leading s k) := by
  unfold Machine.takeEdge
  split
  · exact hk _ _ (hP.same (s := s) rfl h)
  · exact h

/-! ### Every command -/

theorem RestsOnWork.raiseLevel {P : State → Prop} (hP : RestsOnWork P) (cs : List Cause) {s : State} (h : P s) :
    P (cs.foldl raiseLevel s) := by
  induction cs generalizing s with
  | nil => exact h
  | cons c cs ih =>
    refine ih ?_
    unfold Machine.raiseLevel
    split
    · exact hP.raiseCause h
    · exact h

theorem RestsOnWork.raiseHead {P : State → Prop} (hP : RestsOnWork P) (hs : List Head) {s : State} (h : P s) :
    P (hs.foldl raiseHead s) := by
  induction hs generalizing s with
  | nil => exact h
  | cons x hs ih =>
    refine ih ?_
    unfold Machine.raiseHead
    split
    · exact hP.raiseCause h
    · exact h

theorem RestsOnWork.requestLevels {P : State → Prop} (hP : RestsOnWork P) {s : State} (h : P s) :
    P (requestLevels s) :=
  hP.raiseHead _ (hP.raiseLevel _ h)

theorem geometryArg_legal {f : InFrame} {s : State} {g : Geometry} (h : geometryArg f s = .ok g) :
    g.badField = none := by
  unfold geometryArg at h
  split at h
  · nomatch h
  · split at h
    · nomatch h
    · split at h
      · nomatch h
      · rename_i hbad
        cases h
        exact hbad

theorem checked_ok {α : Type} {ranges : List (Nat × Nat × Nat)} {v w : α} (h : checked ranges v = .ok w) :
    w = v ∧ ∀ z ∈ ranges, z.2.1 ≤ z.1 ∧ z.1 ≤ z.2.2 := by
  unfold checked at h
  split at h
  · nomatch h
  · rename_i hranges
    cases h
    exact ⟨rfl, range_of_firstBad hranges⟩

/-- The base of a valid SET_BIN lies in its range (R117). -/
theorem readBin_base {p : List Byte} {v : Bin × Nat × BinMode} (h : readBin p = .ok v) : 1 ≤ v.2.1 ∧ v.2.1 ≤ 5000 := by
  unfold readBin at h
  split at h
  · obtain ⟨rfl, hranges⟩ := checked_ok h
    exact hranges _ (List.mem_cons_of_mem _ List.mem_cons_self)
  · nomatch h

/-- A snapshot is taken of what the tallies are (R126). -/
theorem Reached.takeSnapshot {w : Work} {s : State} (h : Reached w s) : Reached w (takeSnapshot s) :=
  h.tail (.latch (snapshotNow s) rfl rfl rfl (by simp [snapshotNow, workOf, occupancy])) rfl

/-- A read of the held snapshot releases it, and clears the shift set by it on request (R128, R129). -/
theorem Reached.readSnapshot {w : Work} {f : InFrame} {n : Snapshot} {earlier clear : Bool} {s : State}
    (hn : s.tally.held = some n) (h : Reached w s) : Reached w (readSnapshot f n earlier clear s) := by
  unfold Machine.readSnapshot
  refine Reached.same (workOf_reply _ _ _) ?_
  cases clear
  · exact h.tail .release rfl
  · exact h.tail (.clear n hn) rfl

/-- The blocks of a warm reset purge, go to IDLE and release the snapshot (R178). -/
theorem Reached.warmBlocks {w : Work} {s : State} (h : Reached w s) : Reached w (warmBlocks s) := by
  unfold Machine.warmBlocks
  dsimp only
  generalize hs2 : (if (Machine.purge .warmReset s).run.state = .idle then Machine.purge .warmReset s
    else enterRunState .idle .warmReset (Machine.purge .warmReset s)) = s2
  have h2 : Reached w s2 := by
    rw [← hs2]
    split
    · exact h.purge _
    · exact (h.purge _).same (workOf_enterRunState _ _ _)
  exact h2.tail .release rfl

theorem workOf_restartLink (n : Nat) (s : State) : workOf (restartLink n s) = workOf s := by
  unfold restartLink
  exact (workOf_testLost _).trans rfl

/-- A command that writes the work takes steps of the work. -/
theorem Reached.exec {w : Work} {c : Instr} (hc : writesWork c = true) {s t : State} (h : Reached w s)
    (he : Machine.exec c s = .next t) : Reached w t := by
  have hP := Reached.restsOnWork w
  cases c <;> cases hc
  case arrivalMatch x =>
    change execArrivalMatch x s = _ at he
    unfold execArrivalMatch at he
    split at he
    · rename_i e _
      generalize hu : ({ s with tracker := _ } : State) = u at he
      have hru : Reached w u := hu ▸ h.same rfl
      unfold arrive at he
      split at he
      · cases he
        exact hru
      · split at he
        · cases he
          unfold passEdge
          split
          · refine hru.setTicket fun t => Amends.of_eq ?_
            cases x <;> rfl
          · exact hP.raiseJam hru
        · rename_i t hm
          split at he
          · cases he
            unfold committing at hm
            split at hm
            · exact hru.commitTicket (List.mem_of_find?_eq_some hm)
            · nomatch hm
          · nomatch he
    · cases he
      exact h
  all_goals obtain rfl := Host.Outcome.next.inj he; clear he
  case powerOnReset pins =>
    have hon : Reached w (powerOnState pins) := h.tail (.reset _ pins) rfl
    exact (hP.requestLevels hon).same rfl
  case encoderPulse inputs => exact h.pulse inputs
  case entryLeadingEdge =>
    refine hP.takeEdge (fun p u hu => Reached.same (workOf_lampEdge _) ?_) h
    unfold trackLeading
    split
    · split
      · rename_i hroom
        exact hu.createTicket p hroom
      · exact hP.raiseCause hu
    · exact hu.same rfl
  case entryTrailingEdge =>
    refine hP.takeEdge (fun p u hu => ?_) h
    split
    · exact (hu.recordTrail p).same rfl
    · exact hu
  case window1Start => exact h.window1
  case windowCompletion => exact h.windowCompletion
  case longCheck =>
    unfold longCheckStep
    dsimp only
    split
    · have hchecked : ∀ n, Reached w (Machine.setTicket n (fun u => { u with longChecked := true }) s) := fun n =>
        h.setTicket fun _ => Amends.refl _
      split
      · refine Reached.decisionPoint _ ((hchecked _).setTicket fun _ => ?_)
        exact Amends.refl _
      · exact hchecked _
    · exact h
  case gateDue =>
    unfold gateDueStep
    split
    · rename_i e rest hq
      split
      · refine Reached.same ((workOf_switchGate _ _).trans (workOf_endGateExercise _)) (hP.endConfirm ?_)
        refine h.switches rest fun hlen => ?_
        rw [hq, List.length_cons] at hlen
        omega
      · exact h
    · exact h
  case strikeStart x => exact h.strikeStart x
  case strikeDeadline x => exact h.strikeDeadline x
  case rechargeExpiry x =>
    split
    · rename_i left hs
      exact (h.same (workOf_advance left s)).becomeReady (by simp [advance, headAfter, hs])
    · exact h
  case headFaultInput x level =>
    split
    · exact h
    · unfold headFaultChange
      dsimp only
      split
      · exact hP.raiseCause (h.headFault x _)
      · exact h.headFault x _
  case flapDue =>
    unfold flapDueStep
    split
    · rename_i a rest hq
      split
      · refine (h.actions (s := s) (s.stacker.flaps.set a.flap a.opens) rest fun hlen => ?_).same rfl
        rw [hq, List.length_cons] at hlen
        omega
      · exact h
    · exact h
  case setGeometry =>
    refine hP.takeRequest (fun f u hu => hP.answer (fun g hg => Reached.same (workOf_reply _ _ _) ?_) hu) h
    exact hu.tail (.geometry g (geometryArg_legal hg)) (by simp [installGeometry, workOf, occupancy, evalThrottle])
  case setTrim =>
    exact hP.request (fun f v u hu => Reached.same ((workOf_reply _ _ _).trans (workOf_abortCalOf _ _ _))
      (hu.installTrim v.1 v.2)) h
  case setCancel =>
    refine hP.request (fun f r u hu => Reached.same (workOf_reply _ _ _) ?_) h
    cases r with
    | none => exact hu
    | some r => exact hu.cancelRecord r
  case setBin =>
    refine hP.takeRequest (fun f u hu => hP.answer (fun v hv => Reached.same (workOf_reply _ _ _) ?_) hu) h
    exact hu.setBinRecord fun ⟨hbase, _, hcurrent, hstate⟩ =>
      ⟨hbase, fun n hn => by cases hn; exact readBin_base hv, hcurrent, hstate⟩
  case binClose =>
    refine hP.request (fun f v u hu => ?_) h
    dsimp only
    split
    · exact hu.same rfl
    · exact Reached.same (workOf_reply _ _ _) (hu.terminalCount _ _ _)
  case binRelease =>
    refine hP.request (fun f v u hu => ?_) h
    dsimp only
    split
    · exact hu.same rfl
    · exact Reached.same (workOf_reply _ _ _) (hu.setBinRecord fun hl => binLegal_reopened _ hl)
  case tallyLatch =>
    refine hP.request (fun f _ u hu => ?_) h
    split
    · exact hu.same rfl
    · exact hu.takeSnapshot.same rfl
  case tallyRead =>
    refine hP.request (fun f v u hu => ?_) h
    split
    · rename_i hn
      exact hu.readSnapshot hn
    · exact hu.takeSnapshot.readSnapshot rfl
  case calApply =>
    refine hP.request (fun f _ u hu => ?_) h
    split
    · exact Reached.same (workOf_reply _ _ _) ((hu.same (t := { u with cal := .off }) rfl).installTrim _ _)
    · exact hu.same rfl
  case warmReset =>
    unfold warmResetStep
    split
    · exact hP.requestLevels (h.warmBlocks.same (workOf_restartLink _ _))
    · exact h

/-- Every step of the controller makes the work take steps. -/
theorem reached_of_step {s t : State} (hs : step s = .next t) : Reached (workOf s) t :=
  (Reached.restsOnWork (workOf s)).step (fun _ _ _ hc h he => h.exec hc he) s t (Reached.start s) hs

end Sys2Proof.Proofs
end

section
/-! PROOFS. The invariants of the work, settled: a step of the controller makes the work take steps, and each of
these keeps them. -/

namespace Sys2Proof.Proofs

open Sys2Proof.Machine Sys2Proof.Safety

/-- A property of states that the work decides and its steps keep, every step of the controller keeps. -/
theorem kept_of_work {P : State → Prop} {Q : Work → Prop} (hPQ : ∀ s, P s ↔ Q (workOf s))
    (hQ : ∀ {v w : Work}, WorkStep v w → Q v → Q w) (s t : State) (h : P s) (hs : step s = .next t) : P t :=
  (hPQ t).mpr ((reached_of_step hs).keeps hQ ((hPQ s).mp h))

/-- Settles O2: the tallies and the occupancy are of the work, whose steps keep their relations. -/
theorem talliesAgreeKept : Obligations.TalliesAgreeKept :=
  kept_of_work talliesAgree_iff WorkStep.talliesAgree

/-- Settles O5: a legal geometry's hold mark lies above an empty table, so a purge may put the throttle off. -/
theorem throttleFollowsKept : Obligations.ThrottleFollowsKept :=
  kept_of_work throttleLegal_iff WorkStep.throttleLegal

/-- Settles O6: every write of a bin record keeps it legal; the last letter's count and the close are one write. -/
theorem binsLegalKept : Obligations.BinsLegalKept :=
  kept_of_work binsLegal_iff WorkStep.binsLegal

/-- Settles O7: the bars change with the heads that follow them, and no other step goes into or out of DISABLED. -/
theorem headsFollowBarsKept : Obligations.HeadsFollowBarsKept :=
  kept_of_work headsFollow_iff WorkStep.headsFollow

/-- Settles O8: a ticket becomes DECIDED when every field of its decision is written, and none is taken back. -/
theorem decisionsWholeKept : Obligations.DecisionsWholeKept :=
  kept_of_work decisionsWhole_iff WorkStep.decisionsWhole

/-- Settles O9: gained samples are at most 255, and a baseline moves toward twice a sum of eight of them. -/
theorem readingsInRangeKept : Obligations.ReadingsInRangeKept :=
  kept_of_work readingsInRange_iff WorkStep.readingsInRange

end Sys2Proof.Proofs
end

section
/-! PROOFS. A notice handed to the link (R173 to R176): placed, dropped or judged against a full shared area. -/

namespace Sys2Proof.Proofs

open Sys2Proof.Machine Sys2Proof.Safety

/-! ### The newest bulk notice (R175) -/

theorem removeNewestBulk_none {l : List OutFrame} (h : ∀ x ∈ l, isBulk x = false) : removeNewestBulk l = none := by
  induction l with
  | nil => rfl
  | cons f rest ih =>
    obtain ⟨hf, hrest⟩ := List.forall_mem_cons.mp h
    simp [removeNewestBulk, ih hrest, hf]

theorem removeNewestBulk_append {behind : List OutFrame} {gone : OutFrame} (hg : isBulk gone = true)
    (hb : ∀ x ∈ behind, isBulk x = false) (before : List OutFrame) :
    removeNewestBulk (before ++ gone :: behind) = some (gone, before ++ behind) := by
  induction before with
  | nil => simp [removeNewestBulk, removeNewestBulk_none hb, hg]
  | cons f before ih => simp [removeNewestBulk, ih]

/-- The frame that gives its place is a bulk notice, and the others keep their order. -/
theorem removeNewestBulk_some {l rest : List OutFrame} {gone : OutFrame} (h : removeNewestBulk l = some (gone, rest)) :
    isBulk gone = true ∧ ∃ before behind, l = before ++ gone :: behind ∧ rest = before ++ behind := by
  induction l generalizing rest with
  | nil => nomatch h
  | cons f tail ih =>
    unfold removeNewestBulk at h
    split at h
    · rename_i g rest' hr
      cases h
      obtain ⟨hbulk, before, behind, rfl, rfl⟩ := ih hr
      exact ⟨hbulk, f :: before, behind, rfl, rfl⟩
    · split at h
      · rename_i hf
        cases h
        exact ⟨hf, [], tail, rfl, rfl⟩
      · nomatch h

/-! ### A notice by its kind and its enable -/

/-- Whether a notice's enable lets it through (R174): event notices have none. -/
def enabled (l : Link) : Notice → Bool
  | .letter _ => l.letterEnable
  | .trace _ => l.traceEnable
  | _ => true

theorem enabled_of {n : Notice} {l : Link} (hl : ∀ r, n = .letter r → l.letterEnable = true)
    (ht : ∀ r, n = .trace r → l.traceEnable = true) : enabled l n = true := by
  cases n with
  | letter r => exact hl r rfl
  | trace r => exact ht r rfl
  | _ => rfl

theorem sharedFree_zero {l : Link} (h : 60 ≤ sharedUsed l) : sharedFree l = 0 := Nat.sub_eq_zero_of_le h

theorem sharedFree_ne_zero {l : Link} (h : sharedUsed l < 60) : sharedFree l ≠ 0 := Nat.sub_ne_zero_of_lt h

theorem handNotice_placed {n : Notice} {s : State} (hn : enabled s.link n = true) (hroom : sharedUsed s.link < 60) :
    handNotice n s = enqueue (.notice n) s := by
  have hfree := sharedFree_ne_zero hroom
  cases n <;> simp_all [handNotice, enabled]

/-- A bulk notice that finds no place is dropped (R175). -/
theorem handNotice_bulk_full {n : Notice} {s : State} (hn : isBulk (.notice n) = true)
    (hfull : 60 ≤ sharedUsed s.link) (hl : ∀ r, n = .letter r → s.link.letterEnable = true) :
    handNotice n s = dropNotice n s := by
  have hfree := sharedFree_zero hfull
  cases n with
  | letter r => simp [handNotice, hfree, hl r rfl]
  | trace r => simp [handNotice, hfree]
  | _ => nomatch hn

/-- An event notice in a full shared area (R175). -/
theorem handNotice_event_full {n : Notice} {s : State} (hn : isBulk (.notice n) = false)
    (hfull : 60 ≤ sharedUsed s.link) : handNotice n s = displace n s := by
  have hfree := sharedFree_zero hfull
  cases n with
  | letter r => nomatch hn
  | trace r => nomatch hn
  | _ => simp [handNotice, hfree]

theorem countLost_event {n : Notice} (hn : isBulk (.notice n) = false) (l : Link) :
    countLost (.notice n) l = { l with eventsLost := min 65535 (l.eventsLost + 1) } := by
  cases n with
  | letter r => nomatch hn
  | trace r => nomatch hn
  | _ => rfl

theorem displace_bulk {n : Notice} {s : State} {before behind : List OutFrame} {gone : OutFrame}
    (hout : s.link.outbound = before ++ gone :: behind) (hbegun : begun s.link ≤ before.length)
    (hgone : isBulk gone = true) (hbehind : ∀ x ∈ behind, isBulk x = false) :
    displace n s = testLost { s with link := { countLost gone s.link with
      outbound := before ++ behind ++ [.notice n] } } := by
  have hdrop : s.link.outbound.drop (begun s.link) = before.drop (begun s.link) ++ gone :: behind := by
    rw [hout, List.drop_append_of_le_length hbegun]
  have htake : s.link.outbound.take (begun s.link) = before.take (begun s.link) := by
    rw [hout, List.take_append_of_le_length hbegun]
  have hjoin : s.link.outbound.take (begun s.link) ++ (before.drop (begun s.link) ++ behind) = before ++ behind := by
    rw [htake, ← List.append_assoc, List.take_append_drop]
  unfold displace
  rw [hdrop, removeNewestBulk_append hgone hbehind]
  dsimp only
  rw [hjoin]

theorem displace_none {n : Notice} {s : State} (h : ∀ x ∈ s.link.outbound.drop (begun s.link), isBulk x = false) :
    displace n s = dropNotice n s := by
  unfold displace
  rw [removeNewestBulk_none h]

/-- Settles O14: by the notice's enable, the room, and the newest bulk notice not begun. -/
theorem noticePlacedOrJudged : Obligations.NoticePlacedOrJudged := by
  refine ⟨fun r s hoff => ?letterOff, fun r s hoff => ?traceOff, fun n s hl ht hroom => ?placed,
    fun n s hn hfull hl => ?bulk, fun n s before behind gone hn hfull hout hbegun hgone hbehind => ?displaced,
    fun n s hn hfull hnone => ?dropped⟩
  case letterOff => simp [handNotice, hoff]
  case traceOff =>
    unfold handNotice
    dsimp only
    rw [if_pos (by rw [hoff]; rfl)]
    rfl
  case placed => exact handNotice_placed (enabled_of hl ht) hroom
  case bulk => exact handNotice_bulk_full hn hfull hl
  case displaced => rw [handNotice_event_full hn hfull, displace_bulk hout hbegun hgone hbehind]
  case dropped => rw [handNotice_event_full hn hfull, displace_none hnone, dropNotice, countLost_event hn]

end Sys2Proof.Proofs
end

section
/-! PROOFS. The link keeps its capacities (R170, R171, R173): no operation but the receiver's fills the inbound buffer,
no notice passes the shared area's bound, and a request that is taken has the one reply slot its answer needs. -/

namespace Sys2Proof.Proofs

open Sys2Proof.Machine Sys2Proof.Safety

/-- What the capacities of the link rest on: the two queues and the slot of a pending gate exercise. -/
def linkView (s : State) : List InFrame × List OutFrame × Bool :=
  (s.link.inbound, s.link.outbound, exerciseReplyDue s.gate)

/-- The link within its capacities, with so many reply slots to spare. -/
def LinkHolds (k : Nat) (s : State) : Prop :=
  s.link.inbound.length ≤ 4 ∧ sharedUsed s.link ≤ 60 ∧ slotsHeld s + k ≤ 4

theorem linkHolds_zero (s : State) : LinkHolds 0 s ↔ LinkFits s := Iff.rfl

theorem isReply_notice (n : Notice) : isReply (.notice n) = false := rfl

theorem isReply_reply (code tag : Byte) (b : ReplyBody) : isReply (.reply code tag b) = true := rfl

namespace LinkHolds

variable {k : Nat} {s t : State}

theorem same (e : linkView t = linkView s) (h : LinkHolds k s) : LinkHolds k t := by
  obtain ⟨hin, hout, hdue⟩ : t.link.inbound = s.link.inbound ∧ t.link.outbound = s.link.outbound ∧
      exerciseReplyDue t.gate = exerciseReplyDue s.gate := by
    simpa [linkView] using e
  unfold LinkHolds sharedUsed slotsHeld at *
  rwa [hin, hout, hdue]

theorem of_succ (h : LinkHolds (k + 1) s) : LinkHolds k s :=
  ⟨h.1, h.2.1, Nat.le_of_succ_le h.2.2⟩

/-- A queue with no more replies, whose notices have room. -/
theorem outbound (h : LinkHolds k s) (hin : t.link.inbound = s.link.inbound) (hg : t.gate = s.gate)
    (hreplies : (t.link.outbound.filter isReply).length ≤ (s.link.outbound.filter isReply).length)
    (hshared : sharedUsed s.link ≤ 60 → sharedUsed t.link ≤ 60) : LinkHolds k t := by
  obtain ⟨hi, hs, hslots⟩ := h
  refine ⟨hin ▸ hi, hshared hs, ?_⟩
  unfold slotsHeld at hslots ⊢
  rw [hg]
  omega

theorem slotsHeld_enqueue (f : OutFrame) (s : State) :
    slotsHeld (enqueue f s) = slotsHeld s + if isReply f then 1 else 0 := by
  have hone : ((s.link.outbound ++ [f]).filter isReply).length =
      (s.link.outbound.filter isReply).length + if isReply f then 1 else 0 := by
    cases hf : isReply f <;> simp [hf]
  have hdue : exerciseReplyDue (enqueue f s).gate = exerciseReplyDue s.gate := rfl
  unfold slotsHeld
  rw [enqueue_link_outbound, hone, hdue]
  omega

theorem sharedUsed_enqueue (f : OutFrame) (s : State) :
    sharedUsed (enqueue f s).link = sharedUsed s.link + if isReply f then 0 else 1 := by
  cases hf : isReply f <;> simp [sharedUsed, hf]

/-- A reply takes the slot that was to spare (R171). -/
theorem reply (f : InFrame) (b : ReplyBody) (h : LinkHolds (k + 1) s) : LinkHolds k (reply f b s) := by
  obtain ⟨hin, hshared, hslots⟩ := h
  refine ⟨hin, (sharedUsed_enqueue _ s).trans_le hshared, ?_⟩
  rw [Machine.reply, slotsHeld_enqueue, isReply_reply, if_pos rfl]
  omega

theorem refuse (f : InFrame) (r : Reason) (h : LinkHolds (k + 1) s) : LinkHolds k (refuse f r s) := h.reply f _

/-- A LOST notice is queued only with room for sixteen (R176). -/
theorem testLost (h : LinkHolds k s) : LinkHolds k (testLost s) := by
  unfold Machine.testLost
  split
  · rename_i hdue
    have hroom : 16 ≤ 60 - sharedUsed s.link := by
      simp only [lostDue, Bool.and_eq_true, decide_eq_true_eq] at hdue
      exact hdue.2
    refine h.outbound rfl rfl ?_ fun _ => ?_
    · simp [isReply_notice]
    · simp only [sharedUsed] at hroom ⊢
      simp [isReply_notice]
      omega
  · exact h

theorem dropNotice (n : Notice) (h : LinkHolds k s) : LinkHolds k (dropNotice n s) :=
  testLost (h.same (by simp [linkView]))

/-- A frame that gives its place to another leaves the notices as many as they were (R175). -/
theorem displace (n : Notice) (h : LinkHolds k s) : LinkHolds k (displace n s) := by
  unfold Machine.displace
  split
  · rename_i gone rest hgone
    obtain ⟨hbulk, before, behind, hdrop, rfl⟩ := removeNewestBulk_some hgone
    have hreply : isReply gone = false := by
      cases gone with
      | reply => nomatch hbulk
      | notice => rfl
    have hout : s.link.outbound = s.link.outbound.take (begun s.link) ++ (before ++ gone :: behind) := by
      rw [← hdrop, List.take_append_drop]
    refine testLost (h.outbound (by simp) rfl ?_ fun hs => ?_)
    · have hcount := congrArg (fun l => (l.filter isReply).length) hout
      simp [hreply, isReply_notice] at hcount ⊢
      omega
    · have hcount := congrArg (fun l => (l.filter fun f => !isReply f).length) hout
      simp [sharedUsed, hreply, isReply_notice] at hcount hs ⊢
      omega
  · exact h.dropNotice n

theorem placed {n : Notice} (hfree : sharedFree s.link ≠ 0) (h : LinkHolds k s) :
    LinkHolds k (enqueue (.notice n) s) := by
  refine h.outbound rfl rfl ?_ fun _ => ?_
  · simp [isReply_notice]
  · rw [sharedUsed_enqueue, isReply_notice, if_neg (by decide)]
    have hroom : 60 - sharedUsed s.link ≠ 0 := hfree
    omega

theorem handNotice (n : Notice) (h : LinkHolds k s) : LinkHolds k (handNotice n s) := by
  unfold Machine.handNotice
  split
  · split
    · exact h
    · split
      · exact h.dropNotice _
      · rename_i hfree
        exact h.placed hfree
  · split
    · exact h.dropNotice _
    · split
      · exact h.dropNotice _
      · rename_i hfree
        exact h.placed hfree
  · split
    · exact h.displace _
    · rename_i hfree
      exact h.placed hfree

/-! ### Run control -/

theorem enterRunState (new : RunState) (why : RunReason) (h : LinkHolds k s) :
    LinkHolds k (enterRunState new why s) := handNotice _ (h.same rfl)

theorem endDrain (h : LinkHolds k s) : LinkHolds k (endDrain s) := by
  unfold Machine.endDrain
  split
  · split
    · exact h.enterRunState _ _
    · exact h.enterRunState _ _
    · exact h
  · exact h

theorem abortCal (why : CalAbortReason) (h : LinkHolds k s) : LinkHolds k (abortCal why s) := by
  unfold Machine.abortCal
  split
  · exact h
  · exact handNotice _ (h.same rfl)

theorem abortCalOf (c : Channel) (why : CalAbortReason) (h : LinkHolds k s) : LinkHolds k (abortCalOf c why s) := by
  unfold Machine.abortCalOf
  split
  · exact h.abortCal why
  · exact h

theorem purgeTickets (how : Purge) (ts : List Ticket) (h : LinkHolds k s) : LinkHolds k (purgeTickets how ts s) := by
  induction ts generalizing s with
  | nil => exact h
  | cons t ts ih =>
    refine ih ?_
    unfold purgeTicket
    dsimp only
    split
    · exact h.same rfl
    · exact handNotice _ (h.same rfl)

theorem exerciseReplyDue_purge (how : Purge) (e : Option Exercise) (g : Gate) :
    exerciseReplyDue { g with exercise := purgeExercise how e } = exerciseReplyDue { g with exercise := e } := by
  unfold purgeExercise
  split
  · split <;> rfl
  · rfl

theorem purge (how : Purge) (h : LinkHolds k s) : LinkHolds k (purge how s) := by
  refine abortCal _ (same (s := Machine.purgeTickets how s.tracker.table s) ?_ (h.purgeTickets how _))
  refine Prod.ext rfl (Prod.ext rfl ?_)
  exact exerciseReplyDue_purge how _ _

theorem evaluate (h : LinkHolds k s) : LinkHolds k (evaluate s) := by
  have hstop : LinkHolds k (evalStop s) := by
    unfold evalStop
    split
    · exact (h.purge _).enterRunState _ _
    · exact h
  have hidle : LinkHolds k (evalIdle (evalStop s)) := by
    unfold evalIdle
    split
    · exact hstop.enterRunState _ _
    · exact hstop
  have hhold : LinkHolds k (evalHold (evalIdle (evalStop s))) := by
    unfold evalHold
    split
    · exact (hidle.enterRunState _ _).endDrain
    · exact hidle
  unfold Machine.evaluate evalResume
  split
  · exact hhold.enterRunState _ _
  · exact hhold

theorem setService (c : Cause) (on : Bool) (why : StopReason) (h : LinkHolds k s) :
    LinkHolds k (setService c on why s) := handNotice _ (h.same rfl)

theorem raiseCause {c : Cause} {d : SourceDetail} {n : Option U16} {why : StopReason} (h : LinkHolds k s) :
    LinkHolds k (raiseCause c d n why s) := by
  unfold Machine.raiseCause
  dsimp only
  split
  · exact h.same rfl
  · exact evaluate ((setService _ _ _ (h.same (t := noteRequest c d n s) rfl)).same rfl)

theorem raiseIf {level : Bool} {c : Cause} (h : LinkHolds k s) : LinkHolds k (raiseIf level c s) := by
  unfold Machine.raiseIf
  split
  · exact h.raiseCause
  · exact h

theorem raiseJam {x : Cell} {kind : JamKind} {edge : Option Pos} {n : Option U16} (h : LinkHolds k s) :
    LinkHolds k (raiseJam x kind edge n s) := raiseCause (h.same rfl)

theorem raiseLevel (cs : List Cause) (h : LinkHolds k s) : LinkHolds k (cs.foldl raiseLevel s) := by
  induction cs generalizing s with
  | nil => exact h
  | cons c cs ih =>
    refine ih ?_
    unfold Machine.raiseLevel
    split
    · exact h.raiseCause
    · exact h

theorem raiseHead (hs : List Head) (h : LinkHolds k s) : LinkHolds k (hs.foldl raiseHead s) := by
  induction hs generalizing s with
  | nil => exact h
  | cons x hs ih =>
    refine ih ?_
    unfold Machine.raiseHead
    split
    · exact h.raiseCause
    · exact h

theorem requestLevels (h : LinkHolds k s) : LinkHolds k (requestLevels s) := raiseHead _ (raiseLevel _ h)

theorem clearCause (c : Cause) (h : LinkHolds k s) : LinkHolds k (clearCause c s) := by
  unfold Machine.clearCause
  dsimp only
  split
  · refine evaluate (same (s := Machine.setService c false .clear _) rfl (setService _ _ _ ?_))
    exact h.same rfl
  · exact h.same rfl

theorem applyMask (was : PerCause CauseEntry) (cs : List Cause) (h : LinkHolds k s) :
    LinkHolds k (cs.foldl (applyMask was) s) := by
  induction cs generalizing s with
  | nil => exact h
  | cons c cs ih =>
    refine ih ?_
    unfold Machine.applyMask
    dsimp only
    split
    · exact h.setService _ _ _
    · split
      · exact h.setService _ _ _
      · exact h

theorem applyCauses (v : CauseSettings) (h : LinkHolds k s) : LinkHolds k (applyCauses v s) :=
  evaluate (same (s := allCauses.foldl (Machine.applyMask s.run.causes) _) rfl (applyMask _ _ (h.same rfl)))

/-! ### Lamps -/

theorem wakeLamp (why : LampReason) (d : Side) (h : LinkHolds k s) : LinkHolds k (wakeLamp why d s) := by
  unfold Machine.wakeLamp
  split
  · exact handNotice _ (h.same rfl)
  · exact h

theorem restLamp (why : LampReason) (d : Side) (h : LinkHolds k s) : LinkHolds k (restLamp why d s) := by
  unfold Machine.restLamp
  split
  · exact h
  · exact handNotice _ (h.same rfl)

theorem lampEdge (h : LinkHolds k s) : LinkHolds k (lampEdge s) := by
  unfold Machine.lampEdge
  split
  · exact ((h.same (t := restartSaver s) rfl).wakeLamp _ _).wakeLamp _ _
  · exact h

theorem applyLampMode (m : LampMode) (h : LinkHolds k s) : LinkHolds k (applyLampMode m s) := by
  cases m with
  | auto => exact h
  | forceOn => exact (h.wakeLamp _ _).wakeLamp _ _
  | forceStandby => exact (h.restLamp _ _).restLamp _ _

/-! ### Decisions, strikes and windows -/

theorem takeMarks (ms : List Mark) (h : LinkHolds k s) : LinkHolds k (takeMarks ms s) := by
  induction ms generalizing s with
  | nil => exact h
  | cons m ms ih =>
    unfold Machine.takeMarks
    split
    · split
      · refine ih ?_
        unfold takeMark propose
        dsimp only
        split
        · split
          · exact handNotice _ (h.same rfl)
          · exact h.same rfl
        · split
          · split
            · exact handNotice _ (h.same rfl)
            · exact handNotice _ (h.same rfl)
          · exact h.same rfl
      · exact ih h
    · exact h

theorem testTrace (t : Ticket) (cls : LetterClass) (o : LetterOutcome) (h : LinkHolds k s) :
    LinkHolds k (testTrace t cls o s) := by
  have hfold : ∀ (f : Channel → Notice) (cs : List Channel) (u : State), LinkHolds k u →
      LinkHolds k (cs.foldl (fun a c => Machine.handNotice (f c) a) u) := by
    intro f cs
    induction cs with
    | nil => exact fun _ hu => hu
    | cons c cs ih => exact fun u hu => ih _ (hu.handNotice _)
  unfold Machine.testTrace
  split
  · exact h
  · split
    · exact hfold (fun c => .trace _) _ _ (h.same rfl)
    · exact h

theorem decideTicket (t : Ticket) (h : LinkHolds k s) : LinkHolds k (decideTicket t s) := by
  unfold Machine.decideTicket
  dsimp only
  refine testTrace _ _ _ ?_
  unfold contribute
  split
  · exact h.same (by simp [linkView, exerciseReplyDue])
  · exact takeMarks _ (h.same (by simp [linkView, exerciseReplyDue]))

theorem decideNumber (n : U16) (h : LinkHolds k s) : LinkHolds k (decideNumber n s) := by
  unfold Machine.decideNumber
  split
  · exact h.decideTicket _
  · exact h

theorem decisionPoint (n : U16) (h : LinkHolds k s) : LinkHolds k (decisionPoint n s) := by
  have hrelease : ∀ (ns : List U16) (u : State), LinkHolds k u → LinkHolds k (releaseWaiting ns u) := by
    intro ns
    induction ns with
    | nil => exact fun _ hu => hu
    | cons m ns ih =>
      intro u hu
      unfold releaseWaiting
      split
      · exact ih _ hu
      · exact ih _ ((hu.same (t := unwait m u) rfl).decideNumber m)
  unfold Machine.decisionPoint
  split
  · exact h.same rfl
  · exact hrelease _ _ (h.decideNumber n)

end LinkHolds

end Sys2Proof.Proofs
end

section
/-! PROOFS. Every command keeps the link within its capacities (R170, R171, R173): a request command takes a frame only
with a reply slot free, and answers it with the one reply. -/

namespace Sys2Proof.Proofs

open Sys2Proof.Machine Sys2Proof.Safety

/-- The commands that are no requests. -/
def isEvent : Instr → Bool
  | .powerOnReset _ | .encoderPulse _ | .entryLeadingEdge | .entryTrailingEdge | .window1Start
  | .windowCompletion | .longCheck | .stuckLetterCheck | .arrivalMatch _ | .arrivalWindowClose _ | .gateDue
  | .gateConfirmInput _ | .gateConfirmTimeout | .gateExerciseTimeout | .strikeStart _ | .strikeDeadline _
  | .strikeEnd _ | .rechargeExpiry _ | .headFaultInput _ _ | .testStrikeEnd | .flapDue | .flapExerciseEnd
  | .traySwapPulseEnd _ | .binFullInput _ _ | .doorInput _ | .extStopInput _ | .beltStall | .startDone
  | .startTimerExpiry | .linkLoss | .warmDone _ | .saverExpiry | .beaconFlash | .byteReceived _
  | .interByteTimeout | .lineBreak | .frameSent | .warmReset => true
  | _ => false

namespace LinkHolds

variable {k : Nat} {s t : State}

/-! ### The gate exercise's reserved slot (R171) -/

/-- A slot that is no longer reserved is free. -/
theorem released (h : LinkHolds k s) (hin : t.link.inbound = s.link.inbound) (hout : t.link.outbound = s.link.outbound)
    (hdue : exerciseReplyDue t.gate = true → exerciseReplyDue s.gate = true) : LinkHolds k t := by
  obtain ⟨hi, hs, hslots⟩ := h
  unfold LinkHolds sharedUsed slotsHeld at *
  rw [hin, hout]
  refine ⟨hi, hs, ?_⟩
  cases hd : exerciseReplyDue t.gate
  · rw [if_neg (by decide)]
    omega
  · rw [hdue hd] at hslots
    exact hslots

theorem advance (dt : Nat) (h : LinkHolds k s) : LinkHolds k (advance dt s) := by
  refine h.released rfl rfl fun hdue => ?_
  unfold exerciseReplyDue at hdue ⊢
  cases he : s.gate.exercise with
  | none => simp [Machine.advance, he] at hdue
  | some e => cases e <;> simp_all [Machine.advance, exerciseAfter]

/-- The reply of a gate exercise takes the slot reserved for it (R78, R171). -/
theorem endGateExercise (h : LinkHolds k s) : LinkHolds k (endGateExercise s) := by
  unfold Machine.endGateExercise
  split
  · rename_i target left started tag he
    have hdue : exerciseReplyDue s.gate = true := by simp [exerciseReplyDue, he]
    have hfree : LinkHolds (k + 1) { s with gate := { s.gate with exercise := none } } := by
      obtain ⟨hi, hs, hslots⟩ := h
      refine ⟨hi, hs, ?_⟩
      unfold slotsHeld at hslots ⊢
      rw [hdue, if_pos rfl] at hslots
      rw [if_neg (by simp [exerciseReplyDue])]
      show (s.link.outbound.filter isReply).length + 0 + (k + 1) ≤ 4
      omega
    have hreply := fun b => hfree.reply ⟨0x38, tag, []⟩ b
    dsimp only
    split <;> exact hreply _
  · exact h

theorem startGateExercise (target : Path) (f : InFrame) (h : LinkHolds (k + 1) s) :
    LinkHolds k (startGateExercise target f s) := by
  have hstarted : LinkHolds k { s with gate := { s.gate with
      output := target
      exercise := some (.gate target s.tracker.geometry.gateConfirm s.uptime f.tag) } } := by
    obtain ⟨hi, hs, hslots⟩ := h
    refine ⟨hi, hs, ?_⟩
    unfold slotsHeld at hslots ⊢
    rw [if_pos (by simp [exerciseReplyDue])]
    show (s.link.outbound.filter isReply).length + 1 + k ≤ 4
    omega
  unfold Machine.startGateExercise startGateExercise.endIfRead
  split
  · exact hstarted.endGateExercise
  · exact hstarted

/-! ### Requests (R171, R172) -/

theorem takeRequest {c : Instr} {step : InFrame → State → State}
    (hk : ∀ f u, LinkHolds 1 u → LinkHolds 0 (step f u)) (h : LinkHolds 0 s) : LinkHolds 0 (takeRequest c s step) := by
  unfold Machine.takeRequest
  split
  · rename_i hnext
    have hslots : slotsHeld s < 4 := by
      unfold nextRequest at hnext
      split at hnext
      · rename_i hcan
        exact hcan.1
      · nomatch hnext
    split
    · rename_i f rest hin
      obtain ⟨hi, hs, -⟩ := h
      refine hk f _ ⟨?_, hs, hslots⟩
      rw [hin, List.length_cons] at hi
      exact Nat.le_of_succ_le hi
    · exact h
  · exact h

theorem answer {α : Type} {f : InFrame} {fields : Except Reason α} {step : α → State → State}
    (hk : ∀ v, LinkHolds 0 (step v s)) (h : LinkHolds 1 s) : LinkHolds 0 (answer f fields step s) := by
  cases fields with
  | error r => exact h.refuse f r
  | ok v => exact hk v

theorem request {α : Type} {c : Instr} {fields : InFrame → State → Except Reason α}
    {step : InFrame → α → State → State} (hk : ∀ f v u, LinkHolds 1 u → LinkHolds 0 (step f v u)) (h : LinkHolds 0 s) :
    LinkHolds 0 (Machine.takeRequest c s fun f u => Machine.answer f (fields f u) (step f) u) :=
  h.takeRequest fun f u hu => hu.answer fun v => hk f v u hu

/-! ### Receiver and transmitter (R168 to R170, R173) -/

theorem hear (x : Heard) (h : LinkHolds k s) : LinkHolds k (hear s x) := by
  cases x with
  | oversize => exact h.same rfl
  | bad => exact h.same rfl
  | frame f =>
    unfold Machine.hear validFrame
    dsimp only
    split
    · rename_i hroom
      obtain ⟨-, hs, hslots⟩ := h
      refine ⟨?_, hs, hslots⟩
      rw [List.length_append, List.length_singleton]
      exact hroom
    · exact h.same rfl

theorem foldl_hear (xs : List Heard) (h : LinkHolds k s) : LinkHolds k (xs.foldl Machine.hear s) := by
  induction xs generalizing s with
  | nil => exact h
  | cons x xs ih => exact ih (h.hear x)

theorem frameSent (h : LinkHolds k s) : LinkHolds k (frameSentStep s) := by
  unfold frameSentStep
  split
  · rename_i f rest hout
    split
    · refine testLost (h.outbound rfl rfl ?_ ?_)
      · rw [hout, List.filter_cons]
        split
        · exact Nat.le_succ _
        · exact Nat.le_refl _
      · unfold sharedUsed
        rw [hout, List.filter_cons]
        split
        · rw [List.length_cons]
          exact Nat.le_of_succ_le
        · exact id
    · exact h
  · exact h

/-! ### The resets -/

theorem powerOnState (pins : Pins) : LinkHolds 0 (powerOnState pins) := by
  simp [LinkHolds, Machine.powerOnState, State.reset, sharedUsed, slotsHeld, exerciseReplyDue, isReply_notice]

/-- The queue after a warm reset: RESET_DONE, perhaps LOST, and the replies set aside (R178). -/
theorem restartLink (n : Nat) (h : LinkHolds k s) : LinkHolds k (restartLink n s) := by
  unfold Machine.restartLink Machine.testLost
  dsimp only
  have hfilter : ((s.link.outbound.filter isReply).filter fun f => !isReply f).length = 0 := by simp
  split
  · refine h.outbound rfl rfl ?_ fun _ => ?_
    · simp [isReply_notice]
    · unfold sharedUsed
      simp [isReply_notice]
  · refine h.outbound rfl rfl ?_ fun _ => ?_
    · simp [isReply_notice]
    · unfold sharedUsed
      simp [isReply_notice]

theorem warmReset (h : LinkHolds k s) : LinkHolds k (warmResetStep s) := by
  unfold warmResetStep
  split
  · refine requestLevels (restartLink _ (h.released (t := warmBlocks s) rfl rfl fun hdue => ?_))
    have hgate : (warmBlocks s).gate.exercise = purgeExercise .warmReset s.gate.exercise := by
      unfold warmBlocks
      dsimp only
      split <;> simp
    unfold exerciseReplyDue at hdue ⊢
    rw [hgate] at hdue
    cases he : s.gate.exercise with
    | none => simp [purgeExercise, he] at hdue
    | some e => cases e <;> simp_all [purgeExercise]
  · exact h

/-! ### Gate, heads, channels and table -/

theorem endConfirm (h : LinkHolds k s) : LinkHolds k (endConfirm s) := by
  unfold Machine.endConfirm
  dsimp only
  split
  · exact h
  · split
    · exact h.same rfl
    · exact raiseCause (h.same rfl)

theorem gateConfirmChange (level : Bool) (h : LinkHolds k s) : LinkHolds k (gateConfirmChange level s) := by
  have hp : LinkHolds k { s with pins := { s.pins with gateConfirm := level } } := h.same rfl
  have hc : LinkHolds k (confirmIfRead { s with pins := { s.pins with gateConfirm := level } }) := by
    unfold confirmIfRead
    split
    · split
      · exact hp.endConfirm
      · exact hp
    · exact hp
  rw [gateConfirmChange_eq]
  unfold exerciseIfRead
  split
  · split
    · exact hc.endGateExercise
    · exact hc
  · exact hc

theorem gateDue (h : LinkHolds k s) : LinkHolds k (gateDueStep s) := by
  unfold gateDueStep
  split
  · split
    · refine same (s := Machine.endGateExercise _) rfl (endGateExercise (endConfirm (h.same rfl)))
    · exact h
  · exact h

theorem missStrike (n : U16) (x : Head) (h : LinkHolds k s) : LinkHolds k (missStrike n x s) := by
  unfold Machine.missStrike
  split
  · exact h.same rfl
  · exact h

theorem beginStrike (x : Head) (e : StrikeEntry) (late : Bool) (h : LinkHolds k s) :
    LinkHolds k (beginStrike x e late s) := by
  refine h.same ?_
  unfold Machine.beginStrike impress
  dsimp only
  split <;> cases late <;> rfl

theorem strikeStart (x : Head) (h : LinkHolds k s) : LinkHolds k (strikeStartStep x s) := by
  unfold strikeStartStep
  dsimp only
  split
  · exact h
  · split
    · exact h
    · split
      · exact h.beginStrike _ _ _
      · exact missStrike _ _ (h.same rfl)
      · split
        · exact h.same rfl
        · exact missStrike _ _ (h.same rfl)

theorem becomeReady (x : Head) (h : LinkHolds k s) : LinkHolds k (becomeReady x s) := by
  unfold Machine.becomeReady
  dsimp only
  split
  · split
    · exact beginStrike _ _ _ (h.same rfl)
    · exact h.same rfl
  · exact h.same rfl

/-- A test strike cut by its head's bar ends its exercise, which holds no reply slot (R80). -/
theorem exerciseCut_released {x : Head} {u : HeadState} {g : Gate}
    (h : exerciseReplyDue { g with exercise := exerciseCut x u g.exercise } = true) : exerciseReplyDue g = true := by
  unfold exerciseCut at h
  split at h
  · split at h
    · nomatch h
    · exact h
  · exact h

theorem judgeHead (x : Head) (h : LinkHolds k s) : LinkHolds k (judgeHead x s) := by
  unfold Machine.judgeHead
  split
  · split
    · exact h
    · unfold disableHead
      dsimp only
      have hcut : LinkHolds k (Machine.setHead x (fun u => { u with state := .disabled }) { s with gate := { s.gate with
          exercise := exerciseCut x (s.cancel.heads.get x).state s.gate.exercise } }) :=
        h.released rfl rfl exerciseCut_released
      split
      · split
        · exact missStrike _ _ (hcut.same rfl)
        · exact hcut
      · exact hcut
  · split
    · exact h.same rfl
    · exact h

theorem deliverMarks (n : U16) (minMark : Nat) (ms : List Mark) (h : LinkHolds k s) :
    LinkHolds k (ms.foldl (fun a m => deliverMark n minMark m a) s) := by
  induction ms generalizing s with
  | nil => exact h
  | cons m ms ih =>
    refine ih (h.same ?_)
    unfold deliverMark
    dsimp only
    split
    · rfl
    · split
      · rfl
      · unfold postIf
        split <;> rfl

theorem judgeComplete (n : U16) (h : LinkHolds k s) : LinkHolds k (judgeComplete n s) := by
  unfold Machine.judgeComplete
  split
  · exact h
  · split
    · exact h.decisionPoint n
    · exact h

theorem completeLetter (c : Channel) (before : List Span) (sp : Span) (behind : List Span) (h : LinkHolds k s) :
    LinkHolds k (completeLetter c before sp behind s) := by
  unfold Machine.completeLetter
  dsimp only
  have hcold : ∀ (b : Bool) (n : U16) (d : Side) (u : State), LinkHolds k u →
      LinkHolds k (if b then flagCold n d u else u) := by
    intro b n d u hu
    split
    · refine hu.same ?_
      unfold flagCold
      split
      · rfl
      · split <;> rfl
    · exact hu
  generalize hs1 : setChannel c (fun k => { k with ring := ringPush _ k.ring }) s = s1
  have h1 : LinkHolds k s1 := hs1 ▸ h.same rfl
  have hmarks := fun b ms n m => deliverMarks sp.ticket m ms (hcold b n (channelSide c) s1 h1)
  split
  · exact h1.same rfl
  · split
    · exact judgeComplete _ ((hmarks _ _ _ _).same rfl)
    · exact (hmarks _ _ _ _).same rfl

theorem windowCompletion (h : LinkHolds k s) : LinkHolds k (windowCompletionStep s) := by
  unfold windowCompletionStep
  split
  · unfold completeOn
    split
    · exact h.completeLetter _ _ _ _
    · split
      · exact h.same rfl
      · exact h
  · exact h

theorem terminalCount (b : Bin) (n : Nat) (why : BatchReason) (h : LinkHolds k s) :
    LinkHolds k (terminalCount b n why s) := by
  unfold Machine.terminalCount
  dsimp only
  refine handNotice _ (h.same ?_)
  cases (s.stacker.bins.get b).mode <;> rfl

theorem commitTicket (t : Ticket) (o : LetterOutcome) (pos : Pos) (h : LinkHolds k s) :
    LinkHolds k (commitTicket t o pos s) := by
  have hstack : LinkHolds k (stackLetter t (resolve s t o) s) := by
    unfold stackLetter
    rw [foldl_queueAction]
    unfold countLetter
    dsimp only
    split
    · exact h.same rfl
    · split
      · exact terminalCount _ _ _ (h.same rfl)
      · exact h.same rfl
  have hcount : ∀ (x : LetterOutcome) (b : Bin) (forced overrun : Bool) (u : State), LinkHolds k u →
      LinkHolds k (countCommit x b forced overrun u) := by
    exact fun x b forced overrun u hu => hu.same (by simp [linkView, countCommit])
  have hremove : ∀ u, LinkHolds k u → LinkHolds k (evalThrottle (removeTicket t.number u)) := fun u hu => hu.same rfl
  unfold Machine.commitTicket
  dsimp only
  generalize stackLetter t (resolve s t o) s = s1 at hstack ⊢
  refine endDrain (hremove _ (handNotice _ ?_))
  exact hcount _ _ _ _ _ hstack

theorem takeEdge {c : Cell} {leading : Bool} {step : Pos → State → State}
    (hk : ∀ p u, LinkHolds k u → LinkHolds k (step p u)) (h : LinkHolds k s) : LinkHolds k (takeEdge c leading s step) := by
  unfold Machine.takeEdge
  split
  · exact hk _ _ (h.same rfl)
  · exact h

/-! ### Every command -/

theorem exec_event {c : Instr} (hc : isEvent c = true) (h : LinkHolds 0 s) (he : Machine.exec c s = .next t) : LinkHolds 0 t := by
  cases c <;> cases hc
  case arrivalMatch x =>
    change execArrivalMatch x s = _ at he
    unfold execArrivalMatch at he
    split at he
    · generalize hu : ({ s with tracker := _ } : State) = u at he
      have hlu : LinkHolds 0 u := hu ▸ h.same rfl
      unfold arrive at he
      split at he
      · cases he
        exact hlu
      · split at he
        · cases he
          unfold passEdge
          split
          · exact hlu.same rfl
          · exact hlu.raiseJam
        · split at he
          · cases he
            exact hlu.commitTicket _ _ _
          · nomatch he
    · cases he
      exact h
  all_goals obtain rfl := Host.Outcome.next.inj he; clear he
  case powerOnReset pins => exact (requestLevels (powerOnState pins)).same rfl
  case encoderPulse => exact h.same rfl
  case entryLeadingEdge =>
    refine h.takeEdge fun p u hu => lampEdge ?_
    unfold trackLeading
    split
    · split
      · exact hu.same rfl
      · exact hu.raiseCause
    · exact hu.same rfl
  case entryTrailingEdge =>
    refine h.takeEdge fun p u hu => ?_
    unfold recordTrail
    split
    · split
      · split <;> exact hu.same rfl
      · exact hu.same rfl
    · exact hu
  case window1Start =>
    unfold window1Step
    split <;> exact h.same rfl
  case windowCompletion => exact h.windowCompletion
  case longCheck =>
    unfold longCheckStep
    dsimp only
    split
    · split
      · exact decisionPoint _ (h.same rfl)
      · exact h.same rfl
    · exact h
  case stuckLetterCheck =>
    unfold stuckCheckStep
    dsimp only
    split
    · split
      · exact raiseJam (h.same rfl)
      · exact h.same rfl
    · exact h
  case arrivalWindowClose x =>
    unfold windowCloseStep
    split
    · exact raiseJam (h.same rfl)
    · exact h
  case gateDue => exact h.gateDue
  case gateConfirmInput level =>
    split
    · exact h
    · exact h.gateConfirmChange level
  case gateConfirmTimeout =>
    split
    · exact (h.advance _).endConfirm
    · exact h
  case gateExerciseTimeout =>
    split
    · exact (h.advance _).endGateExercise
    · exact h
  case strikeStart x => exact h.strikeStart x
  case strikeDeadline x =>
    unfold strikeDeadlineStep
    dsimp only
    split
    · exact h
    · split
      · exact missStrike _ _ (h.same rfl)
      · exact h
  case strikeEnd x =>
    unfold strikeEndStep
    split
    · split
      · exact h.same rfl
      · exact h
    · exact h
  case rechargeExpiry x =>
    split
    · exact (h.advance _).becomeReady x
    · exact h
  case headFaultInput x level =>
    split
    · exact h
    · unfold headFaultChange
      dsimp only
      have hj : ∀ b, LinkHolds 0 (Machine.judgeHead x
          { s with pins := { s.pins with headFault := s.pins.headFault.set x b } }) := fun b =>
        judgeHead x (h.same rfl)
      split
      · exact (hj _).raiseCause
      · exact hj _
  case testStrikeEnd =>
    split
    · split
      · rename_i left _
        exact (h.advance left).released rfl rfl fun hdue => nomatch hdue
      · exact h
    · exact h
  case flapDue =>
    unfold flapDueStep
    split
    · split <;> exact h.same rfl
    · exact h
  case flapExerciseEnd =>
    split
    · rename_i left _
      exact (h.advance left).released rfl rfl fun hdue => nomatch hdue
    · exact h
  case traySwapPulseEnd =>
    split
    · rename_i left _
      exact (h.advance left).same rfl
    · exact h
  case binFullInput b level =>
    split
    · exact h
    · unfold binFullChange
      dsimp only
      split
      · exact raiseCause (handNotice _ (h.same rfl))
      · exact handNotice _ (h.same rfl)
  case doorInput level =>
    split
    · exact h
    · exact raiseIf (h.same rfl)
  case extStopInput level =>
    split
    · exact h
    · exact raiseIf (h.same rfl)
  case beltStall =>
    split
    · exact raiseCause ((h.advance _).same rfl)
    · exact h
  case startDone =>
    split
    · exact evaluate (enterRunState _ _ (h.same rfl))
    · exact h
  case startTimerExpiry =>
    split
    · exact raiseCause ((h.advance _).same rfl)
    · exact h
  case linkLoss =>
    split
    · exact raiseCause ((h.advance _).same rfl)
    · exact h
  case warmDone =>
    split
    · exact handNotice _ ((h.advance _).same rfl)
    · exact h
  case saverExpiry =>
    split
    · exact restLamp _ _ (restLamp _ _ ((h.advance _).same rfl))
    · exact h
  case beaconFlash =>
    split
    · exact (h.advance _).same rfl
    · exact (h.advance _).same rfl
    · exact h
  case byteReceived b => exact (h.foldl_hear _).same rfl
  case interByteTimeout =>
    split
    · exact (h.advance _).same rfl
    · exact h
  case lineBreak =>
    split
    · exact h.same rfl
    · exact h
  case frameSent => exact h.frameSent
  case warmReset => exact h.warmReset

theorem exec_request {c : Instr} (hc : isEvent c = false) (h : LinkHolds 0 s) (he : Machine.exec c s = .next t) :
    LinkHolds 0 t := by
  cases c <;> cases hc <;> obtain rfl := Host.Outcome.next.inj he <;> clear he
  case unknownCode => exact h.takeRequest fun f u hu => hu.refuse f _
  case setGeometry => exact h.request fun f g u hu => reply f _ (hu.same rfl)
  case getGeometry => exact h.request fun f _ u hu => hu.reply f _
  case tableRead => exact h.request fun f _ u hu => hu.reply f _
  case setDetect => exact h.request fun f v u hu => reply f _ (abortCalOf _ _ (hu.same rfl))
  case getDetect => exact h.request fun f _ u hu => hu.reply f _
  case setTrim => exact h.request fun f v u hu => reply f _ (abortCalOf _ _ (hu.same rfl))
  case setLamp => exact h.request fun f r u hu => reply f _ (applyLampMode _ (hu.same rfl))
  case lampStatus => exact h.request fun f _ u hu => reply f _ (hu.same rfl)
  case setDecide => exact h.request fun f r u hu => by cases r <;> exact reply f _ (hu.same rfl)
  case exerciseGate =>
    refine h.takeRequest fun f u hu => hu.answer fun x => ?_
    split
    · exact hu.refuse f _
    · exact hu.startGateExercise _ f
  case exerciseFlap =>
    refine h.request fun f x u hu => ?_
    split
    · exact hu.refuse f _
    · exact reply f _ (hu.released rfl rfl fun hdue => nomatch hdue)
  case exerciseHead =>
    refine h.request fun f x u hu => ?_
    dsimp only
    split
    · exact reply f _ (hu.released rfl rfl fun hdue => nomatch hdue)
    · exact hu.refuse f _
    · exact hu.refuse f _
  case setCancel =>
    refine h.request fun f r u hu => reply f _ ?_
    cases r with
    | none => exact hu
    | some r => exact judgeHead _ (judgeHead _ (hu.same rfl))
  case loadPlate =>
    refine h.request fun f v u hu => ?_
    split
    · exact hu.refuse f _
    · split
      · exact hu.refuse f _
      · exact reply f _ (hu.same rfl)
  case selectPlate =>
    refine h.request fun f v u hu => ?_
    split
    · exact reply f _ (hu.same rfl)
    · split
      · exact hu.refuse f _
      · exact reply f _ (hu.same rfl)
  case plateRead => exact h.request fun f _ u hu => hu.reply f _
  case setPlan => exact h.request fun f r u hu => by cases r <;> exact reply f _ (hu.same rfl)
  case setBin => exact h.request fun f v u hu => reply f _ (hu.same rfl)
  case binClose =>
    refine h.request fun f v u hu => ?_
    dsimp only
    split
    · exact hu.refuse f _
    · exact reply f _ (hu.terminalCount _ _ _)
  case binRelease =>
    refine h.request fun f v u hu => ?_
    dsimp only
    split
    · exact hu.refuse f _
    · exact reply f _ (hu.same rfl)
  case binStatus => exact h.request fun f _ u hu => hu.reply f _
  case tallyLatch =>
    refine h.request fun f _ u hu => ?_
    split
    · exact hu.reply f _
    · exact reply f _ (hu.same rfl)
  case tallyRead =>
    refine h.request fun f v u hu => ?_
    split
    · unfold readSnapshot
      split <;> exact reply f _ (hu.same rfl)
    · unfold readSnapshot
      split <;> exact reply f _ (hu.same rfl)
  case run =>
    refine h.request fun f _ u hu => ?_
    split
    · exact hu.refuse f _
    · rename_i act hact
      split
      · exact hu.refuse f _
      · refine reply f _ ?_
        unfold runEffect at hact
        split at hact <;> cases hact
        · exact enterRunState _ _ (hu.same rfl)
        · exact hu.enterRunState _ _
        · exact hu.enterRunState _ _
  case finish =>
    have hdrain : ∀ u, LinkHolds 1 u → LinkHolds 1 (finishDrain u) := by
      intro u hu
      unfold finishDrain
      split <;> exact hu.enterRunState _ _
    refine h.request fun f _ u hu => ?_
    split
    · exact (hdrain u hu).reply f _
    · exact (hdrain u hu).reply f _
    · exact hu.refuse f _
  case halt =>
    refine h.request fun f _ u hu => ?_
    split
    · exact hu.refuse f _
    · exact reply f _ ((hu.purge _).enterRunState _ _)
  case causeClear =>
    have hnamed : ∀ f c u, LinkHolds 1 u → LinkHolds 0 (clearNamed f c u) := by
      intro f c u hu
      unfold clearNamed
      split
      · exact hu.refuse f _
      · split
        · exact hu.refuse f _
        · exact reply f _ (hu.clearCause c)
    refine h.request fun f v u hu => ?_
    split
    · split
      · exact hu.refuse f _
      · exact hnamed f _ u hu
    · exact hnamed f _ u hu
  case setCauses =>
    refine h.request fun f v u hu => reply f _ ?_
    cases v with
    | none => exact hu
    | some v => exact hu.applyCauses v
  case status => exact h.request fun f _ u hu => hu.reply f _
  case faultRead => exact h.request fun f r u hu => by split <;> exact reply f _ (hu.same rfl)
  case calStart => exact h.request fun f _ u hu => reply f _ (hu.same rfl)
  case calApply =>
    refine h.request fun f _ u hu => ?_
    split
    · exact reply f _ (hu.same rfl)
    · exact hu.refuse f _
  case calAbort => exact h.request fun f _ u hu => reply f _ (hu.same rfl)
  case traceArm => exact h.request fun f _ u hu => reply f _ (hu.same rfl)
  case traceDisarm => exact h.request fun f _ u hu => reply f _ (hu.same rfl)
  case setNotices => exact h.request fun f r u hu => by cases r <;> exact reply f _ (hu.same rfl)
  case linkStatus => exact h.request fun f _ u hu => reply f _ (hu.same rfl)
  case reset => exact h.request fun f _ u hu => reply f _ (hu.same rfl)

theorem exec {c : Instr} (h : LinkHolds 0 s) (he : Machine.exec c s = .next t) : LinkHolds 0 t := by
  cases hc : isEvent c
  · exact exec_request hc h he
  · exact exec_event hc h he

theorem step (h : LinkHolds 0 s) (hs : Machine.step s = .next t) : LinkHolds 0 t := by
  unfold Machine.step at hs
  split at hs
  · unfold idleStep at hs
    split at hs
    · exact h.exec hs
    · obtain rfl := Host.Outcome.next.inj hs
      exact h.advance 1
  · refine exec ?_ hs
    exact h.same rfl

end LinkHolds

/-- Settles O3: table, rings and queues are of the work, whose steps keep them; the link keeps its own. -/
theorem capacitiesKept : Obligations.CapacitiesKept := by
  intro s t ⟨htable, hrings, hqueues, hlink⟩ hs
  obtain ⟨htable', hrings', hqueues'⟩ := kept_of_work fits_iff WorkStep.fits s t ⟨htable, hrings, hqueues⟩ hs
  exact ⟨htable', hrings', hqueues', LinkHolds.step hlink hs⟩

end Sys2Proof.Proofs
end

section
/-! PROOFS. Table, start timer, causes in service and beacon stay in line with the run state (R7, R139, R141, R151): a
change of run state brings all four in line, and nothing else takes them out of it. -/

namespace Sys2Proof.Proofs

open Sys2Proof.Machine Sys2Proof.Safety

/-- Whether the beacon is off, steady or flashing (R151), whatever its phase. -/
def beaconKind : Beacon → Beacon
  | .flashOff _ => .flashOn 0
  | .flashOn _ => .flashOn 0
  | b => b

/-- What a cause's service rests on. -/
def serviceOf (e : CauseEntry) : Bool × Bool × Reaction := (e.masked, e.inService, e.reaction)

/-- What the invariants of run control read of a state. -/
structure RunView where
  state : RunState
  timer : Bool
  pos : Bool
  causes : PerCause (Bool × Bool × Reaction)
  beacon : Beacon
  empty : Bool

/-- What the invariants of run control read. -/
def runView (s : State) : RunView :=
  ⟨s.run.state, s.run.startTimer.isNone, s.run.startPos.isNone, s.run.causes.map serviceOf, beaconKind s.run.beacon,
    s.tracker.table.isEmpty⟩

/-- The four invariants of run control. -/
structure RunLegal (s : State) : Prop where
  table : TableMatchesRun s
  start : StartMatchesRun s
  service : ServiceUnmasked s
  beacon : BeaconFollows s

theorem runLegal_iff (s : State) :
    RunLegal s ↔ TableMatchesRun s ∧ StartMatchesRun s ∧ ServiceUnmasked s ∧ BeaconFollows s :=
  ⟨fun ⟨ht, hs, hu, hb⟩ => ⟨ht, hs, hu, hb⟩, fun ⟨ht, hs, hu, hb⟩ => ⟨ht, hs, hu, hb⟩⟩

/-- A masked cause is not in service, told cause by cause. -/
theorem serviceUnmasked_iff (s : State) :
    ServiceUnmasked s ↔ ∀ c, (s.run.causes.get c).inService = true → (s.run.causes.get c).masked = false := by
  simp only [ServiceUnmasked, PerCause.mem_toList, forall_exists_index, forall_apply_eq_imp_iff]

theorem inGroup_eq (s : State) (r : Reaction) (c : Cause) :
    inGroup s r c = (((s.run.causes.map serviceOf).get c).2.1 && decide (((s.run.causes.map serviceOf).get c).2.2 = r)) := by
  rw [PerCause.get_map]
  rfl

theorem flashWanted_of_view {s t : State} (hstate : t.run.state = s.run.state)
    (hcauses : t.run.causes.map serviceOf = s.run.causes.map serviceOf) : flashWanted t = flashWanted s := by
  have hgroup : ∀ r c, inGroup t r c = inGroup s r c := fun r c => by rw [inGroup_eq, inGroup_eq, hcauses]
  simp only [flashWanted, feedHoldGroup, beltStopGroup, hstate, List.any_cons, hgroup]
  rfl

/-- The beacon follows the table of R151 by its kind alone. -/
theorem beaconFollows_iff (s : State) : BeaconFollows s ↔
    (beaconKind s.run.beacon = .steady ∧ s.run.state = .stopped) ∨
      (beaconKind s.run.beacon = .flashOn 0 ∧ flashWanted s = true) ∨
      (beaconKind s.run.beacon = .off ∧ s.run.state ≠ .stopped ∧ flashWanted s = false) := by
  unfold BeaconFollows beaconKind
  cases s.run.beacon <;> simp

namespace RunLegal

variable {s t : State}

theorem same (h : RunLegal s) (e : runView t = runView s) : RunLegal t := by
  obtain ⟨hstate, htimer, hpos, hcauses, hbeacon, hempty⟩ := RunView.mk.inj e
  refine ⟨fun htracks => ?_, fun hne => ?_, ?_, ?_⟩
  · rw [hstate] at htracks
    exact List.isEmpty_iff.mp (hempty.trans (List.isEmpty_iff.mpr (h.table htracks)))
  · rw [hstate] at hne
    obtain ⟨ht, hp⟩ := h.start hne
    exact ⟨Option.isNone_iff_eq_none.mp (htimer.trans (Option.isNone_iff_eq_none.mpr ht)),
      Option.isNone_iff_eq_none.mp (hpos.trans (Option.isNone_iff_eq_none.mpr hp))⟩
  · rw [serviceUnmasked_iff]
    intro c hc
    have hone := congrArg (fun p => p.get c) hcauses
    simp only [PerCause.get_map, serviceOf, Prod.mk.injEq] at hone
    rw [hone.1]
    exact (serviceUnmasked_iff s).mp h.service c (hone.2.1 ▸ hc)
  · rw [beaconFollows_iff, hstate, hbeacon, flashWanted_of_view hstate hcauses]
    exact (beaconFollows_iff s).mp h.beacon

/-- Run control unchanged, and no ticket in a table that was empty. -/
theorem of_run (h : RunLegal s) (hrun : t.run = s.run) (htable : s.tracker.table = [] → t.tracker.table = []) :
    RunLegal t := by
  obtain ⟨ht, hs, hu, hb⟩ := h
  refine ⟨fun htracks => htable (ht (hrun ▸ htracks)), ?_, ?_, beaconFollows_of_run hrun hb⟩
  · unfold StartMatchesRun at hs ⊢
    rwa [hrun]
  · unfold ServiceUnmasked at hu ⊢
    rwa [hrun]

theorem handNotice (n : Notice) (h : RunLegal s) : RunLegal (handNotice n s) := h.of_run (by simp) (by simp)

theorem setTicket (n : U16) (f : Ticket → Ticket) (h : RunLegal s) : RunLegal (setTicket n f s) :=
  h.of_run rfl fun he => by simp [he]

/-- A change of run state brings the start timer and the beacon in line (R135, R139, R151). -/
theorem enterRunState {new : RunState} {why : RunReason} (htable : tracks new = false → s.tracker.table = [])
    (hservice : ServiceUnmasked s) : RunLegal (enterRunState new why s) := by
  unfold Machine.enterRunState
  dsimp only
  refine RunLegal.handNotice _ ?_
  exact ⟨htable, fun hne => ⟨if_neg hne, if_neg hne⟩, hservice, judgeBeacon_follows _⟩

theorem purge (how : Purge) (h : RunLegal s) : RunLegal (purge how s) := h.of_run (by simp) fun _ => by simp

theorem endDrain (h : RunLegal s) : RunLegal (endDrain s) := by
  unfold Machine.endDrain
  split
  · rename_i hocc
    have hempty : s.tracker.table = [] := List.eq_nil_of_length_eq_zero hocc
    split
    · exact enterRunState (fun _ => hempty) h.service
    · exact enterRunState (fun _ => hempty) h.service
    · exact h
  · exact h

/-- The evaluation of the cause table keeps table, timer and beacon in line (R143). -/
theorem evaluate (h : RunLegal s) : RunLegal (evaluate s) := by
  have hstop : RunLegal (evalStop s) := by
    unfold evalStop
    split
    · exact enterRunState (fun _ => purge_tracker_table .beltStop s) (h.purge .beltStop).service
    · exact h
  have hidle : RunLegal (evalIdle (evalStop s)) := by
    unfold evalIdle
    split
    · rename_i hcond
      simp only [Bool.and_eq_true, decide_eq_true_eq] at hcond
      exact enterRunState (fun _ => hstop.table (by rw [hcond.2]; rfl)) hstop.service
    · exact hstop
  have hhold : RunLegal (evalHold (evalIdle (evalStop s))) := by
    unfold evalHold
    split
    · exact endDrain (enterRunState (fun hf => nomatch hf) hidle.service)
    · exact hidle
  unfold Machine.evaluate evalResume
  split
  · exact enterRunState (fun hf => nomatch hf) hhold.service
  · exact hhold

/-- A cause enters or leaves service, unmasked if it enters, and the beacon is judged (R142, R147). -/
theorem service_changed {c : Cause} {on : Bool} {why : StopReason} (hon : on = true → (s.run.causes.get c).masked = false)
    (h : RunLegal s) : RunLegal (judgeBeacon (Machine.setService c on why s)) := by
  obtain ⟨ht, hst, hu, -⟩ := h
  refine ⟨?_, ?_, ?_, judgeBeacon_follows _⟩
  · simpa [TableMatchesRun] using ht
  · simpa [StartMatchesRun] using hst
  · rw [serviceUnmasked_iff] at hu ⊢
    intro x
    simp only [judgeBeacon_run_causes, setService_run_causes, PerCause.get_set]
    split
    · rename_i hx
      intro hin
      exact hon hin
    · exact hu x

theorem raiseCause {c : Cause} {d : SourceDetail} {n : Option U16} {why : StopReason} (h : RunLegal s) :
    RunLegal (raiseCause c d n why s) := by
  have hnote : RunLegal (noteRequest c d n s) := by
    refine h.same ?_
    have hcauses : (noteRequest c d n s).run.causes.map serviceOf = s.run.causes.map serviceOf :=
      PerCause.ext_get fun x => by
        by_cases hx : x = c <;> simp_all [serviceOf, noteRequest]
    unfold runView
    rw [hcauses]
    rfl
  unfold Machine.raiseCause
  dsimp only
  split
  · exact hnote
  · rename_i hcond
    refine evaluate (hnote.service_changed fun _ => ?_)
    simp only [Bool.or_eq_true, not_or, Bool.not_eq_true] at hcond
    simpa [noteRequest] using hcond.1

theorem raiseIf {level : Bool} {c : Cause} (h : RunLegal s) : RunLegal (raiseIf level c s) := by
  unfold Machine.raiseIf
  split
  · exact h.raiseCause
  · exact h

theorem raiseJam {x : Cell} {kind : JamKind} {edge : Option Pos} {n : Option U16} (h : RunLegal s) :
    RunLegal (raiseJam x kind edge n s) := raiseCause (h.of_run rfl id)

theorem raiseLevel (cs : List Cause) (h : RunLegal s) : RunLegal (cs.foldl raiseLevel s) := by
  induction cs generalizing s with
  | nil => exact h
  | cons c cs ih =>
    refine ih ?_
    unfold Machine.raiseLevel
    split
    · exact h.raiseCause
    · exact h

theorem raiseHead (hs : List Head) (h : RunLegal s) : RunLegal (hs.foldl raiseHead s) := by
  induction hs generalizing s with
  | nil => exact h
  | cons x hs ih =>
    refine ih ?_
    unfold Machine.raiseHead
    split
    · exact h.raiseCause
    · exact h

theorem requestLevels (h : RunLegal s) : RunLegal (requestLevels s) := raiseHead _ (raiseLevel _ h)

theorem advance (dt : Nat) (h : RunLegal s) : RunLegal (advance dt s) := by
  have htimer : (timerAfter dt s.run.startTimer).isNone = s.run.startTimer.isNone := by
    cases s.run.startTimer <;> rfl
  have hbeacon : beaconKind (beaconLeft dt s.run.beacon) = beaconKind s.run.beacon := by
    cases s.run.beacon <;> rfl
  refine h.same ?_
  unfold runView Machine.advance
  dsimp only
  rw [htimer, hbeacon]

theorem latch_cleared {c : Cause} (h : RunLegal s) :
    RunLegal (Machine.setCause c (fun e => { e with latch := false }) s) := by
  refine h.same ?_
  have hcauses : (Machine.setCause c (fun e => { e with latch := false }) s).run.causes.map serviceOf =
      s.run.causes.map serviceOf :=
    PerCause.ext_get fun x => by
      by_cases hx : x = c <;> simp_all [serviceOf]
  unfold runView
  rw [hcauses]
  rfl

theorem clearCause (c : Cause) (h : RunLegal s) : RunLegal (clearCause c s) := by
  unfold Machine.clearCause
  dsimp only
  split
  · exact evaluate (h.latch_cleared.service_changed fun hf => nomatch hf)
  · exact h.latch_cleared

end RunLegal

/-! ### SET_CAUSES (R146) -/

/-- A cause in service is unmasked. -/
def Unmasked (s : State) (c : Cause) : Prop :=
  (s.run.causes.get c).inService = true → (s.run.causes.get c).masked = false

theorem applyMask_run (was : PerCause CauseEntry) (s : State) (c : Cause) : ∃ on,
    (applyMask was s c).run = { s.run with causes := s.run.causes.set c { s.run.causes.get c with inService := on } } := by
  have hsame : s.run = { s.run with
      causes := s.run.causes.set c { s.run.causes.get c with inService := (s.run.causes.get c).inService } } := by
    cases c <;> rfl
  unfold applyMask
  dsimp only
  split
  · exact ⟨true, by simp [setService, stopNotice, setCause]⟩
  · split
    · exact ⟨false, by simp [setService, stopNotice, setCause]⟩
    · exact ⟨_, hsame⟩

/-- A cause's new mask takes it out of service, whatever it was before (R146). -/
theorem applyMask_unmasked {was : PerCause CauseEntry} {s : State} {c : Cause}
    (h : (s.run.causes.get c).inService = true → (was.get c).masked = false) : Unmasked (applyMask was s c) c := by
  have hget : ∀ on why, (setService c on why s).run.causes.get c = { s.run.causes.get c with inService := on } :=
    fun on why => by simp
  unfold Unmasked applyMask
  dsimp only
  split
  · rename_i hcond
    simp only [Bool.and_eq_true, Bool.not_eq_true'] at hcond
    rw [hget]
    exact fun _ => hcond.1.1.2
  · split
    · rw [hget]
      exact fun hf => nomatch hf
    · rename_i hcond
      intro hin
      by_contra hmasked
      refine hcond ?_
      simp only [Bool.and_eq_true, Bool.not_eq_true']
      exact ⟨⟨h hin, (Bool.not_eq_false _).mp hmasked⟩, hin⟩

/-- After the new masks have acted on every cause, none in service is masked (R146). -/
theorem foldl_applyMask_unmasked {was : PerCause CauseEntry} (cs : List Cause) (s : State)
    (hwas : ∀ c ∈ cs, (s.run.causes.get c).inService = true → (was.get c).masked = false)
    (hrest : ∀ c, c ∉ cs → Unmasked s c) (hnodup : cs.Nodup) : ∀ c, Unmasked (cs.foldl (applyMask was) s) c := by
  induction cs generalizing s with
  | nil => exact fun c => hrest c List.not_mem_nil
  | cons x cs ih =>
    obtain ⟨on, hrun⟩ := applyMask_run was s x
    obtain ⟨hx, hcs⟩ := List.nodup_cons.mp hnodup
    have hother : ∀ c, c ≠ x → (applyMask was s x).run.causes.get c = s.run.causes.get c := fun c hc => by
      rw [hrun, PerCause.get_set, if_neg hc]
    refine ih _ (fun c hc => ?_) (fun c hc => ?_) hcs
    · rw [hother c fun heq => hx (heq ▸ hc)]
      exact hwas c (List.mem_cons_of_mem _ hc)
    · by_cases hcx : c = x
      · rw [hcx]
        exact applyMask_unmasked (hwas x List.mem_cons_self)
      · unfold Unmasked
        rw [hother c hcx]
        exact hrest c (by simp [hcx, hc])

theorem foldl_applyMask_frame (was : PerCause CauseEntry) (cs : List Cause) (s : State) :
    (cs.foldl (applyMask was) s).run.state = s.run.state ∧
      (cs.foldl (applyMask was) s).run.startTimer = s.run.startTimer ∧
      (cs.foldl (applyMask was) s).run.startPos = s.run.startPos ∧
      (cs.foldl (applyMask was) s).tracker = s.tracker := by
  induction cs generalizing s with
  | nil => exact ⟨rfl, rfl, rfl, rfl⟩
  | cons c cs ih =>
    obtain ⟨on, hrun⟩ := applyMask_run was s c
    have htracker : (applyMask was s c).tracker = s.tracker := by
      unfold applyMask
      dsimp only
      split
      · simp
      · split <;> simp
    obtain ⟨hstate, htimer, hpos, ht⟩ := ih (applyMask was s c)
    rw [List.foldl_cons, hstate, htimer, hpos, ht, hrun]
    exact ⟨rfl, rfl, rfl, htracker⟩

theorem RunLegal.applyCauses {s : State} (v : CauseSettings) (h : RunLegal s) : RunLegal (applyCauses v s) := by
  unfold Machine.applyCauses
  have hservice : ∀ c, ((installCauses v s.run).causes.get c).inService = (s.run.causes.get c).inService := fun c => by
    cases c <;> rfl
  let u : State := restartLinkTimer { s with run := installCauses v s.run }
  obtain ⟨hstate, htimer, hpos, htracker⟩ := foldl_applyMask_frame s.run.causes allCauses u
  refine RunLegal.evaluate ⟨fun htracks => ?_, fun hne => ?_, ?_, judgeBeacon_follows _⟩
  · rw [judgeBeacon_tracker, htracker]
    exact h.table (hstate ▸ htracks)
  · exact (h.start (hstate ▸ hne)).imp htimer.trans hpos.trans
  · rw [serviceUnmasked_iff]
    refine foldl_applyMask_unmasked allCauses u (fun c _ hin => ?_) (fun c hc => ?_) (by decide)
    · exact (serviceUnmasked_iff s).mp h.service c ((hservice c).symm.trans hin)
    · exact absurd (by cases c <;> decide) hc

/-! ### Every command -/

namespace RunLegal

variable {s t : State}

/-- A table whose ticket numbers are those of another is empty where that is. -/
theorem of_numbers (h : RunLegal s) (hrun : t.run = s.run)
    (hnum : t.tracker.table.map Ticket.number = s.tracker.table.map Ticket.number) : RunLegal t :=
  h.of_run hrun fun he => by
    rw [he] at hnum
    exact List.map_eq_nil_iff.mp hnum

theorem takeRequest {c : Instr} {step : InFrame → State → State} (hk : ∀ f u, RunLegal u → RunLegal (step f u))
    (h : RunLegal s) : RunLegal (takeRequest c s step) := by
  unfold Machine.takeRequest
  split
  · split
    · exact hk _ _ (h.of_run rfl id)
    · exact h
  · exact h

theorem reply (f : InFrame) (b : ReplyBody) (h : RunLegal s) : RunLegal (reply f b s) := h.of_run rfl id

theorem request {α : Type} {c : Instr} {fields : InFrame → State → Except Reason α} {step : InFrame → α → State → State}
    (hk : ∀ f v u, RunLegal u → RunLegal (step f v u)) (h : RunLegal s) :
    RunLegal (Machine.takeRequest c s fun f u => answer f (fields f u) (step f) u) :=
  h.takeRequest fun f u hu => by
    cases hv : fields f u with
    | error r => exact hu.reply f _
    | ok v => exact hk f v u hu

theorem hear (x : Heard) (h : RunLegal s) : RunLegal (hear s x) := by
  cases x with
  | oversize => exact h.of_run rfl id
  | bad => exact h.of_run rfl id
  | frame f =>
    unfold Machine.hear validFrame
    dsimp only
    split <;> exact h.same rfl

theorem foldl_hear (xs : List Heard) (h : RunLegal s) : RunLegal (xs.foldl Machine.hear s) := by
  induction xs generalizing s with
  | nil => exact h
  | cons x xs ih => exact ih (h.hear x)

theorem endConfirm (h : RunLegal s) : RunLegal (endConfirm s) := by
  unfold Machine.endConfirm
  dsimp only
  split
  · exact h
  · split
    · exact h.of_run rfl id
    · exact raiseCause (RunLegal.setTicket _ _ (h.of_run rfl id))

theorem endGateExercise (h : RunLegal s) : RunLegal (endGateExercise s) := by
  unfold Machine.endGateExercise
  split
  · dsimp only
    split <;> exact h.of_run rfl id
  · exact h

theorem missStrike (n : U16) (x : Head) (h : RunLegal s) : RunLegal (missStrike n x s) :=
  h.of_numbers (by simp) (by
    unfold Machine.missStrike
    split
    · exact setTicket_numbers _ _ _ fun _ => rfl
    · rfl)

theorem beginStrike (x : Head) (e : StrikeEntry) (late : Bool) (h : RunLegal s) : RunLegal (beginStrike x e late s) := by
  have himpress : ∀ u, RunLegal u → RunLegal (impress e.slot u) := fun u hu => by
    unfold impress
    split <;> exact hu.of_run rfl id
  have hlate : ∀ u, RunLegal u → RunLegal (postIf late (.late x) u) := fun u hu => hu.of_run (by simp) (by simp)
  unfold Machine.beginStrike
  dsimp only
  refine himpress _ (hlate _ ?_)
  exact of_run (RunLegal.setTicket _ _ (h.of_run (t := Machine.setHead x _ (dropEntry x s)) rfl id)) rfl id

theorem judgeHead (x : Head) (h : RunLegal s) : RunLegal (judgeHead x s) := by
  unfold Machine.judgeHead
  split
  · split
    · exact h
    · unfold disableHead
      dsimp only
      split
      · split
        · exact missStrike _ _ (h.of_run rfl id)
        · exact h.of_run rfl id
      · exact h.of_run rfl id
  · split
    · exact h.of_run rfl id
    · exact h

theorem decisionPoint (n : U16) (h : RunLegal s) : RunLegal (decisionPoint n s) :=
  h.of_numbers (by simp) (decisionPoint_numbers n s)

theorem deliverMarks (n : U16) (minMark : Nat) (ms : List Mark) (h : RunLegal s) :
    RunLegal (ms.foldl (fun a m => deliverMark n minMark m a) s) := by
  induction ms generalizing s with
  | nil => exact h
  | cons m ms ih =>
    refine ih ?_
    unfold deliverMark
    dsimp only
    split
    · exact h
    · split
      · exact h.of_run rfl id
      · exact h.of_run (by simp) (by simp)

theorem judgeComplete (n : U16) (h : RunLegal s) : RunLegal (judgeComplete n s) := by
  unfold Machine.judgeComplete
  split
  · exact h
  · split
    · exact h.decisionPoint n
    · exact h

theorem flagCold (n : U16) (d : Side) (h : RunLegal s) : RunLegal (flagCold n d s) := by
  unfold Machine.flagCold
  split
  · exact h
  · split
    · exact h
    · exact RunLegal.setTicket _ _ (h.of_run rfl id)

theorem completeLetter (c : Channel) (before : List Span) (sp : Span) (behind : List Span) (h : RunLegal s) :
    RunLegal (completeLetter c before sp behind s) := by
  unfold Machine.completeLetter
  dsimp only
  generalize hs1 : setChannel c (fun k => { k with ring := ringPush _ k.ring }) s = s1
  have h1 : RunLegal s1 := hs1 ▸ h.of_run rfl id
  have hcold : ∀ b : Bool, RunLegal (if b then Machine.flagCold sp.ticket (channelSide c) s1 else s1) := fun b => by
    cases b
    · exact h1
    · exact h1.flagCold _ _
  have hmarks := fun b ms m => (hcold b).deliverMarks sp.ticket m ms
  split
  · exact h1.of_run rfl id
  · split
    · refine judgeComplete _ (of_run (hmarks _ _ _) rfl id)
    · exact of_run (hmarks _ _ _) rfl id

theorem commitTicket (t : Ticket) (o : LetterOutcome) (pos : Pos) (h : RunLegal s) : RunLegal (commitTicket t o pos s) := by
  have hterm : ∀ b n why u, RunLegal u → RunLegal (terminalCount b n why u) := fun b n why u hu => by
    unfold terminalCount
    dsimp only
    refine RunLegal.handNotice _ ?_
    cases (u.stacker.bins.get b).mode <;> exact hu.of_run rfl id
  have hstack : RunLegal (stackLetter t (resolve s t o) s) := by
    unfold stackLetter
    rw [foldl_queueAction]
    generalize hu : ({ Machine.setTicket t.number _ s with stacker := _ } : State) = u
    have hlu : RunLegal u := hu ▸ of_run (RunLegal.setTicket _ _ h) rfl id
    unfold countLetter
    dsimp only
    split
    · exact hlu
    · split
      · exact hterm _ _ _ _ (hlu.of_run rfl id)
      · exact hlu.of_run rfl id
  have hcount : ∀ (x : LetterOutcome) (b : Bin) (forced overrun : Bool) (u : State), RunLegal u →
      RunLegal (countCommit x b forced overrun u) := fun x b forced overrun u hu =>
    hu.of_run (by simp [countCommit]) (by simp [countCommit])
  have hremove : ∀ u, RunLegal u → RunLegal (evalThrottle (removeTicket t.number u)) := fun u hu =>
    hu.of_run rfl fun he => by simp [he]
  unfold Machine.commitTicket
  dsimp only
  generalize stackLetter t (resolve s t o) s = s1 at hstack ⊢
  refine endDrain (hremove _ (RunLegal.handNotice _ ?_))
  exact hcount _ _ _ _ _ hstack

theorem takeEdge {c : Cell} {leading : Bool} {step : Pos → State → State}
    (hk : ∀ p u, RunLegal u → RunLegal (step p u)) (h : RunLegal s) : RunLegal (takeEdge c leading s step) := by
  unfold Machine.takeEdge
  split
  · exact hk _ _ (h.of_run rfl id)
  · exact h

/-- A state that tracks tickets may hold any table (R7). -/
theorem of_tracks (h : RunLegal s) (hrun : t.run = s.run) (htracks : tracks s.run.state = true) : RunLegal t := by
  obtain ⟨-, hs, hu, hb⟩ := h
  refine ⟨fun hf => ?_, ?_, ?_, beaconFollows_of_run hrun hb⟩
  · rw [hrun, htracks] at hf
    nomatch hf
  · unfold StartMatchesRun at hs ⊢
    rwa [hrun]
  · unfold ServiceUnmasked at hu ⊢
    rwa [hrun]

theorem changeLamp (d : Side) (new : LampState) (why : LampReason) (h : RunLegal s) :
    RunLegal (changeLamp d new why s) := RunLegal.handNotice _ (h.of_run rfl id)

theorem lampEdge (h : RunLegal s) : RunLegal (lampEdge s) := by
  have hwake : ∀ d u, RunLegal u → RunLegal (wakeLamp .edge d u) := fun d u hu => by
    unfold wakeLamp
    split
    · exact hu.changeLamp _ _ _
    · exact hu
  unfold Machine.lampEdge
  split
  · exact hwake _ _ (hwake _ _ (h.of_run rfl id))
  · exact h

theorem trackLeading (pos : Pos) (h : RunLegal s) : RunLegal (trackLeading pos s) := by
  unfold Machine.trackLeading
  split
  · rename_i htracks
    split
    · exact h.of_tracks rfl htracks
    · exact h.raiseCause
  · exact h.of_run rfl id

theorem reset : RunLegal State.reset :=
  ⟨fun _ => rfl, fun _ => ⟨rfl, rfl⟩, by unfold ServiceUnmasked; decide, ⟨by decide, by decide⟩⟩

theorem powerOnState (pins : Pins) : RunLegal (powerOnState pins) := reset.of_run rfl id

/-- Run control in a warm reset (R153): the state IDLE, no cause in service, the beacon off. -/
theorem warmBlocks (h : RunLegal s) : RunLegal (warmBlocks s) := by
  unfold Machine.warmBlocks
  dsimp only
  generalize hs2 : (if (Machine.purge .warmReset s).run.state = .idle then Machine.purge .warmReset s
    else Machine.enterRunState .idle .warmReset (Machine.purge .warmReset s)) = s2
  have hp := h.purge .warmReset
  have h2 : RunLegal s2 ∧ s2.run.state = .idle := by
    rw [← hs2]
    split
    · rename_i hidle
      exact ⟨hp, hidle⟩
    · exact ⟨enterRunState (fun _ => purge_tracker_table .warmReset s) hp.service, by simp [Machine.enterRunState]⟩
  obtain ⟨hl, hidle⟩ := h2
  have hoff : ∀ c, ((idleControl s2.run).causes.get c).inService = false := fun c => by
    simp [idleControl]
  have hgroup : ∀ (u : State), u.run = idleControl s2.run → flashWanted u = false := fun u hu => by
    have hone : ∀ r c, inGroup u r c = false := fun r c => by simp [inGroup, hu, hoff]
    simp [flashWanted, feedHoldGroup, hone]
  refine ⟨hl.table, hl.start, ?_, ?_⟩
  · rw [serviceUnmasked_iff]
    intro c hc
    rw [show _ = false from hoff c] at hc
    nomatch hc
  · rw [beaconFollows_iff]
    refine .inr (.inr ⟨rfl, ?_, hgroup _ rfl⟩)
    show s2.run.state ≠ .stopped
    rw [hidle]
    decide

/-- What a RUN does where a run state lets it (R136): STARTING is entered from IDLE, where the table is empty. -/
theorem runEffect {act : State → State} (h : RunLegal s) (ha : runEffect s.run.state = some act) : RunLegal (act s) := by
  unfold Machine.runEffect at ha
  split at ha <;> cases ha
  · rename_i hidle
    exact enterRunState (fun _ => h.table (by rw [hidle]; rfl)) h.service
  · exact enterRunState (fun hf => nomatch hf) h.service
  · exact enterRunState (fun hf => nomatch hf) h.service

theorem finishDrain (h : RunLegal s) : RunLegal (finishDrain s) := by
  unfold Machine.finishDrain
  split
  · rename_i hocc
    exact enterRunState (fun _ => List.eq_nil_of_length_eq_zero hocc) h.service
  · exact enterRunState (fun hf => nomatch hf) h.service

theorem exec_event {c : Instr} (hc : isEvent c = true) (h : RunLegal s) (he : Machine.exec c s = .next t) :
    RunLegal t := by
  cases c <;> cases hc
  case arrivalMatch x =>
    change execArrivalMatch x s = _ at he
    unfold execArrivalMatch at he
    split at he
    · generalize hu : ({ s with tracker := _ } : State) = u at he
      have hlu : RunLegal u := hu ▸ h.of_run rfl id
      unfold arrive at he
      split at he
      · cases he
        exact hlu
      · split at he
        · cases he
          unfold passEdge
          split
          · exact hlu.setTicket _ _
          · exact hlu.raiseJam
        · split at he
          · cases he
            exact hlu.commitTicket _ _ _
          · nomatch he
    · cases he
      exact h
  all_goals obtain rfl := Host.Outcome.next.inj he; clear he
  case powerOnReset pins => exact (requestLevels (powerOnState pins)).of_run rfl id
  case encoderPulse => exact h.of_run rfl id
  case entryLeadingEdge => exact h.takeEdge fun p u hu => lampEdge (hu.trackLeading p)
  case entryTrailingEdge =>
    refine h.takeEdge fun p u hu => ?_
    split
    · have hrec : RunLegal (recordTrail p u) := by
        unfold recordTrail
        split
        · split
          · exact hu.setTicket _ _
          · exact hu
        · exact hu
      exact hrec.of_run rfl id
    · exact hu
  case window1Start =>
    unfold window1Step
    split
    · exact RunLegal.setTicket _ _ (h.of_run rfl id)
    · exact h
  case windowCompletion =>
    unfold windowCompletionStep
    split
    · unfold completeOn
      split
      · exact h.completeLetter _ _ _ _
      · split
        · exact h.of_run rfl id
        · exact h
    · exact h
  case longCheck =>
    unfold longCheckStep
    dsimp only
    split
    · split
      · exact decisionPoint _ (RunLegal.setTicket _ _ (h.setTicket _ _))
      · exact h.setTicket _ _
    · exact h
  case stuckLetterCheck =>
    unfold stuckCheckStep
    dsimp only
    split
    · split
      · exact raiseJam (h.setTicket _ _)
      · exact h.setTicket _ _
    · exact h
  case arrivalWindowClose x =>
    unfold windowCloseStep
    split
    · exact raiseJam (h.setTicket _ _)
    · exact h
  case gateDue =>
    unfold gateDueStep
    split
    · split
      · refine of_run (s := Machine.endGateExercise _) ?_ rfl id
        exact endGateExercise (endConfirm (h.of_run rfl id))
      · exact h
    · exact h
  case gateConfirmInput level =>
    split
    · exact h
    · have hp : RunLegal { s with pins := { s.pins with gateConfirm := level } } := h.of_run rfl id
      have hc : RunLegal (confirmIfRead { s with pins := { s.pins with gateConfirm := level } }) := by
        unfold confirmIfRead
        split
        · split
          · exact hp.endConfirm
          · exact hp
        · exact hp
      rw [gateConfirmChange_eq]
      unfold exerciseIfRead
      split
      · split
        · exact hc.endGateExercise
        · exact hc
      · exact hc
  case gateConfirmTimeout =>
    split
    · exact (h.advance _).endConfirm
    · exact h
  case gateExerciseTimeout =>
    split
    · exact (h.advance _).endGateExercise
    · exact h
  case strikeStart x =>
    unfold strikeStartStep
    dsimp only
    split
    · exact h
    · split
      · exact h
      · split
        · exact h.beginStrike _ _ _
        · exact missStrike _ _ (h.of_run rfl id)
        · split
          · exact h.of_run rfl id
          · exact missStrike _ _ (h.of_run rfl id)
  case strikeDeadline x =>
    unfold strikeDeadlineStep
    dsimp only
    split
    · exact h
    · split
      · exact missStrike _ _ (h.of_run rfl id)
      · exact h
  case strikeEnd x =>
    unfold strikeEndStep
    split
    · split
      · exact h.of_run rfl id
      · exact h
    · exact h
  case rechargeExpiry x =>
    split
    · have ha := h.advance (s := s)
      unfold becomeReady
      dsimp only
      split
      · split
        · exact beginStrike _ _ _ ((ha _).of_run rfl id)
        · exact (ha _).of_run rfl id
      · exact (ha _).of_run rfl id
    · exact h
  case headFaultInput x level =>
    split
    · exact h
    · unfold headFaultChange
      dsimp only
      have hj : ∀ b, RunLegal (Machine.judgeHead x
          { s with pins := { s.pins with headFault := s.pins.headFault.set x b } }) := fun b =>
        judgeHead x (h.of_run rfl id)
      split
      · exact (hj _).raiseCause
      · exact hj _
  case testStrikeEnd =>
    split
    · split
      · exact (h.advance _).of_run rfl id
      · exact h
    · exact h
  case flapDue =>
    unfold flapDueStep
    split
    · split
      · exact h.of_run rfl id
      · exact h
    · exact h
  case flapExerciseEnd =>
    split
    · exact (h.advance _).of_run rfl id
    · exact h
  case traySwapPulseEnd =>
    split
    · exact (h.advance _).of_run rfl id
    · exact h
  case binFullInput b level =>
    split
    · exact h
    · unfold binFullChange
      dsimp only
      split
      · exact raiseCause (RunLegal.handNotice _ (h.of_run rfl id))
      · exact RunLegal.handNotice _ (h.of_run rfl id)
  case doorInput level =>
    split
    · exact h
    · exact raiseIf (h.of_run rfl id)
  case extStopInput level =>
    split
    · exact h
    · exact raiseIf (h.of_run rfl id)
  case beltStall =>
    split
    · exact raiseCause ((h.advance _).of_run rfl id)
    · exact h
  case startDone =>
    split
    · exact evaluate (enterRunState (fun hf => nomatch hf) h.service)
    · exact h
  case startTimerExpiry =>
    split
    · rename_i left htimer
      refine raiseCause ?_
      have ha := h.advance left
      exact ⟨ha.table, fun hne => ⟨rfl, (ha.start hne).2⟩, ha.service, ha.beacon⟩
    · exact h
  case linkLoss =>
    split
    · refine raiseCause ?_
      exact (h.advance _).same rfl
    · exact h
  case warmDone =>
    split
    · exact (h.advance _).changeLamp _ _ _
    · exact h
  case saverExpiry =>
    have hrest : ∀ d u, RunLegal u → RunLegal (restLamp .saver d u) := fun d u hu => by
      unfold restLamp
      split
      · exact hu
      · exact hu.changeLamp _ _ _
    split
    · refine hrest _ _ (hrest _ _ ?_)
      exact (h.advance _).of_run rfl id
    · exact h
  case beaconFlash =>
    split
    · rename_i left hbeacon
      refine (h.advance left).same ?_
      unfold runView Machine.advance
      dsimp only
      rw [hbeacon]
      rfl
    · rename_i left hbeacon
      refine (h.advance left).same ?_
      unfold runView Machine.advance
      dsimp only
      rw [hbeacon]
      rfl
    · exact h
  case byteReceived b => exact (h.foldl_hear _).of_run rfl id
  case interByteTimeout =>
    split
    · exact (h.advance _).of_run rfl id
    · exact h
  case lineBreak =>
    split
    · exact h.of_run rfl id
    · exact h
  case frameSent =>
    unfold frameSentStep
    split
    · split
      · exact h.of_run (by simp) (by simp)
      · exact h
    · exact h
  case warmReset =>
    unfold warmResetStep
    split
    · refine requestLevels (h.warmBlocks.of_run ?_ ?_) <;> simp [restartLink]
    · exact h

theorem abortCalOf (c : Channel) (why : CalAbortReason) (h : RunLegal s) : RunLegal (abortCalOf c why s) :=
  h.of_run (by simp) (by simp)

theorem clearNamed (f : InFrame) (c : Cause) (h : RunLegal s) : RunLegal (clearNamed f c s) := by
  unfold Machine.clearNamed
  split
  · exact h.reply f _
  · split
    · exact h.reply f _
    · exact (h.clearCause c).reply f _

theorem applyLampMode (m : LampMode) (h : RunLegal s) : RunLegal (applyLampMode m s) := by
  have hwake : ∀ d u, RunLegal u → RunLegal (wakeLamp .request d u) := fun d u hu => by
    unfold wakeLamp
    split
    · exact hu.changeLamp _ _ _
    · exact hu
  have hrest : ∀ d u, RunLegal u → RunLegal (restLamp .request d u) := fun d u hu => by
    unfold restLamp
    split
    · exact hu
    · exact hu.changeLamp _ _ _
  cases m with
  | auto => exact h
  | forceOn => exact hwake _ _ (hwake _ _ h)
  | forceStandby => exact hrest _ _ (hrest _ _ h)

theorem exec_request {c : Instr} (hc : isEvent c = false) (h : RunLegal s) (he : Machine.exec c s = .next t) :
    RunLegal t := by
  cases c <;> cases hc <;> obtain rfl := Host.Outcome.next.inj he <;> clear he
  case unknownCode => exact h.takeRequest fun f u hu => hu.reply f _
  case setGeometry => exact h.request fun f g u hu => hu.of_run rfl id
  case getGeometry => exact h.request fun f _ u hu => hu.reply f _
  case tableRead => exact h.request fun f _ u hu => hu.reply f _
  case setDetect => exact h.request fun f v u hu => reply f _ (abortCalOf _ _ (hu.of_run rfl id))
  case getDetect => exact h.request fun f _ u hu => hu.reply f _
  case setTrim => exact h.request fun f v u hu => reply f _ (abortCalOf _ _ (hu.of_run rfl id))
  case setLamp => exact h.request fun f r u hu => reply f _ (applyLampMode _ (hu.of_run rfl id))
  case lampStatus => exact h.request fun f _ u hu => hu.of_run rfl id
  case setDecide => exact h.request fun f r u hu => by cases r <;> exact hu.of_run rfl id
  case exerciseGate =>
    refine h.takeRequest fun f u hu => ?_
    unfold exerciseGateStep answer
    split
    · exact hu.reply f _
    · split
      · exact hu.reply f _
      · show RunLegal (startGateExercise _ f u)
        unfold startGateExercise startGateExercise.endIfRead
        split
        · exact endGateExercise (hu.of_run rfl id)
        · exact hu.of_run rfl id
  case exerciseFlap =>
    refine h.request fun f x u hu => ?_
    split <;> exact hu.of_run rfl id
  case exerciseHead =>
    refine h.request fun f x u hu => ?_
    dsimp only
    split <;> exact hu.of_run rfl id
  case setCancel =>
    refine h.request fun f r u hu => reply f _ ?_
    cases r with
    | none => exact hu
    | some r => exact judgeHead _ (judgeHead _ (hu.of_run rfl id))
  case loadPlate =>
    refine h.request fun f v u hu => ?_
    split
    · exact hu.reply f _
    · split <;> exact hu.of_run rfl id
  case selectPlate =>
    refine h.request fun f v u hu => ?_
    split
    · exact hu.of_run rfl id
    · split <;> exact hu.of_run rfl id
  case plateRead => exact h.request fun f _ u hu => hu.reply f _
  case setPlan => exact h.request fun f r u hu => by cases r <;> exact hu.of_run rfl id
  case setBin => exact h.request fun f v u hu => hu.of_run rfl id
  case binClose =>
    refine h.request fun f v u hu => ?_
    dsimp only
    split
    · exact hu.reply f _
    · refine reply f _ ?_
      unfold terminalCount
      dsimp only
      refine RunLegal.handNotice _ ?_
      cases (u.stacker.bins.get (binOf v)).mode <;> exact hu.of_run rfl id
  case binRelease =>
    refine h.request fun f v u hu => ?_
    dsimp only
    split <;> exact hu.of_run rfl id
  case binStatus => exact h.request fun f _ u hu => hu.reply f _
  case tallyLatch =>
    refine h.request fun f _ u hu => ?_
    split <;> exact hu.of_run rfl id
  case tallyRead =>
    refine h.request fun f v u hu => ?_
    split
    · unfold readSnapshot
      split <;> exact hu.of_run rfl id
    · unfold readSnapshot
      split <;> exact hu.of_run rfl id
  case run =>
    refine h.request fun f _ u hu => ?_
    split
    · exact hu.reply f _
    · rename_i act hact
      split
      · exact hu.reply f _
      · exact (hu.runEffect hact).reply f _
  case finish =>
    refine h.request fun f _ u hu => ?_
    split
    · exact hu.finishDrain.reply f _
    · exact hu.finishDrain.reply f _
    · exact hu.reply f _
  case halt =>
    refine h.request fun f _ u hu => ?_
    split
    · exact hu.reply f _
    · exact reply f _ (enterRunState (fun _ => purge_tracker_table .halt u) (hu.purge .halt).service)
  case causeClear =>
    refine h.request fun f v u hu => ?_
    split
    · split
      · exact hu.reply f _
      · exact hu.clearNamed f _
    · exact hu.clearNamed f _
  case setCauses =>
    refine h.request fun f v u hu => reply f _ ?_
    cases v with
    | none => exact hu
    | some v => exact hu.applyCauses v
  case status => exact h.request fun f _ u hu => hu.reply f _
  case faultRead => exact h.request fun f r u hu => by split <;> exact hu.same rfl
  case calStart => exact h.request fun f _ u hu => hu.of_run rfl id
  case calApply =>
    refine h.request fun f _ u hu => ?_
    split <;> exact hu.of_run rfl id
  case calAbort => exact h.request fun f _ u hu => hu.of_run rfl id
  case traceArm => exact h.request fun f _ u hu => hu.of_run rfl id
  case traceDisarm => exact h.request fun f _ u hu => hu.of_run rfl id
  case setNotices => exact h.request fun f r u hu => by cases r <;> exact hu.of_run rfl id
  case linkStatus => exact h.request fun f _ u hu => hu.of_run rfl id
  case reset => exact h.request fun f _ u hu => hu.of_run rfl id

theorem exec {c : Instr} (h : RunLegal s) (he : Machine.exec c s = .next t) : RunLegal t := by
  cases hc : isEvent c
  · exact exec_request hc h he
  · exact exec_event hc h he

theorem step (h : RunLegal s) (hs : Machine.step s = .next t) : RunLegal t := by
  unfold Machine.step at hs
  split at hs
  · unfold idleStep at hs
    split at hs
    · exact h.exec hs
    · obtain rfl := Host.Outcome.next.inj hs
      exact h.advance 1
  · refine exec ?_ hs
    exact h.of_run rfl id

end RunLegal

/-- Settles O4: every change of run state and of a cause's service brings table, timer and beacon in line. -/
theorem runControlLegalKept : Obligations.RunControlLegalKept :=
  fun s t h hs => (runLegal_iff t).mp (((runLegal_iff s).mpr h).step hs)

/-- Settles O1: by the two cases of the queue, and of the step that is due. -/
theorem stepRunsFrontCommand : Obligations.StepRunsFrontCommand := by
  refine ⟨fun c rest s hq => ?front, fun s hq => ⟨fun c hdue => ?due, fun hdue => ?idle⟩⟩
  case front => rw [step, hq]
  case due => rw [step, hq, idleStep, hdue]
  case idle => rw [step, hq, idleStep, hdue]

/-- Settles O10: an empty table, zero tallies, full OPEN bins and READY heads, evaluated part by part. -/
theorem resetMeetsInvariants : Obligations.ResetMeetsInvariants := by
  have hrun := RunLegal.reset
  refine ⟨⟨entriesBalance_zero, entriesBalance_zero, ⟨rfl, rfl⟩, ⟨rfl, rfl⟩, fun n h => nomatch h⟩,
    ⟨by decide, fun _ h => absurd h List.not_mem_nil⟩, ?rings, ⟨by decide, ?strikes, by decide⟩,
    ⟨by decide, by decide, by decide⟩, hrun.table, hrun.start, hrun.service, hrun.beacon, badField_default,
    ⟨by decide, by decide⟩, ?bins, ?heads, fun _ h => absurd h List.not_mem_nil, ?readings⟩
  case rings =>
    unfold RingsFit
    decide
  case strikes => decide
  case bins => exact (binsLegal_iff _).mpr fun b => by cases b <;> exact binLegal_reset
  case heads =>
    unfold HeadsFollowBars
    decide
  case readings => exact (readingsInRange_iff _).mpr fun x => by cases x <;> exact channelInRange_reset

end Sys2Proof.Proofs
end

section
/-! PROOFS. Taking a request (R171, R172), and the requests that only read or only install: a request that the link
can take is its step on the state with the frame removed, and the reader of its payload decides the rest. -/

namespace Sys2Proof.Proofs

open Sys2Proof.Machine Sys2Proof.Safety

/-! ### Taking a frame (R171) -/

/-- A request that the link can take is its step on the state with the frame removed, for any row whose meaning
is to take a request. -/
theorem exec_taken {c : Instr} {step : InFrame → State → State} {b : Byte} {f : InFrame} {rest : List InFrame}
    {s : State} (h : CanTake s f rest) (hcode : f.code = b) (hrow : requestOf ⟨b, f.tag, f.payload⟩ = c)
    (hexec : exec c s = .next (takeRequest c s step)) : exec c s = .next (step f (took rest s)) := by
  have hf : requestOf f = c := by rw [← hrow, ← hcode]
  rw [hexec, takeRequest_taken h hf]

/-- A row whose meaning is to take a request does nothing while the link can take none. -/
theorem exec_waits {c : Instr} {step : InFrame → State → State} {s : State}
    (h : s.link.inbound = [] ∨ 4 ≤ slotsHeld s ∨ s.link.reset ≠ .none)
    (hexec : exec c s = .next (takeRequest c s step)) : exec c s = .next s := by
  rw [hexec, takeRequest_waits h]

/-- A request without fields, sent with a field, is refused. -/
theorem exec_bare_refused {c : Instr} {step : InFrame → State → State} {k : Unit → State → State} {b : Byte}
    {f : InFrame} {rest : List InFrame} {s : State} (h : CanTake s f rest) (hp : f.payload ≠ [])
    (hcode : f.code = b) (hrow : requestOf ⟨b, f.tag, f.payload⟩ = c)
    (hexec : exec c s = .next (takeRequest c s step))
    (hstep : step f (took rest s) = answer f (noFields f.payload) k (took rest s)) :
    exec c s = refusedAfter f .badLength rest s := by
  rw [exec_taken h hcode hrow hexec, hstep, noFields_of_ne_nil hp, answer_error, refusedAfter_eq]

/-- A request without fields, sent without any, is carried out. -/
theorem exec_bare_taken {c : Instr} {step : InFrame → State → State} {k : Unit → State → State} {b : Byte}
    {f : InFrame} {rest : List InFrame} {s : State} (h : CanTake s f rest) (hp : f.payload = [])
    (hcode : f.code = b) (hrow : requestOf ⟨b, f.tag, f.payload⟩ = c)
    (hexec : exec c s = .next (takeRequest c s step))
    (hstep : step f (took rest s) = answer f (noFields f.payload) k (took rest s)) :
    exec c s = .next (k () (took rest s)) := by
  rw [exec_taken h hcode hrow hexec, hstep, hp, noFields_nil, answer_ok]

/-! ### Unknown codes (R172, R183) -/

theorem mem_requestCodes {b : Byte} {n : Nat} (hb : b.toNat = n) (hn : BitVec.ofNat 8 n ∈ requestCodes) :
    b ∈ requestCodes := by
  rwa [← hb, BitVec.ofNat_toNat, BitVec.setWidth_eq] at hn

/-- Every code that names a row is a request code. -/
theorem requestOf_unknown {f : InFrame} (h : f.code ∉ requestCodes) : requestOf f = .unknownCode := by
  unfold requestOf
  split
  case h_37 => rfl
  all_goals
    next heq => exact absurd (mem_requestCodes heq (by decide)) h

/-- Settles O15: the waiting of every row and the refusal of every bare request by the one meaning they share, and an
unknown code by the rows that the codes name. -/
theorem requestsWaitOrRefuse : Obligations.RequestsWaitOrRefuse := by
  refine ⟨fun c hc s hwait => ?waits, fun f rest s h hcode => ?unknown, fun p hp f rest s h hcode hne => ?fields⟩
  case waits =>
    simp only [requestRows, List.mem_cons, List.not_mem_nil, or_false] at hc
    rcases hc with rfl | rfl | rfl | rfl | rfl | rfl | rfl | rfl | rfl | rfl | rfl | rfl | rfl | rfl | rfl | rfl |
      rfl | rfl | rfl | rfl | rfl | rfl | rfl | rfl | rfl | rfl | rfl | rfl | rfl | rfl | rfl | rfl | rfl | rfl |
      rfl | rfl | rfl | rfl | rfl
    all_goals exact exec_waits hwait rfl
  case unknown => rw [exec_taken h rfl (requestOf_unknown hcode) rfl, unknownCodeStep, refusedAfter_eq]
  case fields =>
    simp only [bareRequests, List.mem_cons, List.not_mem_nil, or_false] at hp
    rcases hp with rfl | rfl | rfl | rfl | rfl | rfl | rfl | rfl | rfl | rfl | rfl | rfl | rfl | rfl | rfl
    all_goals exact exec_bare_refused h hne hcode rfl rfl rfl

/-! ### The reading requests (R6, R23, R32, R88, R120, R152, R177) -/

/-- Settles O16: each request's reply as its step gives it. -/
theorem readingRequestsAnswer : Obligations.ReadingRequestsAnswer := by
  refine ⟨fun f rest s h hp => ⟨fun hc => ?geometry, fun hc => ?table, fun hc => ?plates, fun hc => ?bins,
    fun hc => ?status⟩, fun f rest s h hp => ⟨fun hc => ?lamps, fun hc => ?link⟩⟩
  case geometry => exact exec_bare_taken h hp hc rfl rfl rfl
  case table => exact exec_bare_taken h hp hc rfl rfl rfl
  case plates => exact exec_bare_taken h hp hc rfl rfl rfl
  case bins => exact exec_bare_taken h hp hc rfl rfl rfl
  case status => exact exec_bare_taken h hp hc rfl rfl rfl
  case lamps => exact exec_bare_taken h hp hc rfl rfl rfl
  case link => exact exec_bare_taken h hp hc rfl rfl rfl

/-! ### Settings read and installed (R55, R84, R104, R146, R174) -/

/-- A setting request whose payload is read is carried out with what was read. -/
theorem exec_read_taken {α : Type} {c : Instr} {step : InFrame → State → State} {read : Except Reason α} {v : α}
    {k : α → State → State} {b : Byte} {f : InFrame} {rest : List InFrame} {s : State} (h : CanTake s f rest)
    (hcode : f.code = b) (hrow : requestOf ⟨b, f.tag, f.payload⟩ = c)
    (hexec : exec c s = .next (takeRequest c s step))
    (hstep : step f (took rest s) = answer f read k (took rest s)) (hread : read = .ok v) {t : State}
    (hk : k v (took rest s) = t) : exec c s = .next t := by
  rw [exec_taken h hcode hrow hexec, hstep, hread, answer_ok, hk]

/-- A request whose payload is not read is refused with the reading's reason. -/
theorem exec_read_refused {α : Type} {c : Instr} {step : InFrame → State → State} {read : Except Reason α}
    {r : Reason} {k : α → State → State} {b : Byte} {f : InFrame} {rest : List InFrame} {s : State}
    (h : CanTake s f rest) (hcode : f.code = b) (hrow : requestOf ⟨b, f.tag, f.payload⟩ = c)
    (hexec : exec c s = .next (takeRequest c s step))
    (hstep : step f (took rest s) = answer f read k (took rest s)) (hread : read = .error r) :
    exec c s = refusedAfter f r rest s := by
  rw [exec_taken h hcode hrow hexec, hstep, hread, answer_error, refusedAfter_eq]

/-- The bytes of a decide record in its ranges are read as that record. -/
theorem readDecide_encDecide {r : DecideRecord} (h1 : 12 ≤ r.dom8) (h2 : r.dom8 ≤ 32) (h3 : r.floor ≤ 65535) :
    readDecide (encDecide r) = .ok (some r) := by
  have hne : encDecide r ≠ [] := List.cons_ne_nil _ _
  have hfields : takeFields [1, 2] (encDecide r) = some [r.dom8, r.floor] := by
    have htail : takeFields [2] (u16 r.floor) = some [r.floor] := by
      simpa using takeFields_u16 [] [] (n := r.floor) (by omega)
    rw [encDecide, takeFields_u8 _ _ (by omega), htail, Option.map_some]
  have hrange : firstBad 1 [(r.dom8, 12, 32), (r.floor, 0, 65535)] = none := firstBad_none (by simp [h1, h2, h3])
  rw [readDecide, if_neg hne, hfields]
  simp only [checked, hrange]

/-- The bytes of the two enables are read as them. -/
theorem readNotices_flags (letter trace : Bool) :
    readNotices (flag letter ++ flag trace) = .ok (some (letter, trace)) := by
  cases letter <;> cases trace <;> rfl

/-- Settles O17: by the reading of each payload, without fields and with them. -/
theorem settingsReadOrInstalled : Obligations.SettingsReadOrInstalled := by
  refine ⟨fun f rest s h hp => ⟨fun hc => ?decideRead, fun hc => ?cancelRead, fun hc => ?planRead,
    fun hc => ?causesRead, fun hc => ?noticesRead⟩, fun f rest s h => ⟨fun r hc h1 h2 h3 hp => ?decide,
    fun letter trace hc hp => ?notices⟩⟩
  case decideRead => exact exec_read_taken h hc rfl rfl rfl (if_pos hp) rfl
  case cancelRead => exact exec_read_taken h hc rfl rfl rfl (if_pos hp) rfl
  case planRead => exact exec_read_taken h hc rfl rfl rfl (if_pos hp) rfl
  case causesRead => exact exec_read_taken h hc rfl rfl rfl (if_pos hp) rfl
  case noticesRead => exact exec_read_taken h hc rfl rfl rfl (if_pos hp) rfl
  case decide => exact exec_read_taken h hc rfl rfl rfl (by rw [hp, readDecide_encDecide h1 h2 h3]) rfl
  case notices => exact exec_read_taken h hc rfl rfl rfl (by rw [hp, readNotices_flags]) rfl

end Sys2Proof.Proofs
end

section
/-! PROOFS. The power-on reset (R180), the inputs of the bins, the door and the external stop (R106, R142), and the
end of a frame's sending (R173, R176, R178). -/

namespace Sys2Proof.Proofs

open Sys2Proof.Machine Sys2Proof.Safety

/-! ### The levels that request at a reset (R101, R153; log 15) -/

theorem raiseLevel_pins (s : State) (c : Cause) : (raiseLevel s c).pins = s.pins := by
  unfold raiseLevel
  split <;> simp

theorem raiseHead_pins (s : State) (h : Head) : (raiseHead s h).pins = s.pins := by
  unfold raiseHead
  split <;> simp

/-- A run of steps, each guarded by the pins, is guarded by the pins of its start where no step changes them. -/
theorem foldl_pins {α : Type} {step : State → α → State} {guard : Pins → α → Bool} {act : α → State → State}
    (hstep : ∀ s a, step s a = if guard s.pins a then act a s else s) (hpins : ∀ s a, (step s a).pins = s.pins)
    (l : List α) (s : State) :
    l.foldl step s = l.foldl (fun u a => if guard s.pins a then act a u else u) s ∧
      (l.foldl step s).pins = s.pins := by
  suffices h : ∀ u : State, u.pins = s.pins →
      l.foldl step u = l.foldl (fun u a => if guard s.pins a then act a u else u) u ∧
        (l.foldl step u).pins = s.pins from h s rfl
  induction l with
  | nil => exact fun u hu => ⟨rfl, hu⟩
  | cons a l ih =>
    intro u hu
    rw [List.foldl_cons, List.foldl_cons, ← hu, ← hstep, hu]
    exact ih (step u a) (by rw [hpins, hu])

/-- The requests that follow a reset go by the pins it finds. -/
theorem requestLevels_eq (s : State) :
    requestLevels s =
      [Head.a, .b].foldl
        (fun u h => if s.pins.headFault.get h then raiseCause .actuator (.actuator (.head h)) none .request u else u)
        ([Cause.door, .extStop, .stackFull].foldl
          (fun u c => if levelActive s.pins c then raiseCause c .none none .level u else u) s) := by
  obtain ⟨hlevels, hpins⟩ := foldl_pins (step := raiseLevel) (guard := levelActive)
    (act := fun c => raiseCause c .none none .level) (fun _ _ => rfl) raiseLevel_pins
    [Cause.door, .extStop, .stackFull] s
  obtain ⟨hheads, -⟩ := foldl_pins (step := raiseHead) (guard := fun p h => p.headFault.get h)
    (act := fun h => raiseCause .actuator (.actuator (.head h)) none .request) (fun _ _ => rfl) raiseHead_pins
    [Head.a, .b] ([Cause.door, .extStop, .stackFull].foldl raiseLevel s)
  rw [requestLevels, hheads, hpins, hlevels]

/-- With no level cause and no head fault active a reset is followed by no request. -/
theorem requestLevels_quiet {s : State} (hdoor : s.pins.door = false) (hext : s.pins.extStop = false)
    (hfull : s.pins.binFull.b6 = false) (hfault : s.pins.headFault = ⟨false, false⟩) : requestLevels s = s := by
  simp [requestLevels_eq, levelActive, hdoor, hext, hfull, hfault, PerHead.get]

/-! ### The power-on reset (R166, R180) -/

theorem rateOf_eq (strap1 strap2 : Bool) :
    rateOf strap1 strap2 =
      if !strap1 && strap2 then .r460800 else if strap1 && !strap2 then .r921600 else .r115200 := by
  cases strap1 <;> cases strap2 <;> rfl

/-- Settles O33: the requests go by the pins of the reset, and with quiet pins there are none. -/
theorem powerOnGivesResetState : Obligations.PowerOnGivesResetState := by
  intro pins s
  dsimp only
  rw [← rateOf_eq]
  refine ⟨?_, fun hdoor hext hfull hfault => ?_⟩
  · show Host.Outcome.next { requestLevels (powerOnState pins) with pending := s.pending } = _
    rw [requestLevels_eq]
    rfl
  · show Host.Outcome.next { requestLevels (powerOnState pins) with pending := s.pending } = _
    rw [requestLevels_quiet hdoor hext hfull hfault, powerOnState, hfault]
    rfl

/-! ### Inputs of the bins, the door and the external stop (R106, R142) -/

/-- Settles O56: by the level of each input. -/
theorem inputsReportAndRequest : Obligations.InputsReportAndRequest := by
  intro s level
  refine ⟨fun b h => ?full, fun h => ?door, fun h => ?ext⟩
  case full =>
    show Host.Outcome.next (if s.pins.binFull.get b = level then s else binFullChange b level s) = _
    rw [if_neg h, binFullChange]
  case door =>
    show Host.Outcome.next (if s.pins.door = level then s
      else raiseIf level .door { s with pins := { s.pins with door := level } }) = _
    rw [if_neg h, raiseIf]
  case ext =>
    show Host.Outcome.next (if s.pins.extStop = level then s
      else raiseIf level .extStop { s with pins := { s.pins with extStop := level } }) = _
    rw [if_neg h, raiseIf]

/-! ### The end of a frame's sending (R173, R176, R178) -/

theorem lostDue_iff (l : Link) :
    lostDue l = true ↔ (0 < l.reportsLost ∨ 0 < l.tracesLost ∨ 0 < l.eventsLost) ∧ sharedUsed l + 16 ≤ 60 := by
  have hroom : Config.lostNoticeRoom ≤ sharedFree l ↔ sharedUsed l + 16 ≤ 60 := by
    rw [sharedFree]
    show 16 ≤ 60 - _ ↔ _
    omega
  rw [lostDue, Bool.and_eq_true, decide_eq_true_iff, decide_eq_true_iff, hroom]

theorem testLost_cases (s : State) :
    testLost s = { s with link :=
      if (0 < s.link.reportsLost ∨ 0 < s.link.tracesLost ∨ 0 < s.link.eventsLost) ∧ sharedUsed s.link + 16 ≤ 60 then
        { s.link with
          outbound := s.link.outbound ++
            [.notice (.lost s.link.reportsLost s.link.tracesLost s.link.eventsLost s.uptime)]
          reportsLost := 0
          tracesLost := 0
          eventsLost := 0 }
      else s.link } := by
  by_cases hdue : lostDue s.link = true
  · rw [testLost, if_pos hdue, if_pos ((lostDue_iff _).mp hdue)]
  · rw [testLost, if_neg hdue, if_neg (mt (lostDue_iff _).mpr hdue)]

/-- Settles O13: the frame leaves, and the LOST test is the one of the link's queue without it. -/
theorem frameSentFreesSlot : Obligations.FrameSentFreesSlot := by
  intro f rest s hout hreset
  have hsending : transmitting s.link = true := by simp [transmitting, hout, hreset]
  have hstep : frameSentStep s = testLost { s with link := { s.link with
      outbound := rest, line := lineBytes f, reset := phaseAfter f s.link.reset } } := by
    unfold frameSentStep
    rw [hout]
    exact if_pos hsending
  show Host.Outcome.next (frameSentStep s) = _
  rw [hstep, testLost_cases]
  rfl

end Sys2Proof.Proofs
end

section
/-! PROOFS. The receiver (R168 to R170): what a candidate whole in reception comes to, what the hunt finds behind it,
and from these a frame heard byte by byte and each fault of R169. -/

namespace Sys2Proof.Proofs

open Sys2Proof.Machine Sys2Proof.Safety Sys2Proof.Laws

/-! ### Candidates (R167, R168) -/

/-- Two bytes are those of a 16-bit number exactly if they read as it. -/
theorem pair_eq_word16 (hi lo : Byte) (x : U16) : [hi, lo] = word16 x ↔ beNat [hi, lo] = x.toNat := by
  constructor
  · intro h
    rw [h, word16, beNat_u16 x.isLt]
  · intro h
    have hsum : 256 * hi.toNat + lo.toNat = x.toNat := by simpa [beNat] using h
    have hlo := lo.isLt
    have h1 : BitVec.ofNat 8 (x.toNat / 256) = hi := BitVec.eq_of_toNat_eq (by rw [BitVec.toNat_ofNat]; omega)
    have h2 : BitVec.ofNat 8 x.toNat = lo := BitVec.eq_of_toNat_eq (by rw [BitVec.toNat_ofNat]; omega)
    rw [word16, u16, h1, h2]

/-- A LEN out of range fails the candidate, whatever follows it. -/
theorem candidate_oversize {hi lo : Byte} (rest : List Byte)
    (h : 256 * hi.toNat + lo.toNat < 2 ∨ 256 < 256 * hi.toNat + lo.toNat) :
    candidate (hi :: lo :: rest) = .oversize := by
  have hlen : beNat [hi, lo] < Config.minBody ∨ Config.maxBody < beNat [hi, lo] := by simpa [beNat] using h
  exact if_pos hlen

/-- A candidate of a LEN in range, its body and two check bytes is judged by its check. -/
theorem candidate_whole {code tag hi lo : Byte} {payload : List Byte} (hlen : payload.length ≤ 254) :
    candidate (u16 (payload.length + 2) ++ (code :: tag :: payload) ++ [hi, lo]) =
      if [hi, lo] = word16 (crc (u16 (payload.length + 2) ++ code :: tag :: payload)) then
        .valid ⟨code, tag, payload⟩ (payload.length + 6)
      else .bad := by
  have hread : beNat (u16 (payload.length + 2)) = payload.length + 2 := beNat_u16 (by omega)
  have htake : (code :: tag :: payload ++ [hi, lo]).take (payload.length + 2) = code :: tag :: payload :=
    List.take_left' rfl
  have hdrop : (code :: tag :: payload ++ [hi, lo]).drop (payload.length + 2) = [hi, lo] := List.drop_left' rfl
  have hrange : ¬(payload.length + 2 < Config.minBody ∨ Config.maxBody < payload.length + 2) := by
    simp only [Config.minBody, Config.maxBody]
    omega
  have hwhole : ¬(code :: tag :: payload ++ [hi, lo]).length < payload.length + 2 + 2 := by simp
  rw [u16] at hread ⊢
  simp only [List.cons_append, List.nil_append] at htake hdrop hwhole ⊢
  simp only [candidate, hread, if_neg hrange, if_neg hwhole, htake, hdrop, List.take_succ_cons, List.take_zero,
    ← pair_eq_word16]

/-- A body of the range has a CODE, a TAG and a payload. -/
theorem exists_payload {body : List Byte} (h2 : 2 ≤ body.length) (h256 : body.length ≤ 256) :
    ∃ code tag payload, body = code :: tag :: payload ∧ body.length = payload.length + 2 ∧ payload.length ≤ 254 := by
  match body, h2, h256 with
  | code :: tag :: payload, _, h256 => exact ⟨code, tag, payload, rfl, rfl, by simp at h256; omega⟩

/-! ### The hunt (R168) -/

/-- Bytes other than SYNC are passed over. -/
theorem hunt_quiet {bs : List Byte} (h : ∀ b ∈ bs, b ≠ 0xA5) : hunt 0 bs = ([], none) := by
  induction bs with
  | nil => rfl
  | cons b bs ih =>
    obtain ⟨hb, hbs⟩ := List.forall_mem_cons.mp h
    rw [hunt, if_neg (by exact hb), ih hbs]

/-- The bytes of a frame already taken are passed over. -/
theorem hunt_taken (bs : List Byte) : hunt bs.length bs = ([], none) := by
  induction bs with
  | nil => rfl
  | cons b bs ih => exact ih

/-- A valid candidate that takes all the bytes held is the one thing found. -/
theorem hunt_valid {bs : List Byte} {f : InFrame} (h : candidate bs = .valid f bs.length) :
    hunt 0 (Config.sync :: bs) = ([.frame f], none) := by
  simp only [hunt, if_true, h, hunt_taken]

theorem hunt_oversize {bs : List Byte} (h : candidate bs = .oversize) :
    hunt 0 (Config.sync :: bs) = (.oversize :: (hunt 0 bs).1, (hunt 0 bs).2) := by
  simp only [hunt, if_true, h]

theorem hunt_bad {bs : List Byte} (h : candidate bs = .bad) :
    hunt 0 (Config.sync :: bs) = (.bad :: (hunt 0 bs).1, (hunt 0 bs).2) := by
  simp only [hunt, if_true, h]

/-! ### Bytes heard (R168 to R170) -/

/-- A receiver is set to what it is already. -/
theorem receiver_same {s : State} {r : Receiver} (h : s.link.receiver = r) :
    { s with link := { s.link with receiver := r } } = s := by
  subst h
  rfl

/-- Bytes other than SYNC change nothing while hunting. -/
theorem hearBytes_quiet {bs : List Byte} {s : State} (h : s.link.receiver = .hunting) (hq : ∀ b ∈ bs, b ≠ 0xA5) :
    hearBytes bs s = .next s := by
  rw [hearBytes_hunting bs s h, hunt_quiet hq]
  exact congrArg Host.Outcome.next (receiver_same h)

/-- The byte that fails a candidate counts its fault, and the bytes after its SYNC are heard afresh. -/
theorem byteReceived_failed {held : List Byte} {left : Nat} {b : Byte} {s : State} {fault : Heard}
    (hr : s.link.receiver = .inFrame held left)
    (hfault : hunt 0 (Config.sync :: (held ++ [b])) = (fault :: (hunt 0 (held ++ [b])).1, (hunt 0 (held ++ [b])).2)) :
    exec (.byteReceived b) s = hearBytes (held ++ [b])
      { hear s fault with link := { (hear s fault).link with receiver := .hunting } } := by
  have hbytes : bytesToHunt s.link.receiver b = Config.sync :: (held ++ [b]) := by rw [hr]; rfl
  calc exec (.byteReceived b) s = .next (byteStep b s) := rfl
    _ = _ := by
      rw [hearBytes_hunting _ _ rfl, foldl_hear_receiver]
      simp only [byteStep, hbytes, hfault, List.foldl_cons]

/-- The byte that completes a valid candidate hands its frame on, and the receiver hunts. -/
theorem byteReceived_valid {held : List Byte} {left : Nat} {b : Byte} {s : State} {f : InFrame}
    (hr : s.link.receiver = .inFrame held left) (hf : candidate (held ++ [b]) = .valid f (held ++ [b]).length) :
    exec (.byteReceived b) s =
      .next { validFrame f s with link := { (validFrame f s).link with receiver := .hunting } } := by
  have hbytes : bytesToHunt s.link.receiver b = Config.sync :: (held ++ [b]) := by rw [hr]; rfl
  calc exec (.byteReceived b) s = .next (byteStep b s) := rfl
    _ = _ := by simp only [byteStep, hbytes, hunt_valid hf, List.foldl_cons, List.foldl_nil, hear, receiverOf]

/-- A valid frame is buffered while the buffer has room (R170). -/
theorem validFrame_room {f : InFrame} {s : State} (h : s.link.inbound.length < 4) :
    validFrame f s = { s with
      link := { s.link with inbound := s.link.inbound ++ [f] }
      run := { s.run with sinceLink := 0, linkRaised := false, lastValid := s.uptime } } := if_pos h

/-- With four frames buffered a valid frame is counted dropped (R170). -/
theorem validFrame_full {f : InFrame} {s : State} (h : 4 ≤ s.link.inbound.length) :
    validFrame f s = { s with
      link := { s.link with dropped := min 65535 (s.link.dropped + 1) }
      run := { s.run with sinceLink := 0, linkRaised := false, lastValid := s.uptime } } :=
  if_neg (Nat.not_lt.mpr h)

/-- Settles O11: the frame's bytes hunted through together are one valid candidate. -/
theorem frameHeardByteByByte : Obligations.FrameHeardByteByByte := by
  intro code tag payload s hlen hr hroom
  have hcheck : ∃ hi lo, word16 (crc (u16 (payload.length + 2) ++ code :: tag :: payload)) = [hi, lo] := ⟨_, _, rfl⟩
  obtain ⟨hi, lo, hcheck⟩ := hcheck
  have hvalid : candidate (u16 (payload.length + 2) ++ (code :: tag :: payload) ++ [hi, lo]) =
      .valid ⟨code, tag, payload⟩ (u16 (payload.length + 2) ++ (code :: tag :: payload) ++ [hi, lo]).length := by
    rw [candidate_whole hlen, if_pos hcheck.symm]
    simp [u16]
  rw [hearBytes_hunting _ s hr, frameBytes, hcheck, hunt_valid hvalid]
  simp only [List.foldl_cons, List.foldl_nil, hear, validFrame_room hroom, receiverOf]
  rw [← hr]

/-- A LEN out of range is counted, and its bytes are heard afresh (R169). -/
theorem byteReceived_oversize {hi lo : Byte} {left : Nat} {s : State} (hr : s.link.receiver = .inFrame [hi] left)
    (hrange : 256 * hi.toNat + lo.toNat < 2 ∨ 256 < 256 * hi.toNat + lo.toNat) :
    exec (.byteReceived lo) s = hearBytes [hi, lo] { s with link := { s.link with
      receiver := .hunting, oversize := min 65535 (s.link.oversize + 1) } } :=
  byteReceived_failed hr (hunt_oversize (candidate_oversize [] hrange))

/-- A check that disagrees is counted, and the bytes after the SYNC are heard afresh (R168, R169). -/
theorem byteReceived_bad {body : List Byte} {hi lo : Byte} {left : Nat} {s : State} (h2 : 2 ≤ body.length)
    (h256 : body.length ≤ 256) (hr : s.link.receiver = .inFrame (u16 body.length ++ body ++ [hi]) left)
    (hcheck : [hi, lo] ≠ word16 (crc (u16 body.length ++ body))) :
    exec (.byteReceived lo) s = hearBytes (u16 body.length ++ body ++ [hi, lo]) { s with link := { s.link with
      receiver := .hunting, bad := min 65535 (s.link.bad + 1) } } := by
  obtain ⟨code, tag, payload, rfl, hlen, hpayload⟩ := exists_payload h2 h256
  have hbad : candidate (u16 (payload.length + 2) ++ (code :: tag :: payload) ++ [hi] ++ [lo]) = .bad := by
    rw [List.append_assoc _ [hi] [lo], List.singleton_append, candidate_whole hpayload, if_neg (by exact hcheck)]
  rw [byteReceived_failed hr (hunt_bad hbad), List.append_assoc _ [hi] [lo]]
  rfl

/-- Settles O12: a fault by what the hunt finds, a break by the receiver's state. -/
theorem receiverFaultsCounted : Obligations.ReceiverFaultsCounted := by
  refine ⟨⟨fun b s hr hb => ?stray, fun s hr => ?sync, fun hi lo left s hr hhi hlo hrange => ?oversizeQuiet⟩,
    ⟨fun held left s hr => ?broken, fun s hr => ?unbroken⟩,
    fun body hi lo left s h2 h256 hr => ⟨fun hcheck hq => ?badQuiet, fun hcheck hfull => ?dropped⟩,
    fun hi lo left s hr hrange => byteReceived_oversize hr hrange,
    fun body hi lo left s h2 h256 hr hcheck => byteReceived_bad h2 h256 hr hcheck⟩
  case stray =>
    have hq : hunt 0 [b] = ([], none) := hunt_quiet (by simpa using hb)
    calc exec (.byteReceived b) s = .next (byteStep b s) := rfl
      _ = _ := by
        rw [byteStep, hr, bytesToHunt, hq]
        exact congrArg Host.Outcome.next (receiver_same hr)
  case sync =>
    calc exec (.byteReceived 0xA5) s = .next (byteStep 0xA5 s) := rfl
      _ = _ := by rw [byteStep, hr]; rfl
  case oversizeQuiet => rw [byteReceived_oversize hr hrange,
      hearBytes_quiet rfl (List.forall_mem_cons.mpr ⟨hhi, List.forall_mem_singleton.mpr hlo⟩)]
  case broken =>
    refine ⟨?_, ?_⟩
    · calc exec .interByteTimeout s = execInterByteTimeout s := rfl
        _ = _ := by rw [execInterByteTimeout, hr]; rfl
    · calc exec .lineBreak s = execLineBreak s := rfl
        _ = _ := by rw [execLineBreak, hr]; rfl
  case unbroken =>
    refine ⟨?_, ?_⟩
    · calc exec .lineBreak s = execLineBreak s := rfl
        _ = _ := by rw [execLineBreak, hr]
    · calc exec .interByteTimeout s = execInterByteTimeout s := rfl
        _ = _ := by rw [execInterByteTimeout, hr]
  case badQuiet => rw [byteReceived_bad h2 h256 hr hcheck, hearBytes_quiet rfl hq]
  case dropped =>
    obtain ⟨code, tag, payload, rfl, hlen, hpayload⟩ := exists_payload h2 h256
    have hvalid : candidate (u16 (payload.length + 2) ++ (code :: tag :: payload) ++ [hi] ++ [lo]) =
        .valid ⟨code, tag, payload⟩ (u16 (payload.length + 2) ++ (code :: tag :: payload) ++ [hi] ++ [lo]).length := by
      rw [List.append_assoc _ [hi] [lo], List.singleton_append, candidate_whole hpayload, if_pos (by exact hcheck)]
      simp [u16]
    rw [byteReceived_valid hr hvalid, validFrame_full hfull]

end Sys2Proof.Proofs
end

section
/-! PROOFS. The gate controller (R67 to R81): the path request, the switch at its due, and the ends of a confirm and of
a gate exercise. -/

namespace Sys2Proof.Proofs

open Sys2Proof.Machine Sys2Proof.Safety

/-- A write to the ticket of a number is a write to the letter table alone. -/
theorem setTicket_eq_withTable (n : U16) (f : Ticket → Ticket) (s : State) :
    setTicket n f s = withTable (rewrite n f s.tracker.table) s := rfl

/-- A posting is a change of both tally sets (R122). -/
theorem post_eq_inBothSets (c : Counter) (s : State) : post c s = inBothSets (bump c) s := rfl

/-! ### The ends of a confirm and of a gate exercise (R73, R75, R78) -/

theorem endConfirm_none {s : State} (h : s.gate.confirm = none) : endConfirm s = s := by
  rw [endConfirm, h]

theorem endConfirm_read {s : State} {c : Confirm} (h : s.gate.confirm = some c)
    (hread : gateReads s.pins c.target = true) :
    endConfirm s = { s with gate := { s.gate with confirm := none } } := by
  unfold endConfirm
  rw [h]
  exact if_pos hread

theorem endConfirm_unread {s : State} {c : Confirm} (h : s.gate.confirm = some c)
    (hread : gateReads s.pins c.target = false) :
    endConfirm s = raiseCause .actuator (.actuator (.gate c.target)) (some c.ticket) .request
      (withTable (rewrite c.ticket (fun u => { u with gateUnconfirmed := true }) s.tracker.table)
        { s with gate := { s.gate with confirm := none } }) := by
  unfold endConfirm
  rw [h]
  exact if_neg (ne_true_of_eq_false hread)

theorem endGateExercise_none {s : State} (h : exerciseReplyDue s.gate = false) : endGateExercise s = s := by
  unfold endGateExercise
  split
  next heq => simp [exerciseReplyDue, heq] at h
  next => rfl

theorem endGateExercise_some {s : State} {p : Path} {left : Nat} {started : U32} {tag : Byte}
    (h : s.gate.exercise = some (.gate p left started tag)) :
    endGateExercise s = { s with
      gate := { s.gate with exercise := none }
      link := { s.link with outbound := s.link.outbound ++ [.reply 0x38 tag
        (if gateReads s.pins p then .ok (u8 (pathNumber p) ++ u8 (s.uptime - started).toNat)
          else .refused .actuatorTimeout)] } } := by
  unfold endGateExercise
  simp only [h]
  split <;> rfl

/-! ### The path request (R69 to R71) -/

theorem gateGapOk_iff (g : Geometry) (gap : Option Nat) :
    gateGapOk g gap = true ↔ ∀ n ∈ gap, g.gateClear + g.gateLead ≤ n := by
  cases gap <;> simp [gateGapOk]

theorem switchFeasible_iff (s : State) (y : Ticket) :
    switchFeasible s y = true ↔
      (∀ n ∈ y.gap, s.tracker.geometry.gateClear + s.tracker.geometry.gateLead ≤ n) ∧ s.gate.queue.length < 8 := by
  rw [switchFeasible, Bool.and_eq_true, gateGapOk_iff, decide_eq_true_iff]

/-- The path request writes its answer and queues its switch. -/
theorem pathRequest_eq {s : State} {y : Ticket} {q : ReqPath} {p : Path} {forced : Bool} {queued : Option Path}
    (ha : pathAnswer s y q = (p, forced)) (hq : switchQueued s y q = queued) :
    pathRequest y q s = postIf forced .pathForced
      (withTable (rewrite y.number (fun x => { x with taken := some p, pathForced := forced }) s.tracker.table)
        { s with gate := { s.gate with queue := s.gate.queue ++
          (queued.map (gateEntryFor s.tracker.geometry y)).toList } }) := by
  unfold pathRequest
  rw [ha, hq]
  cases queued
  case none =>
    rw [Option.map_none, Option.toList_none, List.append_nil]
    rfl
  case some p => rfl

/-- A request for no path or for the planned one takes the planned position. -/
theorem pathAnswer_planned {s : State} {y : Ticket} {q : ReqPath}
    (h : ∀ p, pathWanted q = some p → p = plannedGate s.gate) :
    pathAnswer s y q = (plannedGate s.gate, false) ∧ switchQueued s y q = none := by
  unfold pathAnswer switchQueued
  cases hq : pathWanted q with
  | none => exact ⟨rfl, rfl⟩
  | some p =>
    have hp := h p hq
    exact ⟨by simp [hp], by simp [hp]⟩

/-- A request for the other path takes it where the switch is feasible, and queues the switch. -/
theorem pathAnswer_feasible {s : State} {y : Ticket} {q : ReqPath} {p : Path} (hq : pathWanted q = some p)
    (hp : p ≠ plannedGate s.gate) (hf : switchFeasible s y = true) :
    pathAnswer s y q = (p, false) ∧ switchQueued s y q = some p := by
  simp [pathAnswer, switchQueued, hq, hp, hf]

/-- Where the switch is not feasible the ticket is forced onto the planned path. -/
theorem pathAnswer_forced {s : State} {y : Ticket} {q : ReqPath} {p : Path} (hq : pathWanted q = some p)
    (hp : p ≠ plannedGate s.gate) (hf : ¬switchFeasible s y = true) :
    pathAnswer s y q = (plannedGate s.gate, true) ∧ switchQueued s y q = none := by
  simp [pathAnswer, switchQueued, hq, hp, hf]

/-- Settles O48: the switch by its queue and due, the two ends by what they end, the path request by the path asked
for and the feasibility of a switch. -/
theorem gateSwitchesAtDue : Obligations.GateSwitchesAtDue := by
  refine ⟨fun s e rest hq hdue => ?due, fun s => endConfirm_none, fun s c => endConfirm_read,
    fun s c => endConfirm_unread, fun s => endGateExercise_none, fun s p left started tag => endGateExercise_some,
    fun s y q => ⟨fun h => ?planned, fun p hq hp => ⟨fun hgap hroom => ?switched, fun h => ?forced⟩⟩⟩
  case due =>
    show Host.Outcome.next (gateDueStep s) = _
    unfold gateDueStep
    rw [hq]
    exact congrArg Host.Outcome.next (if_pos hdue)
  case planned =>
    have hw : ∀ p, pathWanted q = some p → p = plannedGate s.gate := by
      rcases h with rfl | ⟨rfl, h⟩ | ⟨rfl, h⟩
      · exact fun p hp => absurd hp (by simp [pathWanted])
      · exact fun p hp => by rw [h, ← Option.some.inj hp]
      · exact fun p hp => by rw [h, ← Option.some.inj hp]
    obtain ⟨ha, hnone⟩ := pathAnswer_planned (y := y) hw
    refine ⟨ha, ?_⟩
    rw [pathRequest_eq ha hnone, Option.map_none, Option.toList_none, List.append_nil]
    rfl
  case switched =>
    have hw : pathWanted q = some p := by rcases hq with ⟨rfl, rfl⟩ | ⟨rfl, rfl⟩ <;> rfl
    obtain ⟨ha, hsome⟩ := pathAnswer_feasible hw hp ((switchFeasible_iff s y).mpr ⟨hgap, hroom⟩)
    exact ⟨ha, by rw [pathRequest_eq ha hsome]; rfl⟩
  case forced =>
    have hw : pathWanted q = some p := by rcases hq with ⟨rfl, rfl⟩ | ⟨rfl, rfl⟩ <;> rfl
    have hf : ¬switchFeasible s y = true := by
      rw [switchFeasible_iff]
      rintro ⟨hgap, hroom⟩
      exact h.elim (fun hn => hn hgap) (Nat.not_le.mpr hroom)
    obtain ⟨ha, hnone⟩ := pathAnswer_forced hw hp hf
    refine ⟨ha, ?_⟩
    rw [pathRequest_eq ha hnone, Option.map_none, Option.toList_none, List.append_nil]
    rfl

/-! ### The confirm input and the timers (R73, R75, R78) -/

theorem confirmIfRead_none {s : State} (h : s.gate.confirm = none) : confirmIfRead s = s := by
  rw [confirmIfRead, h]

theorem confirmIfRead_some {s : State} {c : Confirm} (h : s.gate.confirm = some c) :
    confirmIfRead s = if gateReads s.pins c.target then endConfirm s else s := by
  rw [confirmIfRead, h]

theorem exerciseIfRead_none {s : State} (h : exerciseReplyDue s.gate = false) : exerciseIfRead s = s := by
  unfold exerciseIfRead
  split
  next heq => simp [exerciseReplyDue, heq] at h
  next => rfl

theorem exerciseIfRead_some {s : State} {p : Path} {left : Nat} {started : U32} {tag : Byte}
    (h : s.gate.exercise = some (.gate p left started tag)) :
    exerciseIfRead s = if gateReads s.pins p then endGateExercise s else s := by
  simp only [exerciseIfRead, h]

/-- The state with the gate confirm input at a level. -/
def withConfirmInput (level : Bool) (s : State) : State := { s with pins := { s.pins with gateConfirm := level } }

/-- A change of the confirm input ends first the confirm, then the gate exercise, whose target it reads. -/
theorem exec_gateConfirmInput_changed {s : State} {level : Bool} (h : s.pins.gateConfirm ≠ level) :
    exec (.gateConfirmInput level) s =
      .next (exerciseIfRead (confirmIfRead (withConfirmInput level s))) :=
  congrArg Host.Outcome.next ((if_neg h).trans (gateConfirmChange_eq level s))

/-- Settles O49: the input by the confirm and the exercise in progress, each timer by what it ends. -/
theorem gateConfirmEnds : Obligations.GateConfirmEnds := by
  refine ⟨fun s level => ⟨fun h => ?stays, fun h hex hread => ?done, fun h hex hread => ?goesOn,
    fun p left started tag h hnone hex => ?exercise⟩, fun s c h => ?confirmTimeout,
    fun s p left started tag h => ?exerciseTimeout⟩
  case stays => exact congrArg Host.Outcome.next (if_pos h)
  case done =>
    rw [exec_gateConfirmInput_changed h]
    cases hc : s.gate.confirm with
    | none =>
      rw [confirmIfRead_none (s := withConfirmInput level s) hc,
        exerciseIfRead_none (s := withConfirmInput level s) hex, withConfirmInput, ← hc]
    | some c =>
      have hr : gateReads (withConfirmInput level s).pins c.target = true := hread c hc
      rw [confirmIfRead_some (s := withConfirmInput level s) hc, if_pos hr,
        endConfirm_read (s := withConfirmInput level s) hc hr, exerciseIfRead_none (by exact hex)]
      rfl
  case goesOn =>
    obtain ⟨c, hc, hr⟩ := hread
    rw [exec_gateConfirmInput_changed h, confirmIfRead_some (s := withConfirmInput level s) hc,
      if_neg (by exact ne_true_of_eq_false hr), exerciseIfRead_none (s := withConfirmInput level s) hex,
      withConfirmInput]
  case exercise =>
    rw [exec_gateConfirmInput_changed h, confirmIfRead_none (s := withConfirmInput level s) hnone,
      exerciseIfRead_some (s := withConfirmInput level s) hex]
    rfl
  case confirmTimeout =>
    show execGateConfirmTimeout s = _
    rw [execGateConfirmTimeout, h]
  case exerciseTimeout =>
    show execGateExerciseTimeout s = _
    simp only [execGateExerciseTimeout, h]

end Sys2Proof.Proofs
end

section
/-! PROOFS. The cancel heads (R89 to R99): the strike plan, the strikes at the head line, the recharge, and the head
fault inputs. -/

namespace Sys2Proof.Proofs

open Sys2Proof.Machine Sys2Proof.Safety

/-! ### What is counted (R122) -/

theorem posted_refl (s : State) : Posted [] s s :=
  ⟨fun c => by simp, rfl⟩

/-- A counter posted after others, and not among them, is counted with them. -/
theorem posted_post {cs : List Counter} {s t : State} {c : Counter} (h : Posted cs s t) (hc : c ∉ cs) :
    Posted (c :: cs) s (post c t) := by
  obtain ⟨hcount, hunit⟩ := h
  refine ⟨fun d => ?_, ?_⟩
  · obtain ⟨hlife, hshift⟩ := hcount d
    by_cases hd : d = c
    · subst hd
      simp [hlife, hshift, hc]
    · simp [hlife, hshift, hd]
  · calc (post c t).tally
        = { t.tally with life := bump c t.tally.life, shift := bump c t.tally.shift } := rfl
      _ = { s.tally with life := bump c t.tally.life, shift := bump c t.tally.shift } := by rw [hunit]

/-- What is counted goes by the tally unit alone. -/
theorem posted_of_tally {cs : List Counter} {s t u : State} (h : Posted cs s t) (htally : u.tally = t.tally) :
    Posted cs s u := by
  rw [Posted, htally]
  exact h

/-- What is counted goes by which counters are in the list. -/
theorem posted_of_mem {cs ds : List Counter} {s t : State} (h : Posted cs s t) (hmem : ∀ c, c ∈ ds ↔ c ∈ cs) :
    Posted ds s t := by
  simpa only [Posted, hmem] using h

/-! ### The band and the plan (R90 to R93) -/

/-- A plate slot kept exactly with a postmark of some length, and no length without an active plate. -/
theorem slot_of_length {active : Option Slot} {n : Nat} (h : active = none → n = 0) :
    (0 < n ↔ (if 0 < n then active else none) ≠ none) ∧
      ((if 0 < n then active else none) ≠ none → (if 0 < n then active else none) = active) := by
  by_cases hn : 0 < n
  · have hactive : active ≠ none := fun h' => Nat.ne_of_gt hn (h h')
    simp [hn, hactive]
  · simp [hn]

/-- A band lies on the letter with its clearances, and its postmark in the record's length (R90, R91). -/
theorem planStrike_band {r : CancelRecord} {active : Option Slot} {ms me len : Nat} {b : Band}
    (h : (planStrike r active ms me len).band = some b) :
    r.clearance ≤ b.start ∧ b.start < b.stop ∧ b.stop + r.clearance ≤ len ∧ b.pmLength ≤ r.postmark ∧
      (0 < b.pmLength ↔ b.slot ≠ none) ∧ (b.slot ≠ none → b.slot = active) := by
  simp only [planStrike] at h
  split at h
  next => cases h
  next hlines =>
    injection h with h
    subst h
    have hslot : active = none → (if active.isNone = true then 0 else r.postmark) = 0 := fun h => by rw [h]; rfl
    have hpost : (if active.isNone = true then 0 else r.postmark) ≤ r.postmark := by split <;> omega
    generalize (if active.isNone = true then 0 else r.postmark) = pm at *
    simp only [Bool.and_eq_true, Bool.not_eq_true', decide_eq_true_eq, decide_eq_false_iff_not] at *
    have hslot' := fun room : Int => slot_of_length (active := active) (n := min pm room.toNat)
      fun h => by rw [hslot h, Nat.zero_min]
    refine ⟨?_, ?_, ?_, ?_, (hslot' _).1, (hslot' _).2⟩
    all_goals (split_ifs at * <;> omega)

/-- Two writes to the ticket of a number are one, where the first keeps the number. -/
theorem setTicket_setTicket {n : U16} {f g : Ticket → Ticket} (hf : ∀ t, (f t).number = t.number) (s : State) :
    setTicket n g (setTicket n f s) = setTicket n (fun t => g (f t)) s := by
  have htable : rewrite n g (rewrite n f s.tracker.table) = rewrite n (fun t => g (f t)) s.tracker.table := by
    rw [rewrite, rewrite, rewrite, List.map_map]
    refine List.map_congr_left fun t _ => ?_
    by_cases ht : t.number = n
    · simp [ht, hf]
    · simp [ht]
  calc setTicket n g (setTicket n f s) = withTable (rewrite n g (rewrite n f s.tracker.table)) s := rfl
    _ = setTicket n (fun t => g (f t)) s := by rw [htable, setTicket_eq_withTable]

/-- The plan of a ticket without a band, or before a full queue, is MISSED (R92, R93). -/
theorem planFor_missed {y : Ticket} {h : Head} {ms len letter : Nat} {s : State} {p : StrikePlan}
    (hp : planStrike s.cancel.record s.cancel.active ms (ms + len) letter = p)
    (hm : p.band = none ∨ 8 ≤ (s.cancel.heads.get h).queue.length) :
    planFor y h ms len letter s = missStrike y.number h (setTicket y.number
      (fun u => { u with band := p.band, pmShort := p.pmShort, noPostmark := p.noPostmark }) s) := by
  unfold planFor
  rw [hp]
  dsimp only
  split
  next => rfl
  next b hb => exact if_pos (hm.resolve_left (by simp [hb]))

/-- The plan of a ticket with a band and room in the queue is PENDING with an entry queued (R92). -/
theorem planFor_pending {y : Ticket} {h : Head} {ms len letter : Nat} {s : State} {p : StrikePlan} {b : Band}
    (hp : planStrike s.cancel.record s.cancel.active ms (ms + len) letter = p) (hb : p.band = some b)
    (hroom : (s.cancel.heads.get h).queue.length < 8) :
    planFor y h ms len letter s =
      setHead h (fun u => { u with queue := insertStrike (strikeEntryFor s.tracker.geometry y b ms) u.queue })
        (setTicket y.number (fun u => { u with strike := some .pending }) (setTicket y.number
          (fun u => { u with band := p.band, pmShort := p.pmShort, noPostmark := p.noPostmark }) s)) := by
  unfold planFor
  rw [hp]
  dsimp only
  split
  next hnone => rw [hb] at hnone; cases hnone
  next b' hb' =>
    obtain rfl : b' = b := Option.some.inj (hb'.symm.trans hb)
    exact if_neg (Nat.not_le.mpr hroom)

/-- A position a number of steps after the head line, and then a number of steps more. -/
theorem stepsOn_add (p : Pos) (m n : Nat) : stepsOn p (m + n) = p + BitVec.ofNat 32 m + BitVec.ofNat 32 n := by
  rw [stepsOn, BitVec.ofNat_add, BitVec.add_assoc]

/-- Settles O50: the band by its arithmetic, the plan by its band and the room in its head's queue. -/
theorem strikeBandOnLetter : Obligations.StrikeBandOnLetter := by
  refine ⟨fun r active ms me len b => planStrike_band, fun y h ms len letter s => ?plan⟩
  case plan =>
    intro p u planned
    refine ⟨fun hm => ?missed, fun b hb hroom => ?pending⟩
    case missed => exact planFor_missed rfl hm
    case pending =>
      obtain ⟨ahead, behind, hq, hins, hahead, hbehind⟩ :=
        insertStrike_splits (strikeEntryFor s.tracker.geometry y b ms) u.queue
      have hplan : planFor y h ms len letter s = planned (some .pending) { s with cancel := { s.cancel with
          heads := s.cancel.heads.set h { u with
            queue := ahead ++ strikeEntryFor s.tracker.geometry y b ms :: behind } } } := by
        rw [planFor_pending rfl hb hroom, setTicket_setTicket (by exact fun _ => rfl), ← hins]
        rfl
      rw [strikeEntryFor, stepsOn_add, stepsOn_add, stepsOn_add] at hahead hbehind hplan
      exact ⟨ahead, behind, hq, hahead, hbehind, hplan⟩

end Sys2Proof.Proofs
end

section
/-! PROOFS. The strikes at the head line (R93 to R99) and the head fault inputs (R95). -/

namespace Sys2Proof.Proofs

open Sys2Proof.Machine Sys2Proof.Safety

/-! ### A strike begins (R96, R98) -/

/-- The head unit of a strike begun with an entry (R96). -/
def struckHead (k : Cancel) (e : StrikeEntry) (rest : List StrikeEntry) : HeadUnit where
  state := .striking (.letter e.ticket e.stop e.slot)
  queue := rest
  waiting := false
  handed := some (printOf k e)

/-- A strike begun writes its ticket and its head, counts STRIKES, and LATE where its entry waited, and makes an
impression. -/
theorem beginStrike_eq {h : Head} {e : StrikeEntry} {rest : List StrikeEntry} {late : Bool} {s : State}
    (hq : (s.cancel.heads.get h).queue = e :: rest) :
    beginStrike h e late s =
      impress e.slot (postIf late (.late h) (post (.strikes h) (setTicket e.ticket
        (fun t => { t with strike := some (if late then .late else .struck) })
        { s with cancel := { s.cancel with heads := s.cancel.heads.set h (struckHead s.cancel e rest) } }))) := by
  have hhead : setHead h (fun u => { u with
        state := .striking (.letter e.ticket e.stop e.slot)
        handed := some (printOf s.cancel e) }) (dropEntry h s) =
      { s with cancel := { s.cancel with heads := s.cancel.heads.set h (struckHead s.cancel e rest) } } := by
    simp [setHead, dropEntry, struckHead, hq]
  rw [beginStrike, hhead]

theorem impress_none (s : State) : impress none s = s := rfl

theorem impress_some (p : Slot) (s : State) :
    impress (some p) s = post (.impressions p) { s with cancel := { s.cancel with
      slots := s.cancel.slots.set p { s.cancel.slots.get p with
        impressions := (s.cancel.slots.get p).impressions + 1 } } } := rfl

/-- An impression changes the slots and the tallies alone. -/
theorem impress_eq (slot : Option Slot) (s : State) :
    impress slot s = { s with
      cancel := { s.cancel with slots := (impress slot s).cancel.slots }
      tally := (impress slot s).tally } := by
  cases slot <;> rfl

@[simp] theorem impress_heads (slot : Option Slot) (s : State) :
    (impress slot s).cancel.heads = s.cancel.heads := by
  cases slot <;> rfl

/-- What an impression makes of the tally unit goes by the tally unit alone. -/
theorem impress_tally {s t : State} (slot : Option Slot) (h : t.tally = s.tally) :
    (impress slot t).tally = (impress slot s).tally := by
  cases slot with
  | none => exact h
  | some p =>
    rw [impress_some, impress_some, post, post, h]

/-- The impression of a strike is counted for its slot, and changes nothing else but that slot's count (R85). -/
theorem impress_posted {slot : Option Slot} {cs : List Counter} {s t : State} (h : Posted cs s t)
    (hc : ∀ p, Counter.impressions p ∉ cs) :
    Posted (cs ++ (slot.map Counter.impressions).toList) s (impress slot t) := by
  cases slot with
  | none => exact posted_of_mem h (by simp)
  | some p =>
    rw [impress_some]
    exact posted_of_mem (posted_post (posted_of_tally h rfl) (hc p)) (by simp [or_comm])

/-! ### MISSED (R93, R64) -/

theorem handCancelled_eq (o : LetterOutcome) :
    handCancelled o =
      if o = .facedA ∨ o = .facedB ∨ o = .turnedToA ∨ o = .turnedToB then .handCancel else o := by
  cases o <;> rfl

/-- A strike missed of a ticket gone from the table changes nothing. -/
theorem missStrike_gone {n : U16} {h : Head} {s : State} (hn : ticketOf s n = none) : missStrike n h s = s := by
  simp [missStrike, hn]

/-- A strike missed of a ticket of the table writes its result and outcome, and is counted. -/
theorem missStrike_present {n : U16} {h : Head} {s : State} {y : Ticket} (hn : ticketOf s n = some y) :
    missStrike n h s = post (.missed h) (setTicket n
      (fun t => { t with strike := some .missed, outcome := t.outcome.map handCancelled }) s) := by
  simp [missStrike, hn]

/-! ### STRIKE_START and STRIKE_DEADLINE (R96 to R98) -/

/-- The start of the oldest entry, reached, is judged by its head's state. -/
theorem strikeStartStep_reached {h : Head} {e : StrikeEntry} {rest : List StrikeEntry} {s : State}
    (hq : (s.cancel.heads.get h).queue = e :: rest) (hstart : reached s.tracker.belt e.start = true)
    (hwait : (s.cancel.heads.get h).waiting = false) :
    ((s.cancel.heads.get h).state = .ready → strikeStartStep h s = beginStrike h e false s) ∧
    ((s.cancel.heads.get h).state = .disabled → strikeStartStep h s = missStrike e.ticket h (dropEntry h s)) ∧
    ((s.cancel.heads.get h).state ≠ .ready → (s.cancel.heads.get h).state ≠ .disabled →
      strikeStartStep h s = if after e.deadline e.start then setHead h (fun u => { u with waiting := true }) s
        else missStrike e.ticket h (dropEntry h s)) := by
  have hgo : ¬((s.cancel.heads.get h).waiting || !reached s.tracker.belt e.start) = true := by simp [hwait, hstart]
  unfold strikeStartStep
  simp only [hq, if_neg hgo]
  refine ⟨fun hs => by rw [hs], fun hs => by rw [hs], fun hready hdisabled => ?_⟩
  cases hs : (s.cancel.heads.get h).state with
  | ready => exact absurd hs hready
  | disabled => exact absurd hs hdisabled
  | striking => rfl
  | recharging => rfl

/-- A waiting entry whose deadline is reached with its head not READY is MISSED. -/
theorem strikeDeadlineStep_reached {h : Head} {e : StrikeEntry} {rest : List StrikeEntry} {s : State}
    (hq : (s.cancel.heads.get h).queue = e :: rest) (hdeadline : reached s.tracker.belt e.deadline = true)
    (hwait : (s.cancel.heads.get h).waiting = true) (hstate : (s.cancel.heads.get h).state ≠ .ready) :
    strikeDeadlineStep h s = missStrike e.ticket h (dropEntry h s) := by
  unfold strikeDeadlineStep
  simp only [hq]
  exact if_pos (by simp [hdeadline, hwait, hstate])

/-- The oldest entry of a queue leaves it. -/
theorem dropEntry_eq {h : Head} {e : StrikeEntry} {rest : List StrikeEntry} {s : State}
    (hq : (s.cancel.heads.get h).queue = e :: rest) :
    dropEntry h s = { s with cancel := { s.cancel with
      heads := s.cancel.heads.set h { s.cancel.heads.get h with queue := rest, waiting := false } } } := by
  rw [dropEntry, setHead, hq, List.tail_cons]

/-- Settles O51: the start by the head's state and the entry's deadline, and MISSED by the ticket it finds. -/
theorem strikeStartsWaitsOrMisses : Obligations.StrikeStartsWaitsOrMisses := by
  refine ⟨fun s h e rest hq => ⟨fun hstart hwait => ?start, fun hdeadline hwait hstate => ?deadline⟩,
    fun n h s => ⟨missStrike_gone, fun y hy => ?present⟩⟩
  case start =>
    obtain ⟨hready, hdisabled, hbusy⟩ := strikeStartStep_reached hq hstart hwait
    refine ⟨fun hs => ?begins, fun hs => ?disabled, fun h1 h2 hlater => ?waits, fun h1 h2 hlater => ?misses⟩
    case begins =>
      refine ⟨beginStrike h e false s, congrArg Host.Outcome.next (hready hs), ?_⟩
      rw [beginStrike_eq hq]
      have hbegun := posted_post (posted_refl s) (c := .strikes h) (List.not_mem_nil)
      cases hslot : e.slot with
      | none =>
        rw [impress_none]
        exact ⟨by simp [struckHead, printOf, postIf, hslot], fun p hp => absurd hp (by simp), fun _ => rfl,
          posted_of_tally hbegun rfl, rfl⟩
      | some p =>
        rw [impress_some]
        refine ⟨by simp [struckHead, printOf, postIf, hslot], fun q hq => ?_, fun hnone => absurd hnone (by simp), ?_, rfl⟩
        · obtain rfl : p = q := Option.some.inj hq
          rfl
        · exact posted_of_mem (posted_post (c := .impressions p) (posted_of_tally hbegun rfl) (by simp)) (by simp [or_comm])
    case disabled => exact congrArg Host.Outcome.next ((hdisabled hs).trans (by rw [dropEntry_eq hq]))
    case waits => exact congrArg Host.Outcome.next ((hbusy h1 h2).trans (if_pos hlater))
    case misses =>
      refine congrArg Host.Outcome.next ((hbusy h1 h2).trans ?_)
      rw [if_neg (ne_true_of_eq_false hlater), dropEntry_eq hq]
  case deadline =>
    refine congrArg Host.Outcome.next ((strikeDeadlineStep_reached hq hdeadline hwait hstate).trans ?_)
    rw [dropEntry_eq hq]
  case present =>
    rw [missStrike_present hy, show handCancelled = _ from funext handCancelled_eq]
    rfl

/-! ### The end of a strike and of a recharge (R80, R94, R98, R99) -/

/-- A head that becomes READY with no entry waiting changes nothing more. -/
theorem becomeReady_idle {h : Head} {s : State} (hwait : (s.cancel.heads.get h).waiting = false) :
    becomeReady h s = setHead h (fun u => { u with state := .ready }) s := by
  unfold becomeReady
  simp only [setHead_cancel_heads, PerHead.get_set, if_true, hwait]
  split <;> rfl

/-- A head that becomes READY begins the strike of an entry that waits. -/
theorem becomeReady_waiting {h : Head} {e : StrikeEntry} {rest : List StrikeEntry} {s : State}
    (hq : (s.cancel.heads.get h).queue = e :: rest) (hwait : (s.cancel.heads.get h).waiting = true) :
    becomeReady h s = beginStrike h e true (setHead h (fun u => { u with state := .ready }) s) := by
  unfold becomeReady
  simp only [setHead_cancel_heads, PerHead.get_set, if_true, hwait, hq]

/-- Settles O52: each end by the head's state; the strike LATE by what a strike begun comes to. -/
theorem strikeEndsAndRecharges : Obligations.StrikeEndsAndRecharges := by
  refine ⟨fun s h n stop slot hs hstop => ?strikeEnd, fun s h left hex hs => ?testEnd,
    fun s h left hs hwait => ?recharged, fun s h left e rest hs hq hwait => ?late⟩
  case strikeEnd =>
    have hstep : strikeEndStep h s = recharge h s := by
      unfold strikeEndStep
      rw [hs]
      exact if_pos hstop
    exact congrArg Host.Outcome.next hstep
  case testEnd =>
    show execTestStrikeEnd s = _
    simp only [execTestStrikeEnd, hex, hs]
    rfl
  case recharged =>
    show execRechargeExpiry h s = _
    simp only [execRechargeExpiry, hs]
    rw [becomeReady_idle (by simpa [advance, headAfter] using hwait)]
    rfl
  case late =>
    have hq' : ((advance left s).cancel.heads.get h).queue = e :: rest := by simpa [advance, headAfter] using hq
    have hwait' : ((advance left s).cancel.heads.get h).waiting = true := by simpa [advance, headAfter] using hwait
    have hexec : exec (.rechargeExpiry h) s = .next (becomeReady h (advance left s)) := by
      show execRechargeExpiry h s = _
      simp only [execRechargeExpiry, hs]
    have hbegun := posted_post (posted_refl s) (c := .strikes h) List.not_mem_nil
    have hlate := posted_post hbegun (c := .late h) (by simp)
    obtain ⟨hcounts, -⟩ := impress_posted (slot := e.slot) hlate (by simp)
    have hstrikes := (hcounts (.strikes h)).1
    have hlates := (hcounts (.late h)).1
    rw [if_pos (by simp)] at hstrikes hlates
    refine ⟨becomeReady h (advance left s), hexec, ?_⟩
    rw [becomeReady_waiting hq' hwait', beginStrike_eq (rest := rest) (by simp [hq'])]
    refine ⟨by simp [struckHead, postIf], by simp [struckHead, postIf], ?_, ?_, ?_⟩
    · refine (congrArg (fun u : Tally => u.life.strikes.get h) (impress_tally e.slot ?_)).trans hstrikes
      rfl
    · refine (congrArg (fun u : Tally => u.life.late.get h) (impress_tally e.slot ?_)).trans hlates
      rfl
    · rw [impress_eq]
      rfl

/-! ### The head fault inputs (R95) -/

/-- The evaluation of the cause table leaves a DISABLED head so: a belt stop cuts strikes alone. -/
theorem evaluate_disabled {s : State} {h : Head} (hs : (s.cancel.heads.get h).state = .disabled) :
    ((evaluate s).cancel.heads.get h).state = .disabled := by
  have hstop : ((evalStop s).cancel.heads.get h).state = .disabled := by
    unfold evalStop
    split
    · simp [beltStop, purgeHead, hs]
    · exact hs
  simpa [evaluate] using hstop

/-- A request of a cause leaves a DISABLED head so. -/
theorem raiseCause_disabled {c : Cause} {d : SourceDetail} {n : Option U16} {why : StopReason} {s : State} {h : Head}
    (hs : (s.cancel.heads.get h).state = .disabled) :
    ((raiseCause c d n why s).cancel.heads.get h).state = .disabled := by
  unfold raiseCause
  dsimp only
  split
  · simpa using hs
  · exact evaluate_disabled (by simpa using hs)

/-- A request of an event cause sets its latch. -/
theorem raiseCause_latch {c : Cause} {d : SourceDetail} {n : Option U16} {why : StopReason} {s : State}
    (hc : isLevel c = false) : ((raiseCause c d n why s).run.causes.get c).latch = true := by
  unfold raiseCause
  dsimp only
  split <;> simp [noteRequest, hc]

/-- The head unit DISABLED (R95): its waiting entry goes. -/
def disabledUnit (u : HeadUnit) : HeadUnit :=
  { u with
    state := .disabled
    queue := if u.waiting then u.queue.tail else u.queue
    waiting := u.waiting && u.queue.isEmpty }

theorem disableHead_heads (h : Head) (s : State) :
    (disableHead h s).cancel.heads = s.cancel.heads.set h (disabledUnit (s.cancel.heads.get h)) := by
  unfold disableHead disabledUnit
  dsimp only
  split
  next e rest hq =>
    cases hw : (s.cancel.heads.get h).waiting <;> simp [hq, hw, setHead, dropEntry]
  next hq =>
    cases hw : (s.cancel.heads.get h).waiting <;> simp [hq, hw, setHead]

theorem disableHead_gate (h : Head) (s : State) :
    (disableHead h s).gate =
      { s.gate with exercise := exerciseCut h (s.cancel.heads.get h).state s.gate.exercise } := by
  unfold disableHead
  dsimp only
  split
  · split <;> simp
  · simp

/-- A strike missed changes the letter table and the tallies alone. -/
theorem missStrike_eq (n : U16) (h : Head) (s : State) :
    missStrike n h s = { s with
      tracker := { s.tracker with table := (missStrike n h s).tracker.table }
      tally := (missStrike n h s).tally } := by
  unfold missStrike
  split <;> rfl

/-- A head disabled changes the heads and the exercise, and with a waiting entry the letter table and the tallies. -/
theorem disableHead_eq (h : Head) (s : State) :
    disableHead h s = { s with
      gate := (disableHead h s).gate
      cancel := { s.cancel with heads := (disableHead h s).cancel.heads }
      tracker := { s.tracker with table := (disableHead h s).tracker.table }
      tally := (disableHead h s).tally } := by
  unfold disableHead
  dsimp only
  split
  · split
    · rw [missStrike_eq]
      rfl
    · rfl
  · rfl

/-- A head disabled with no entry waiting changes its state, and the exercise that its strike was. -/
theorem disableHead_idle {h : Head} {s : State} (hwait : (s.cancel.heads.get h).waiting = false) :
    disableHead h s = { s with
      gate := { s.gate with exercise := exerciseCut h (s.cancel.heads.get h).state s.gate.exercise }
      cancel := { s.cancel with heads := s.cancel.heads.set h { s.cancel.heads.get h with state := .disabled } } } := by
  unfold disableHead
  dsimp only
  split
  · exact (if_neg (ne_true_of_eq_false hwait)).trans rfl
  · rfl

/-- A head brought in line changes the heads and the exercise, and with a waiting entry the letter table and the
tallies. -/
theorem judgeHead_eq (h : Head) (s : State) :
    judgeHead h s = { s with
      gate := (judgeHead h s).gate
      cancel := { s.cancel with heads := (judgeHead h s).cancel.heads }
      tracker := { s.tracker with table := (judgeHead h s).tracker.table }
      tally := (judgeHead h s).tally } := by
  unfold judgeHead
  split
  · split
    · rfl
    · exact disableHead_eq h s
  · split <;> rfl

/-- A barred head is brought to DISABLED. -/
theorem judgeHead_barred {h : Head} {s : State} (hb : headBarred s h = true) :
    ((judgeHead h s).cancel.heads.get h).state = .disabled := by
  unfold judgeHead
  rw [if_pos hb]
  split
  next hd => exact hd
  next => simp [disableHead_heads, disabledUnit]

/-- A table is set to what it holds already. -/
theorem heads_set_same {t : PerHead HeadUnit} {h : Head} {u : HeadUnit} (hu : t.get h = u) : t.set h u = t := by
  subst hu
  cases h <;> rfl

/-- A barred head with no entry waiting changes its state, and the exercise that its strike was. -/
theorem judgeHead_barred_idle {h : Head} {s : State} (hb : headBarred s h = true)
    (hwait : (s.cancel.heads.get h).waiting = false) :
    judgeHead h s = { s with
      gate := { s.gate with exercise := exerciseCut h (s.cancel.heads.get h).state s.gate.exercise }
      cancel := { s.cancel with heads := s.cancel.heads.set h { s.cancel.heads.get h with state := .disabled } } } := by
  unfold judgeHead
  rw [if_pos hb]
  split
  next hd =>
    rw [heads_set_same (u := { s.cancel.heads.get h with state := .disabled }) (by rw [← hd]), hd]
    rfl
  next => exact disableHead_idle hwait

/-- A DISABLED head that nothing bars recharges; one still barred stays as it is. -/
theorem judgeHead_free {h : Head} {s : State} (hb : headBarred s h = false)
    (hd : (s.cancel.heads.get h).state = .disabled) : judgeHead h s = recharge h s := by
  rw [judgeHead, if_neg (ne_true_of_eq_false hb), if_pos hd]

theorem judgeHead_still {h : Head} {s : State} (hb : headBarred s h = true)
    (hd : (s.cancel.heads.get h).state = .disabled) : judgeHead h s = s := by
  rw [judgeHead, if_pos hb, if_pos hd]

/-- The state with a head fault input at a level. -/
def withHeadFault (h : Head) (level : Bool) (s : State) : State :=
  { s with pins := { s.pins with headFault := s.pins.headFault.set h level } }

/-- A head fault input going active disables its head and raises ACTUATOR. -/
theorem exec_headFault_active {h : Head} {s : State} (hf : s.pins.headFault.get h = false) :
    exec (.headFaultInput h true) s = .next (raiseCause .actuator (.actuator (.head h))
      (strikeTicket (s.cancel.heads.get h).state) .request (judgeHead h (withHeadFault h true s))) := by
  show Host.Outcome.next (if s.pins.headFault.get h = true then s else headFaultChange h true s) = _
  rw [hf, if_neg Bool.false_ne_true]
  rfl

/-- A head fault input going inactive brings its head in line. -/
theorem exec_headFault_inactive {h : Head} {s : State} (hf : s.pins.headFault.get h = true) :
    exec (.headFaultInput h false) s = .next (judgeHead h (withHeadFault h false s)) := by
  show Host.Outcome.next (if s.pins.headFault.get h = false then s else headFaultChange h false s) = _
  rw [hf, if_neg Bool.noConfusion]
  rfl

theorem headBarred_withHeadFault (h : Head) (level : Bool) (s : State) :
    headBarred (withHeadFault h level s) h = (level || !s.cancel.record.enable.get h) := by
  simp [headBarred, withHeadFault]

/-- Settles O53: active by what a barred head comes to and what a request of ACTUATOR keeps, inactive by what still
bars the head. -/
theorem headFaultDisables : Obligations.HeadFaultDisables := by
  refine ⟨fun s h hf => ?active, fun s h hf hon hd => ?free, fun s h hf hoff hd => ?barred⟩
  case active =>
    have hb : headBarred (withHeadFault h true s) h = true := by rw [headBarred_withHeadFault, Bool.true_or]
    refine ⟨_, exec_headFault_active hf, raiseCause_disabled (judgeHead_barred hb), ?_, ?_,
      raiseCause_latch (c := .actuator) rfl, fun hwait => ?_⟩
    · rw [raiseCause_pins, judgeHead_eq]
      rfl
    · rw [raiseCause_run_faults, judgeHead_eq]
      rfl
    · rw [judgeHead_barred_idle hb hwait]
      rfl
  case free =>
    rw [exec_headFault_inactive hf, judgeHead_free (s := withHeadFault h false s) (by simp [headBarred_withHeadFault, hon]) hd]
    rfl
  case barred =>
    rw [exec_headFault_inactive hf, judgeHead_still (s := withHeadFault h false s) (by simp [headBarred_withHeadFault, hoff]) hd]
    rfl

end Sys2Proof.Proofs
end

section
/-! PROOFS. The stacker controller (R103 to R118): the wanted bin and the route, the actions of a route change, the
flap queue, the ends of its pulses, and the settings and the closing of a bin. -/

namespace Sys2Proof.Proofs

open Sys2Proof.Machine Sys2Proof.Safety

/-! ### Flap actions and pulses (R79, R108, R114, R116, R151) -/

/-- An action stands behind the actions due no later and before the first that is due later. -/
theorem insertAction_splits (a : FlapAction) (q : List FlapAction) :
    ∃ ahead behind, q = ahead ++ behind ∧ insertAction a q = ahead ++ a :: behind ∧
      (∀ x ∈ ahead, after x.due a.due = false) ∧ ∀ x ∈ behind.head?, after x.due a.due = true := by
  induction q with
  | nil => exact ⟨[], [], rfl, rfl, nofun, nofun⟩
  | cons x q ih =>
    by_cases h : after x.due a.due = true
    · exact ⟨[], x :: q, rfl, if_pos h, nofun, by simpa using h⟩
    · obtain ⟨ahead, behind, hq, hins, hahead, hbehind⟩ := ih
      refine ⟨x :: ahead, behind, by rw [hq, List.cons_append], ?_, ?_, hbehind⟩
      · rw [insertAction, if_neg h, hins, List.cons_append]
      · exact List.forall_mem_cons.mpr ⟨eq_false_of_ne_true h, hahead⟩

/-- Settles O54: each end by the timer it belongs to, the action by its due. -/
theorem pulsesPhasesAndFlapsEnd : Obligations.PulsesPhasesAndFlapsEnd := by
  refine ⟨⟨fun s x left h => ?flap, fun s b left h => ?tray, fun s left h => ?on, fun s left h => ?off⟩,
    fun s a rest hq hdue => ?due, insertAction_splits⟩
  case flap =>
    show execFlapExerciseEnd s = _
    simp only [execFlapExerciseEnd, h]
  case tray =>
    show execTraySwapPulseEnd b s = _
    simp only [execTraySwapPulseEnd, h]
    rfl
  case on =>
    show execBeaconFlash s = _
    simp only [execBeaconFlash, h]
  case off =>
    show execBeaconFlash s = _
    simp only [execBeaconFlash, h]
  case due =>
    show Host.Outcome.next (flapDueStep s) = _
    unfold flapDueStep
    rw [hq]
    exact congrArg Host.Outcome.next (if_pos hdue)

/-! ### The wanted bin, the route and its change (R107, R109, R110) -/

theorem wantedBin_eq (s : State) (row : PlanRow) :
    wantedBin s row = if usable s row.primary then row.primary
      else if row.alternate.any (usable s) then row.alternate.getD .b6 else .b6 := by
  unfold wantedBin
  cases row.alternate <;> rfl

theorem flapGapOk_iff (g : Geometry) (gap : Option Nat) :
    flapGapOk g gap = true ↔ (gap = none ∨ ∃ n ∈ gap, g.flapClear + g.flapLead ≤ n) := by
  cases gap <;> simp [flapGapOk]

/-- The actions of a route change, written out. -/
theorem actionsNeeded_eq (g : Geometry) (k : Stacker) (y : Ticket) (b : Bin) (belt : Pos) :
    actionsNeeded g k y b belt =
      ((flapOfBin b).toList.filter fun x => !plannedFlap k x).map (fun x =>
        ⟨stepsBack (stepsOn y.lead (g.flaps.get x)) g.flapLead, x, true, y.number⟩) ++
      (allFlaps.filter fun x => plannedFlap k x && decide (flapOfBin b ≠ some x)).map fun x =>
        ⟨closeDueAt g y b belt x, x, false, y.number⟩ := by
  have hopen : openNeeded g k y b = ((flapOfBin b).toList.filter fun x => !plannedFlap k x).map (fun x =>
      ⟨stepsBack (stepsOn y.lead (g.flaps.get x)) g.flapLead, x, true, y.number⟩) := by
    unfold openNeeded
    cases flapOfBin b with
    | none => rfl
    | some x => cases hx : plannedFlap k x <;> simp [hx, flapPlace]
  rw [actionsNeeded, hopen, closesNeeded]

/-- The flaps before one along the belt are those of lower number. -/
theorem allFlaps_split (x : Flap) :
    ∃ before behind, allFlaps = before ++ x :: behind ∧ ∀ z ∈ before, flapNumber z < flapNumber x := by
  cases x
  case f1 => exact ⟨[], [.f2, .f3, .f4, .f5], rfl, by decide⟩
  case f2 => exact ⟨[.f1], [.f3, .f4, .f5], rfl, by decide⟩
  case f3 => exact ⟨[.f1, .f2], [.f4, .f5], rfl, by decide⟩
  case f4 => exact ⟨[.f1, .f2, .f3], [.f5], rfl, by decide⟩
  case f5 => exact ⟨[.f1, .f2, .f3, .f4], [], rfl, by decide⟩

theorem flapOfBin_binOfFlap (x : Flap) : flapOfBin (binOfFlap x) = some x := by
  cases x <;> rfl

/-- The route is the bin of the lowest-numbered flap planned OPEN. -/
theorem route_lowest {k : Stacker} {x : Flap} (hx : plannedFlap k x = true)
    (hlow : ∀ z, flapNumber z < flapNumber x → plannedFlap k z = false) : flapOfBin (route k) = some x := by
  obtain ⟨before, behind, hsplit, hbefore⟩ := allFlaps_split x
  have hfind : allFlaps.find? (plannedFlap k) = some x :=
    List.find?_eq_some_iff_append.mpr ⟨hx, before, behind, hsplit, fun z hz => by rw [hlow z (hbefore z hz)]; rfl⟩
  rw [route, hfind, flapOfBin_binOfFlap]

/-- With no flap planned OPEN the route is the end bin. -/
theorem route_none {k : Stacker} (h : ∀ z, plannedFlap k z = false) : route k = .b6 := by
  have hfind : allFlaps.find? (plannedFlap k) = none := List.find?_eq_none.mpr fun z _ => by simp [h z]
  rw [route, hfind]

/-- Settles O55: the resolution by the wanted bin, the gap and the room; the planned states by the queue. -/
theorem routeChangedOrForced : Obligations.RouteChangedOrForced := by
  refine ⟨fun s y o => ?resolution, fun k x => ⟨plannedFlap_idle, fun before behind a hq ha hb => ?queued,
    route_lowest, route_none⟩⟩
  case queued =>
    subst ha
    exact plannedFlap_queued hq hb
  case resolution =>
    intro row b g acts gapOk
    have hb : wantedBin s row = b := wantedBin_eq s row
    have hacts : actionsNeeded g s.stacker y b s.tracker.belt = acts := actionsNeeded_eq _ _ _ _ _
    have hgap : flapGapOk g y.gap = true ↔ gapOk := flapGapOk_iff g y.gap
    have hres : resolve s y o = if b = route s.stacker then ⟨route s.stacker, false, []⟩
        else if flapGapOk g y.gap ∧ s.stacker.queue.length + acts.length ≤ 16 then ⟨b, false, acts⟩
        else ⟨route s.stacker, true, []⟩ := by
      rw [← hacts, ← hb]
      rfl
    refine ⟨fun hroute => ?_, fun hroute hok hroom => ?_, fun hroute hno => ?_⟩
    · rw [hres, if_pos hroute, hroute]
    · rw [hres, if_neg hroute, if_pos ⟨hgap.mpr hok, hroom⟩]
    · rw [hres, if_neg hroute, if_neg]
      rintro ⟨hok, hroom⟩
      exact hno.elim (fun hn => hn (hgap.mp hok)) (Nat.not_lt.mpr hroom)

/-! ### SET_BIN and BIN_CLOSE (R113 to R115, R117, R118) -/

/-- A terminal count in AUTO reloads the bin with a tray-swap pulse. -/
theorem terminalCount_auto {b : Bin} {count : Nat} {why : BatchReason} {s : State} {r : BinRecord}
    (hr : s.stacker.bins.get b = r) (hmode : r.mode = .auto) (hopen : r.state = .opened) :
    terminalCount b count why s =
      handNotice (.batch b (r.batch + 1) count why .auto .opened (r.pendingBase.getD r.base)
          (r.pendingBase.getD r.base) s.uptime)
        (post (.batches b) { s with stacker := { s.stacker with
          trays := s.stacker.trays.set b (some 50)
          bins := s.stacker.bins.set b { r with
            base := r.pendingBase.getD r.base, pendingBase := none, current := r.pendingBase.getD r.base
            batch := r.batch + 1 } } }) := by
  have hclose : r.close = { r with
      base := r.pendingBase.getD r.base, pendingBase := none, current := r.pendingBase.getD r.base
      batch := r.batch + 1 } := by
    obtain ⟨base, pending, current, mode, state, batch⟩ := r
    obtain rfl : mode = .auto := hmode
    obtain rfl : state = .opened := hopen
    rfl
  simp [terminalCount, hr, hmode, setBinRecord, hclose, pulseTray, hopen, post, Config.traySwapMs]

/-- A terminal count in HOLD closes the bin. -/
theorem terminalCount_hold {b : Bin} {count : Nat} {why : BatchReason} {s : State} {r : BinRecord}
    (hr : s.stacker.bins.get b = r) (hmode : r.mode = .hold) :
    terminalCount b count why s =
      handNotice (.batch b (r.batch + 1) count why .hold .closed r.base 0 s.uptime)
        (post (.batches b) { s with stacker := { s.stacker with
          bins := s.stacker.bins.set b { r with current := 0, state := .closed, batch := r.batch + 1 } } }) := by
  have hclose : r.close = { r with current := 0, state := .closed, batch := r.batch + 1 } := by
    obtain ⟨base, pending, current, mode, state, batch⟩ := r
    obtain rfl : mode = .hold := hmode
    rfl
  simp [terminalCount, hr, hmode, setBinRecord, hclose, pulseTray, post]

/-- The bytes of a bin, a base and a mode in their ranges are read as them. -/
theorem readBin_fields (b : Bin) {base : Nat} (m : BinMode) (h1 : 1 ≤ base) (h2 : base ≤ 5000) :
    readBin (u8 (binNumber b) ++ u16 base ++ u8 (binModeNumber m)) = .ok (b, base, m) := by
  have hb := binNumber_range b
  have hm := binModeNumber_lt m
  have hfields : takeFields [1, 2, 1] (u8 (binNumber b) ++ u16 base ++ u8 (binModeNumber m)) =
      some [binNumber b, base, binModeNumber m] := by
    have hlast : takeFields [1] (u8 (binModeNumber m)) = some [binModeNumber m] := by
      simpa using takeFields_u8 [] [] (n := binModeNumber m) (by omega)
    rw [List.append_assoc, takeFields_u8 _ _ (by omega), takeFields_u16 _ _ (by omega), hlast]
    rfl
  have hrange : firstBad 1 [(binNumber b, 1, 6), (base, 1, 5000), (binModeNumber m, 0, 1)] = none :=
    firstBad_none (by simp [hb, hm, h1, h2])
  rw [readBin, hfields]
  simp [checked, hrange]

/-- A BIN_CLOSE of an OPEN bin is its terminal count, and its reply. -/
theorem binCloseStep_opened {f : InFrame} {b : Bin} {r : BinRecord} (s : State)
    (hp : f.payload = u8 (binNumber b)) (hr : s.stacker.bins.get b = r) (hopen : r.state = .opened) :
    binCloseStep f s = reply f (.ok (word16 (r.batch + 1) ++ u16 (r.base - r.current)))
      (terminalCount b (r.base - r.current) .request s) := by
  rw [binCloseStep, hp, readByte_binNumber, answer_ok]
  simp only [binOf_binNumber, hr, hopen]

theorem binCloseStep_closed {f : InFrame} {b : Bin} {r : BinRecord} (s : State)
    (hp : f.payload = u8 (binNumber b)) (hr : s.stacker.bins.get b = r) (hclosed : r.state = .closed) :
    binCloseStep f s = refuse f barredElsewhere s := by
  rw [binCloseStep, hp, readByte_binNumber, answer_ok]
  simp only [binOf_binNumber, hr, hclosed]

/-- Settles O24: SET_BIN by the reading of its fields, BIN_CLOSE by the bin's state and mode. -/
theorem binSetAndClosed : Obligations.BinSetAndClosed := by
  intro f rest s b r h hr
  refine ⟨fun base m hcode h1 h2 hp => ?set, fun hcode hp hclosed => ?closed, fun hcode hp hopen hmode => ?auto,
    fun hcode hp hopen hmode => ?hold⟩
  case set =>
    refine ⟨_, rfl, ?_⟩
    rw [← hr]
    exact exec_read_taken h hcode rfl rfl rfl (by rw [hp, readBin_fields b m h1 h2]) rfl
  case closed =>
    rw [exec_taken (c := .binClose) h hcode rfl rfl, binCloseStep_closed (took rest s) hp hr hclosed, refusedAfter_eq,
      barredElsewhere]
  case auto =>
    rw [exec_taken (c := .binClose) h hcode rfl rfl, binCloseStep_opened (took rest s) hp hr hopen,
      terminalCount_auto (s := took rest s) hr hmode hopen]
    rfl
  case hold =>
    rw [exec_taken (c := .binClose) h hcode rfl rfl, binCloseStep_opened (took rest s) hp hr hopen,
      terminalCount_hold (s := took rest s) hr hmode]
    rfl

end Sys2Proof.Proofs
end

section
/-! PROOFS. The evaluation of the cause table (R143), the changes of run state it makes (R135), and the requests of a
cause (R142, R148, R149). -/

namespace Sys2Proof.Proofs

open Sys2Proof.Machine Sys2Proof.Safety

/-! ### The groups (R143) -/

/-- The groups go by the cause table alone. -/
theorem inGroup_of_causes {s t : State} (h : t.run.causes = s.run.causes) : inGroup t = inGroup s := by
  funext r c
  rw [inGroup, inGroup, h]

theorem beltStopGroup_of_causes {s t : State} (h : t.run.causes = s.run.causes) :
    beltStopGroup t = beltStopGroup s := by
  rw [beltStopGroup, beltStopGroup, inGroup_of_causes h]

theorem feedHoldGroup_of_causes {s t : State} (h : t.run.causes = s.run.causes) :
    feedHoldGroup t = feedHoldGroup s := by
  rw [feedHoldGroup, feedHoldGroup, inGroup_of_causes h]

@[simp] theorem beltStopGroup_enterRunState (new : RunState) (why : RunReason) (s : State) :
    beltStopGroup (enterRunState new why s) = beltStopGroup s := beltStopGroup_of_causes (by simp)

@[simp] theorem feedHoldGroup_enterRunState (new : RunState) (why : RunReason) (s : State) :
    feedHoldGroup (enterRunState new why s) = feedHoldGroup s := feedHoldGroup_of_causes (by simp)

@[simp] theorem beltStopGroup_beltStop (s : State) : beltStopGroup (beltStop s) = beltStopGroup s :=
  beltStopGroup_of_causes (by simp)

@[simp] theorem beltStop_run_state (s : State) : (beltStop s).run.state = .stopped := enterRunState_run_state ..

/-! ### The four steps (R143) -/

theorem evalStop_stops {s : State} (hg : beltStopGroup s = true) (h1 : s.run.state ≠ .idle)
    (h2 : s.run.state ≠ .stopped) : evalStop s = beltStop s := by
  have hcan : canStop s.run.state = true := by
    cases hr : s.run.state with
    | idle => exact absurd hr h1
    | stopped => exact absurd hr h2
    | _ => rfl
  exact if_pos (by rw [hg, hcan]; rfl)

theorem evalStop_passes {s : State} (h : beltStopGroup s = false ∨ s.run.state = .idle ∨ s.run.state = .stopped) :
    evalStop s = s := by
  refine if_neg ?_
  rcases h with hg | hr | hr
  · simp [hg]
  · simp [hr, canStop]
  · simp [hr, canStop]

theorem evalIdle_passes {s : State} (h : beltStopGroup s = true ∨ s.run.state ≠ .stopped) : evalIdle s = s := by
  refine if_neg ?_
  rcases h with hg | hr
  · simp [hg]
  · simp [hr]

theorem evalHold_passes {s : State} (h : feedHoldGroup s = false ∨ s.run.state ≠ .running) : evalHold s = s := by
  refine if_neg ?_
  rcases h with hg | hr
  · simp [hg]
  · simp [hr]

theorem evalResume_passes {s : State}
    (h : feedHoldGroup s = true ∨ s.run.state ≠ .draining .hold ∧ s.run.state ≠ .held) : evalResume s = s := by
  refine if_neg ?_
  rcases h with hg | ⟨hr1, hr2⟩
  · simp [hg]
  · simp [hr1, hr2]

/-! ### The evaluation by group and run state (R143) -/

/-- In the states that neither hold nor resume, the last two steps do nothing. -/
theorem evaluate_ends {s : State} (h1 : (evalIdle (evalStop s)).run.state ≠ .running)
    (h2 : (evalIdle (evalStop s)).run.state ≠ .draining .hold) (h3 : (evalIdle (evalStop s)).run.state ≠ .held) :
    evaluate s = evalIdle (evalStop s) := by
  rw [evaluate, evalHold_passes (.inr h1), evalResume_passes (.inr ⟨h2, h3⟩)]

/-- The BELT_STOP group stops a belt that can be stopped. -/
theorem evaluate_stops {s : State} (hg : beltStopGroup s = true) (h1 : s.run.state ≠ .idle)
    (h2 : s.run.state ≠ .stopped) : evaluate s = beltStop s := by
  have hidle : evalIdle (evalStop s) = beltStop s := by
    rw [evalStop_stops hg h1 h2, evalIdle_passes (.inl (by rw [beltStopGroup_beltStop, hg]))]
  rw [evaluate_ends (by simp [hidle]) (by simp [hidle]) (by simp [hidle]), hidle]

/-- With the BELT_STOP group not empty IDLE and STOPPED stay. -/
theorem evaluate_stays_stopped {s : State} (hg : beltStopGroup s = true)
    (h : s.run.state = .idle ∨ s.run.state = .stopped) : evaluate s = s := by
  have hidle : evalIdle (evalStop s) = s := by rw [evalStop_passes (.inr h), evalIdle_passes (.inl hg)]
  rw [evaluate_ends, hidle] <;> (rw [hidle]; rcases h with h | h <;> rw [h] <;> simp)

/-- With the BELT_STOP group empty STOPPED ends in IDLE. -/
theorem evaluate_leaves_stopped {s : State} (hg : beltStopGroup s = false) (h : s.run.state = .stopped) :
    evaluate s = enterRunState .idle .cause s := by
  have hidle : evalIdle (evalStop s) = enterRunState .idle .cause s := by
    rw [evalStop_passes (.inl hg)]
    exact if_pos (by simp [hg, h])
  rw [evaluate_ends (by simp [hidle]) (by simp [hidle]) (by simp [hidle]), hidle]

/-- In a running state without the BELT_STOP group the last two steps alone act. -/
theorem evaluate_moving {s : State} (hg : beltStopGroup s = false) (h : s.run.state ≠ .stopped) :
    evaluate s = evalResume (evalHold s) := by
  rw [evaluate, evalStop_passes (.inl hg), evalIdle_passes (.inr h)]

/-- A drain for the FEED_HOLD group ends at once in HELD with an empty table. -/
theorem endDrain_hold (s : State) :
    endDrain (enterRunState (.draining .hold) .cause s) =
      if s.tracker.table = [] then enterRunState .held .drainDone (enterRunState (.draining .hold) .cause s)
      else enterRunState (.draining .hold) .cause s := by
  have hocc : occupancy (enterRunState (.draining .hold) .cause s) = 0 ↔ s.tracker.table = [] := by
    rw [occupancy, enterRunState_tracker_table, List.length_eq_zero_iff]
  unfold endDrain
  by_cases ht : s.tracker.table = []
  · rw [if_pos (hocc.mpr ht), if_pos ht, enterRunState_run_state]
  · rw [if_neg (mt hocc.mp ht), if_neg ht]

@[simp] theorem feedHoldGroup_endDrain (s : State) : feedHoldGroup (endDrain s) = feedHoldGroup s :=
  feedHoldGroup_of_causes (by simp)

/-- The FEED_HOLD group drains RUNNING. -/
theorem evaluate_drains {s : State} (hg : beltStopGroup s = false) (hr : s.run.state = .running)
    (hf : feedHoldGroup s = true) :
    evaluate s =
      if s.tracker.table = [] then enterRunState .held .drainDone (enterRunState (.draining .hold) .cause s)
      else enterRunState (.draining .hold) .cause s := by
  have hhold : evalHold s = endDrain (enterRunState (.draining .hold) .cause s) := if_pos (by simp [hf, hr])
  rw [evaluate_moving hg (by simp [hr]), hhold, evalResume_passes (.inl (by simp [hf])), endDrain_hold]

/-- Without the FEED_HOLD group DRAINING (hold) and HELD return to RUNNING. -/
theorem evaluate_resumes {s : State} (hg : beltStopGroup s = false)
    (hr : s.run.state = .draining .hold ∨ s.run.state = .held) :
    evaluate s = if feedHoldGroup s then s else enterRunState .running .cause s := by
  have hstate : s.run.state ≠ .stopped ∧ s.run.state ≠ .running := by
    rcases hr with hr | hr <;> simp [hr]
  rw [evaluate_moving hg hstate.1, evalHold_passes (.inr hstate.2)]
  cases hf : feedHoldGroup s
  · exact if_pos (by rcases hr with hr | hr <;> simp [hf, hr])
  · exact evalResume_passes (.inl hf)

/-- RUNNING goes on without either group. -/
theorem evaluate_runs {s : State} (hg : beltStopGroup s = false) (hr : s.run.state = .running)
    (hf : feedHoldGroup s = false) : evaluate s = s := by
  rw [evaluate_moving hg (by simp [hr]), evalHold_passes (.inl hf), evalResume_passes (.inr (by simp [hr]))]

/-- IDLE, STARTING and DRAINING (finish) go on without the BELT_STOP group. -/
theorem evaluate_goes_on {s : State} (hg : beltStopGroup s = false)
    (hr : s.run.state = .idle ∨ s.run.state = .starting ∨ s.run.state = .draining .finish) : evaluate s = s := by
  have hidle : evalIdle (evalStop s) = s := by
    rw [evalStop_passes (.inl hg), evalIdle_passes]
    rcases hr with hr | hr | hr <;> simp [hr]
  rw [evaluate_ends, hidle] <;> (rw [hidle]; rcases hr with hr | hr | hr <;> rw [hr] <;> simp)

/-! ### A change of run state (R10, R135, R139, R151) -/

theorem leadingCause_of_causes {s t : State} (h : t.run.causes = s.run.causes) : leadingCause t = leadingCause s := by
  rw [leadingCause, leadingCause, h]

/-- The state after a change of run state, before its notice is handed to the link. -/
def entering (new : RunState) (s : State) : State :=
  judgeBeacon { s with
    tracker := { s.tracker with
      prevTrail := if new = .idle then none else s.tracker.prevTrail
      firstTicket := if new = .idle then true else s.tracker.firstTicket }
    run := { s.run with
      state := new
      startTimer := if new = .starting then s.run.startTimer else none
      startPos := if new = .starting then s.run.startPos else none } }

/-- The notice of a change of run state (R135). -/
def runNotice (new : RunState) (why : RunReason) (s : State) : Notice :=
  .runState s.run.state new why (leadingCause s) s.tracker.table.length s.tracker.belt s.uptime

theorem enterRunState_eq (new : RunState) (why : RunReason) (s : State) :
    enterRunState new why s = handNotice (runNotice new why s) (entering new s) := rfl

/-- The beacon follows after a change of run state. -/
theorem enterRunState_beacon (new : RunState) (why : RunReason) (s : State) :
    BeaconFollows (enterRunState new why s) := by
  rw [enterRunState_eq]
  exact beaconFollows_of_run (handNotice_run ..) (judgeBeacon_follows _)

/-- A change of run state into other than IDLE changes run control and the link alone. -/
theorem enterRunState_frame {new : RunState} (why : RunReason) (s : State) (h : new ≠ .idle) :
    enterRunState new why s = { s with
      run := (enterRunState new why s).run, link := (enterRunState new why s).link } := by
  have hframe : entering new s = { s with run := (entering new s).run } := by
    simp only [entering, if_neg h]
    rfl
  rw [enterRunState_eq, handNotice_eq, hframe]

/-- With room in the shared area the change's notice joins the queue. -/
theorem enterRunState_placed {new : RunState} {why : RunReason} {s : State} (hroom : sharedUsed s.link < 60) :
    enterRunState new why s = enqueue (.notice (runNotice new why s)) (entering new s) := by
  rw [enterRunState_eq, handNotice_placed rfl (by exact hroom)]

/-- Settles O59: the state by the evaluation's cases, the change by what it writes. -/
theorem runStateByEvaluation : Obligations.RunStateByEvaluation := by
  refine ⟨fun s => ?evaluated, fun new why s hroom => ?entered⟩
  case evaluated =>
    cases hg : beltStopGroup s with
    | true =>
      by_cases h : s.run.state = .idle ∨ s.run.state = .stopped
      · rw [evaluate_stays_stopped hg h, if_pos rfl, if_pos h]
      · obtain ⟨h1, h2⟩ := not_or.mp h
        rw [evaluate_stops hg h1 h2, if_pos rfl, if_neg h, beltStop_run_state]
    | false =>
      rw [if_neg Bool.false_ne_true]
      cases hr : s.run.state with
      | idle => rw [evaluate_goes_on hg (by simp [hr]), hr]
      | starting => rw [evaluate_goes_on hg (by simp [hr]), hr]
      | stopped => rw [evaluate_leaves_stopped hg hr, enterRunState_run_state]
      | running =>
        cases hf : feedHoldGroup s
        · rw [evaluate_runs hg hr hf, hr]
          rfl
        · rw [evaluate_drains hg hr hf, if_pos rfl]
          split <;> rw [enterRunState_run_state]
      | held =>
        rw [evaluate_resumes hg (.inr hr)]
        split
        · rw [hr]
        · rw [enterRunState_run_state]
      | draining kind =>
        cases kind with
        | finish => rw [evaluate_goes_on hg (by simp [hr]), hr]
        | hold =>
          rw [evaluate_resumes hg (.inl hr)]
          split
          · rw [hr]
          · rw [enterRunState_run_state]
  case entered =>
    refine ⟨enterRunState_run_state .., enterRunState_beacon .., ?_, ?_, fun hnew => by simp [hnew], by simp, by simp⟩
    · rw [enterRunState_placed hroom]
      rfl
    · rw [enterRunState_placed hroom]
      rfl

/-! ### A request of a cause (R142, R148, R149) -/

/-- The state with a request of a cause noted, and its service set (R142, R149). -/
def noted (c : Cause) (d : SourceDetail) (n : Option U16) (on : Bool) (s : State) : State :=
  let e := s.run.causes.get c
  { s with run := { s.run with
    faults := ⟨some (s.run.faults.first.getD ⟨c, e.masked, d, s.tracker.belt, s.uptime, n⟩),
      some ⟨c, e.masked, d, s.tracker.belt, s.uptime, n⟩, min 65535 (s.run.faults.count + 1)⟩
    causes := s.run.causes.set c { e with latch := e.latch || !isLevel c, detail := d, inService := on } } }

theorem noteRequest_noted (c : Cause) (d : SourceDetail) (n : Option U16) (s : State) :
    noteRequest c d n s = noted c d n (s.run.causes.get c).inService s := rfl

theorem setCause_noted (c : Cause) (d : SourceDetail) (n : Option U16) (on turned : Bool) (s : State) :
    setCause c (fun e => { e with inService := turned }) (noted c d n on s) = noted c d n turned s := by
  simp [setCause, noted]

/-- A request of a masked cause, or of one in service, is noted and does no more. -/
theorem raiseCause_noted {c : Cause} {d : SourceDetail} {n : Option U16} {why : StopReason} {s : State}
    (h : (s.run.causes.get c).masked = true ∨ (s.run.causes.get c).inService = true) :
    raiseCause c d n why s = noted c d n (s.run.causes.get c).inService s := by
  rw [← noteRequest_noted]
  exact if_pos (Bool.or_eq_true _ _ ▸ h)

/-- A request of an unmasked cause not in service is noted and served, and then the table is evaluated. -/
theorem raiseCause_served {c : Cause} {d : SourceDetail} {n : Option U16} {why : StopReason} {s : State}
    (h1 : (s.run.causes.get c).masked = false) (h2 : (s.run.causes.get c).inService = false) :
    raiseCause c d n why s = evaluate (judgeBeacon (stopNotice c true why (noted c d n true s))) := by
  rw [← setCause_noted c d n (s.run.causes.get c).inService, ← noteRequest_noted]
  exact if_neg (by simp [h1, h2])

/-- A beacon judged after a notice changes the link by the notice, and the beacon. -/
theorem judgeBeacon_notice (x : Notice) (s : State) :
    judgeBeacon (handNotice x s) = { handNotice x s with
      run := { s.run with beacon := (judgeBeacon (handNotice x s)).run.beacon } } := by
  rw [judgeBeacon, handNotice_run]

/-- The cause table after a request (R142). -/
theorem raiseCause_causes (c : Cause) (d : SourceDetail) (n : Option U16) (why : StopReason) (s : State) :
    (raiseCause c d n why s).run.causes = s.run.causes.set c { s.run.causes.get c with
      latch := (s.run.causes.get c).latch || !isLevel c
      detail := d
      inService := (s.run.causes.get c).inService || !(s.run.causes.get c).masked } := by
  by_cases h : (s.run.causes.get c).masked = true ∨ (s.run.causes.get c).inService = true
  · rw [raiseCause_noted h]
    rcases h with h | h <;> simp [noted, h]
  · simp only [not_or, Bool.not_eq_true] at h
    obtain ⟨h1, h2⟩ := h
    rw [raiseCause_served h1 h2]
    simp [noted, h1]

/-- Settles O58: a request by the mask and the service of its cause, the evaluation by group and run state. -/
theorem requestRecordedAndServed : Obligations.RequestRecordedAndServed := by
  refine ⟨fun c d n why s => ?recorded, fun c d n why s => ⟨raiseCause_noted, fun h1 h2 => ?served⟩,
    fun s => ⟨evaluate_stops, evaluate_stays_stopped, fun hg => ⟨evaluate_leaves_stopped hg, evaluate_drains hg,
      evaluate_resumes hg, evaluate_runs hg, evaluate_goes_on hg⟩⟩⟩
  case served =>
    refine ⟨judgeBeacon (stopNotice c true why (noted c d n true s)), raiseCause_served h1 h2,
      judgeBeacon_follows _, ?_⟩
    rw [stopNotice, judgeBeacon_notice]
    simp [noted]
  case recorded =>
    intro e entry t
    have hfaults : t.run.faults = recordFault entry s.run.faults := raiseCause_run_faults ..
    have hcauses : t.run.causes = s.run.causes.set c { e with
        latch := e.latch || !isLevel c, detail := d, inService := e.inService || !e.masked } := raiseCause_causes ..
    refine ⟨hfaults, by simp [hcauses], by simp [hcauses], fun hm => ?_, fun hm => by simp [hcauses, hm],
      fun x hx => by simp [hcauses, hx], by simp [t], by simp [t], by simp [t]⟩
    have ht : t = noted c d n e.inService s := raiseCause_noted (.inl hm)
    rw [ht]
    exact ⟨rfl, by simp [noted], rfl, rfl⟩

end Sys2Proof.Proofs
end

section
/-! PROOFS. Run control's timers and the passing of time (R22, R139, R145), and the requests RUN, FINISH and HALT (R136
to R138) and TALLY_READ (R128, R129). -/

namespace Sys2Proof.Proofs

open Sys2Proof.Machine Sys2Proof.Safety

/-! ### The passing of time (00_scope.md) -/

theorem timerAfter_timerAfter (m n : Nat) (t : Option Nat) : timerAfter n (timerAfter m t) = timerAfter (m + n) t := by
  cases t <;> simp [timerAfter, Nat.sub_sub]

theorem lampAfter_lampAfter (m n : Nat) (l : LampState) : lampAfter n (lampAfter m l) = lampAfter (m + n) l := by
  cases l <;> simp [lampAfter, Nat.sub_sub]

theorem headAfter_headAfter (m n : Nat) (u : HeadUnit) : headAfter n (headAfter m u) = headAfter (m + n) u := by
  obtain ⟨state, queue, waiting, handed⟩ := u
  cases state with
  | striking x => cases x <;> simp [headAfter, Nat.sub_sub]
  | _ => simp [headAfter, Nat.sub_sub]

theorem exerciseAfter_exerciseAfter (m n : Nat) (e : Exercise) :
    exerciseAfter n (exerciseAfter m e) = exerciseAfter (m + n) e := by
  cases e <;> simp [exerciseAfter, Nat.sub_sub]

theorem beaconLeft_beaconLeft (m n : Nat) (b : Beacon) : beaconLeft n (beaconLeft m b) = beaconLeft (m + n) b := by
  cases b <;> simp [beaconLeft, Nat.sub_sub]

theorem receiverAfter_receiverAfter (m n : Nat) (r : Receiver) :
    receiverAfter n (receiverAfter m r) = receiverAfter (m + n) r := by
  cases r <;> simp [receiverAfter, Nat.sub_sub]

/-- Time that passes in parts passes at once. -/
theorem advance_advance (m n : Nat) (s : State) : advance n (advance m s) = advance (m + n) s := by
  simp [advance, timerAfter_timerAfter, exerciseAfter_exerciseAfter, beaconLeft_beaconLeft,
    receiverAfter_receiverAfter, PerSide.map, PerHead.map, PerBin.map, lampAfter_lampAfter, headAfter_headAfter,
    BitVec.ofNat_add, BitVec.add_assoc, Nat.add_assoc, Function.comp_def, Nat.sub_sub]

/-! ### The timers and the start (R22, R139, R145) -/

/-- The end of a start with no BELT_STOP cause in service and an empty table. -/
theorem evaluate_started {s : State} (hg : beltStopGroup s = false) (htable : s.tracker.table = [])
    (hr : s.run.state = .running) :
    evaluate s = if feedHoldGroup s then
        enterRunState .held .drainDone (enterRunState (.draining .hold) .cause s) else s := by
  cases hf : feedHoldGroup s with
  | true => rw [evaluate_drains hg hr hf, if_pos htable, if_pos rfl]
  | false => rw [evaluate_runs hg hr hf, if_neg Bool.false_ne_true]

/-- Settles O57: each timer by the state it acts in, the start by the evaluation that follows it. -/
theorem timersRaiseAndStartEnds : Obligations.TimersRaiseAndStartEnds := by
  refine ⟨⟨fun s hr hs => ?stall, fun s left h => ?start, fun s hr hl => ?link, fun s h => ?noStall,
    fun s h => ?noLink⟩, fun s p hr hp hdue hg htable => ?started, fun dt s => ?time⟩
  case stall => exact congrArg Host.Outcome.next (if_pos (by simp [hr, hs]))
  case start =>
    show execStartTimerExpiry s = _
    rw [execStartTimerExpiry, h]
  case link => exact congrArg Host.Outcome.next (if_pos (by simp [hr, hl]))
  case noStall => exact congrArg Host.Outcome.next (if_neg (by rcases h with h | h <;> simp [h]))
  case noLink => exact congrArg Host.Outcome.next (if_neg (by rcases h with h | h <;> simp [h]))
  case started =>
    have hstart : startDue s = true := by simp [startDue, hr, hp, hdue]
    have hexec : exec .startDone s =
        .next (evaluate (enterRunState .running .startDone (restartLinkTimer s))) :=
      congrArg Host.Outcome.next (if_pos hstart)
    have hgroup : feedHoldGroup (enterRunState .running .startDone (restartLinkTimer s)) = feedHoldGroup s :=
      feedHoldGroup_of_causes (by simp)
    refine ⟨_, hexec, ?_⟩
    rw [evaluate_started ((beltStopGroup_of_causes (by simp)).trans hg) (by simp [htable]) (by simp), hgroup]
    cases hf : feedHoldGroup s with
    | true =>
      refine ⟨by simp, by simp, by simp, by simp, by simp, by simp, ?_⟩
      rw [if_pos rfl, enterRunState_frame (new := .held) _ _ (by simp),
        enterRunState_frame (new := .draining .hold) _ _ (by simp), enterRunState_frame (new := .running) _ _ (by simp)]
      rfl
    | false =>
      refine ⟨by simp, by simp, by simp, by simp, by simp, by simp, ?_⟩
      rw [if_neg Bool.false_ne_true, enterRunState_frame (new := .running) _ _ (by simp)]
      rfl
  case time =>
    intro t
    refine ⟨rfl, fun d => ?_, ?_, fun h => ?_, ?_, ?_, fun more => advance_advance dt more s⟩
    · show (s.lamps.state.map (lampAfter dt)).get d = _
      rw [PerSide.get_map]
      cases s.lamps.state.get d <;> rfl
    · show s.gate.exercise.map (exerciseAfter dt) = _
      rcases s.gate.exercise with _ | (_ | _ | _) <;> rfl
    · show (s.cancel.heads.map (headAfter dt)).get h = _
      rw [PerHead.get_map]
      obtain ⟨state, queue, waiting, handed⟩ := s.cancel.heads.get h
      rcases state with _ | (_ | _) | _ | _ <;> rfl
    · show beaconLeft dt s.run.beacon = _
      cases s.run.beacon <;> rfl
    · show receiverAfter dt s.link.receiver = _
      cases s.link.receiver <;> rfl

/-! ### RUN, FINISH and HALT (R136 to R138) -/

/-- A RUN without fields goes by the run state and the leading cause. -/
theorem exec_run_taken {f : InFrame} {rest : List InFrame} {s : State} (h : CanTake s f rest) (hcode : f.code = 0x70)
    (hp : f.payload = []) :
    exec .run s = match runEffect s.run.state, leadingCause s with
      | none, _ => refusedAfter f (.wrongState (runStateNumber s.run.state)) rest s
      | some _, some c => refusedAfter f (.stillActive c) rest s
      | some act, none => okAfter f [] (act (took rest s)) := by
  rw [exec_taken (c := .run) h hcode rfl rfl, runStep, hp, noFields_nil, answer_ok]
  rw [took_run, took_leadingCause]
  cases runEffect s.run.state with
  | none => rfl
  | some act => cases leadingCause s <;> rfl

/-- A FINISH without fields goes by the run state and the occupancy. -/
theorem exec_finish_taken {f : InFrame} {rest : List InFrame} {s : State} (h : CanTake s f rest)
    (hcode : f.code = 0x71) (hp : f.payload = []) :
    exec .finish s = if s.run.state = .running ∨ s.run.state = .held then okAfter f [] (finishDrain (took rest s))
      else refusedAfter f (.wrongState (runStateNumber s.run.state)) rest s := by
  rw [exec_taken (c := .finish) h hcode rfl rfl, finishStep, hp, noFields_nil, answer_ok]
  rw [took_run]
  cases hr : s.run.state with
  | running => rfl
  | held => rfl
  | _ => simp only [refusedAfter_eq, barredByRunState, took_run, hr, reduceCtorEq, or_self, if_false]

/-- A HALT without fields goes by the run state. -/
theorem exec_halt_taken {f : InFrame} {rest : List InFrame} {s : State} (h : CanTake s f rest)
    (hcode : f.code = 0x72) (hp : f.payload = []) :
    exec .halt s = if s.run.state = .idle then refusedAfter f (.wrongState (runStateNumber s.run.state)) rest s
      else okAfter f [] (enterRunState .idle .halt (purge .halt (took rest s))) := by
  rw [exec_taken (c := .halt) h hcode rfl rfl, haltStep, hp, noFields_nil, answer_ok]
  rw [took_run]
  split <;> rfl

/-- Settles O27: by the run state, the leading cause and the occupancy. -/
theorem runFinishAndHalt : Obligations.RunFinishAndHalt := by
  refine ⟨fun f rest s h hcode hp => ⟨fun hr hl => ?idle, fun hr hl => ?resume, fun hr c hl => ?active,
    fun hr => ?barred⟩, fun f rest s h hp => ⟨fun hcode hr ht => ?drain, fun hcode hr ht => ?empty,
    fun hcode h1 h2 => ?unfinished, fun hcode hr => ?halt, fun hcode hr => ?halted⟩⟩
  case idle =>
    rw [exec_run_taken h hcode hp, hr, hl]
    rfl
  case resume =>
    rw [exec_run_taken h hcode hp, hl]
    rcases hr with hr | hr <;> rw [hr] <;> rfl
  case active =>
    rw [exec_run_taken h hcode hp, hl]
    rcases hr with hr | hr | hr <;> rw [hr] <;> rfl
  case barred =>
    rw [exec_run_taken h hcode hp]
    rcases hr with hr | hr | hr | hr <;> rw [hr] <;> rfl
  case drain =>
    have hocc : occupancy (took rest s) ≠ 0 := mt List.eq_nil_of_length_eq_zero ht
    rw [exec_finish_taken h hcode hp, if_pos hr, finishDrain, if_neg hocc]
  case empty =>
    have hocc : occupancy (took rest s) = 0 := by simp [occupancy, ht]
    rw [exec_finish_taken h hcode hp, if_pos hr, finishDrain, if_pos hocc]
  case unfinished => rw [exec_finish_taken h hcode hp, if_neg (by simp [h1, h2])]
  case halt => rw [exec_halt_taken h hcode hp, if_neg hr]
  case halted => rw [exec_halt_taken h hcode hp, if_pos hr, hr, runStateNumber]

/-! ### TALLY_READ (R128, R129) -/

theorem counterOf_minus (a b : TallySet) (c : Counter) : counterOf (a.minus b) c = counterOf a c - counterOf b c := by
  cases c <;> simp [counterOf, TallySet.minus]

theorem readByte_flag (b : Bool) : readByte 0 1 (flag b) = .ok (if b then 1 else 0) := by
  cases b <;> rfl

/-- The snapshot a TALLY_READ reads: the one held, or one taken now. -/
def snapshotRead (s : State) : Snapshot := s.tally.held.getD (snapshotNow s)

/-- The tally unit once that snapshot is read, released and, where asked, its shift cleared (R128, R129). -/
def tallyRead (clear : Bool) (s : State) : Tally :=
  { s.tally with
    shift := if clear then s.tally.shift.minus (snapshotRead s).shift else s.tally.shift
    baseOcc := if clear then (snapshotRead s).occupancy else s.tally.baseOcc
    held := none
    nextSnapshot := if s.tally.held.isSome then s.tally.nextSnapshot else s.tally.nextSnapshot + 1 }

/-- A read of a valid mark answers with the snapshot and the two marks, and changes the tally unit alone. -/
theorem tallyReadStep_valid {f : InFrame} {clear : Bool} {s : State} (hp : f.payload = flag clear) :
    tallyReadStep f s = reply f (.ok (encSnapshot (snapshotRead s) ++ flag s.tally.held.isSome ++ flag clear))
      { s with tally := tallyRead clear s } := by
  have hmark : ((if clear then 1 else 0 : Nat) == 1) = clear := by cases clear <;> rfl
  rw [tallyReadStep, hp, readByte_flag, answer_ok]
  rw [hmark, tallyRead, snapshotRead]
  cases hheld : s.tally.held <;> cases clear <;> simp [readSnapshot, releaseSnapshot, clearShift, takeSnapshot, hheld]

/-- Settles O26: by the reading of the mark, and for a valid one by the snapshot read. -/
theorem tallyReadReleasesAndClears : Obligations.TallyReadReleasesAndClears := by
  intro f rest s h hcode
  refine ⟨fun v hp hv => ?above, fun hlen => ?length, fun clear hp => ?valid⟩
  case above =>
    exact exec_read_refused h hcode rfl rfl rfl (by rw [hp, readByte_one, if_neg (by omega)])
  case length => exact exec_read_refused h hcode rfl rfl rfl (readByte_length hlen)
  case valid =>
    refine ⟨{ took rest s with tally := tallyRead clear s }, ?_, rfl, rfl, rfl, rfl, fun hc => ?_, fun hc => ?_⟩
    · rw [exec_taken (c := .tallyRead) h hcode rfl rfl, tallyReadStep_valid hp, ← okAfter_eq]
      rfl
    · subst hc
      exact ⟨rfl, rfl⟩
    · subst hc
      exact ⟨rfl, fun c => counterOf_minus ..⟩

end Sys2Proof.Proofs
end

section
/-! PROOFS. The purge (R20, R34, R66, R76, R100, R121, R144, R161): the tickets removed one by one, then what each block
drops, then the end of a running calibration. -/

namespace Sys2Proof.Proofs

open Sys2Proof.Machine Sys2Proof.Safety

/-! ### The tickets removed (R20, R124) -/

theorem purgeTicket_eq (how : Purge) (y : Ticket) (s : State) :
    purgeTicket how y s = { s with
      tracker := { s.tracker with table := s.tracker.table.tail }
      tally := { s.tally with life := bump .purged s.tally.life, shift := bump .purged s.tally.shift }
      link := (purgeTicket how y s).link } := by
  unfold purgeTicket
  dsimp only
  split
  · rfl
  · rw [handNotice_eq]
    rfl

/-- A tally set with a number more tickets counted PURGED. -/
def addPurged (n : Nat) (t : TallySet) : TallySet := { t with purged := t.purged + BitVec.ofNat 32 n }

theorem addPurged_zero (t : TallySet) : addPurged 0 t = t := by simp [addPurged]

theorem addPurged_bump (n : Nat) (t : TallySet) : addPurged n (bump .purged t) = addPurged (n + 1) t := by
  simp [addPurged, bump, BitVec.ofNat_add, BitVec.add_assoc, BitVec.add_comm (BitVec.ofNat 32 n)]

/-- The tickets removed leave the table, counted, and beside the link nothing else changes. -/
theorem purgeTickets_eq (how : Purge) (ts : List Ticket) (s : State) :
    purgeTickets how ts s = { s with
      tracker := { s.tracker with table := s.tracker.table.drop ts.length }
      tally := { s.tally with life := addPurged ts.length s.tally.life, shift := addPurged ts.length s.tally.shift }
      link := (purgeTickets how ts s).link } := by
  induction ts generalizing s with
  | nil =>
    rw [List.length_nil, addPurged_zero, addPurged_zero]
    rfl
  | cons y ts ih =>
    rw [purgeTickets, ih, purgeTicket_eq]
    simp only [addPurged_bump, List.length_cons, List.drop_tail]

/-! ### The work dropped (R34, R66, R76, R100, R121) -/

theorem purgeChannel_eq (how : Purge) (belt : Pos) (k : ScanChannel) :
    purgeChannel how belt k = { k with
      spans := []
      leadIn := []
      gap :=
        if how = .warmReset then ⟨k.gap.start, []⟩
        else if k.leadIn = [] then k.gap
        else ⟨if k.gap.samples = [] then belt - BitVec.ofNat 32 k.leadIn.length + 1 else k.gap.start,
          k.gap.samples ++ k.leadIn⟩ } := rfl

/-- The end of a running calibration, if any, changes the calibration and the link alone (R161). -/
theorem abortCal_eq (why : CalAbortReason) (s : State) :
    abortCal why s = { s with cal := .off, link := (abortCal why s).link } := by
  unfold abortCal
  cases hc : s.cal with
  | off => simp only [calRunning, ← hc]
  | collecting r =>
    simp only [calRunning, calNotice]
    rw [handNotice_eq]
  | ready r p =>
    simp only [calRunning, calNotice]
    rw [handNotice_eq]

/-- A purge but for what it hands to the link. -/
theorem purge_eq (how : Purge) (s : State) :
    purge how s = { s with
      tracker := { s.tracker with table := [], throttle := false }
      channels := s.channels.map (purgeChannel how s.tracker.belt)
      facing := { s.facing with waiting := [] }
      gate := { s.gate with queue := [], exercise := purgeExercise how s.gate.exercise }
      cancel := { s.cancel with heads := s.cancel.heads.map (purgeHead how s.cancel.record.recharge) }
      stacker := { s.stacker with queue := [] }
      tally := { s.tally with
        life := addPurged s.tracker.table.length s.tally.life
        shift := addPurged s.tracker.table.length s.tally.shift }
      cal := .off
      link := (purge how s).link } := by
  unfold purge
  rw [abortCal_eq, dropWork, purgeTickets_eq, List.drop_length]

/-- What a purge hands to the link changes its queue and its lost counts alone. -/
theorem purge_link (how : Purge) (s : State) :
    (purge how s).link = { s.link with
      outbound := (purge how s).link.outbound
      reportsLost := (purge how s).link.reportsLost
      tracesLost := (purge how s).link.tracesLost
      eventsLost := (purge how s).link.eventsLost } := by
  dsimp only
  rw [← purge_link_rate how s, ← purge_link_receiver how s, ← purge_link_inbound how s,
    ← purge_link_oversize how s, ← purge_link_bad how s, ← purge_link_broken how s, ← purge_link_dropped how s,
    ← purge_link_letterEnable how s, ← purge_link_traceEnable how s, ← purge_link_reset how s,
    ← purge_link_line how s]

/-! ### The notices of a purge (R131, R161) -/

/-- The LETTER notices of a purge, oldest first. -/
def purgeLetters (how : Purge) (ts : List Ticket) (s : State) : List OutFrame :=
  (purgeReason how).toList.flatMap fun r => ts.map fun y =>
    OutFrame.notice (.letter ⟨some r, s.tracker.belt, s.uptime, y, none⟩)

/-- The ABORTED notice of a running calibration. -/
def abortedNotice (why : CalAbortReason) (s : State) : List OutFrame :=
  (calRunning s.cal).toList.map fun r => OutFrame.notice (.cal r.channel .aborted (some why) r.target r.cards r.valid
    r.clipped none none (s.channels.get r.channel).trim s.uptime)

theorem isReply_purgeLetters {how : Purge} {ts : List Ticket} {s : State} :
    ∀ x ∈ purgeLetters how ts s, isReply x = false := by
  intro x hx
  simp only [purgeLetters, List.mem_flatMap, List.mem_map] at hx
  obtain ⟨r, -, y, -, rfl⟩ := hx
  rfl

/-- Notices placed in the queue each take a slot of the shared area. -/
theorem sharedUsed_append {l : Link} {ns : List OutFrame} (h : ∀ x ∈ ns, isReply x = false) :
    sharedUsed { l with outbound := l.outbound ++ ns } = sharedUsed l + ns.length := by
  have hall : ns.filter (fun f => !isReply f) = ns := List.filter_eq_self.mpr fun x hx => by simp [h x hx]
  rw [sharedUsed, List.filter_append, List.length_append, hall, sharedUsed]

/-- With room the LETTER notice of the oldest ticket joins the queue. -/
theorem purgeTicket_link {how : Purge} {y : Ticket} {s : State} (hen : s.link.letterEnable = true)
    (hroom : sharedUsed s.link + (purgeLetters how [y] s).length ≤ 60) :
    (purgeTicket how y s).link = { s.link with outbound := s.link.outbound ++ purgeLetters how [y] s } := by
  unfold purgeTicket
  unfold purgeLetters at hroom ⊢
  cases hr : purgeReason how with
  | none =>
    rw [Option.toList_none, List.flatMap_nil, List.append_nil]
    rfl
  | some r =>
    rw [hr] at hroom
    dsimp only
    rw [handNotice_placed (by exact hen) (Nat.lt_of_succ_le (by exact hroom))]
    rfl

/-- With room the LETTER notices join the queue. -/
theorem purgeTickets_link {how : Purge} {ts : List Ticket} {s : State} (hen : s.link.letterEnable = true)
    (hroom : sharedUsed s.link + (purgeLetters how ts s).length ≤ 60) :
    (purgeTickets how ts s).link = { s.link with outbound := s.link.outbound ++ purgeLetters how ts s } := by
  induction ts generalizing s with
  | nil =>
    have hnone : purgeLetters how [] s = [] := by simp [purgeLetters]
    rw [hnone, List.append_nil]
    rfl
  | cons y ts ih =>
    have hcons : purgeLetters how (y :: ts) s = purgeLetters how [y] s ++ purgeLetters how ts s := by
      unfold purgeLetters
      cases purgeReason how <;> simp
    have hrest : purgeLetters how ts (purgeTicket how y s) = purgeLetters how ts s := by simp [purgeLetters]
    rw [hcons, List.length_append] at hroom
    have hfirst := purgeTicket_link (y := y) hen (how := how) (by omega)
    have hused : sharedUsed (purgeTicket how y s).link = sharedUsed s.link + (purgeLetters how [y] s).length := by
      rw [hfirst, sharedUsed_append isReply_purgeLetters]
    rw [purgeTickets, ih (by simpa using hen) (by rw [hused, hrest]; omega), hfirst, hrest, hcons, List.append_assoc]

/-- With room the ABORTED notice of a running calibration joins the queue. -/
theorem abortCal_link {why : CalAbortReason} {s : State}
    (hroom : sharedUsed s.link + (abortedNotice why s).length ≤ 60) :
    (abortCal why s).link = { s.link with outbound := s.link.outbound ++ abortedNotice why s } := by
  unfold abortCal
  unfold abortedNotice at hroom ⊢
  cases hc : calRunning s.cal with
  | none =>
    rw [Option.toList_none, List.map_nil, List.append_nil]
  | some r =>
    rw [hc] at hroom
    dsimp only
    rw [calNotice, handNotice_placed rfl (Nat.lt_of_succ_le (by exact hroom))]
    rfl

/-- Settles O60: block by block, and the link by its notices where it has room. -/
theorem purgeEmptiesWork : Obligations.PurgeEmptiesWork := by
  intro how s t n letters aborted
  refine ⟨?blocks, fun hen hroom => ?notices⟩
  case blocks =>
    have hexercise : purgeExercise how s.gate.exercise =
        (match how, s.gate.exercise with
          | .warmReset, some (.head _) => none
          | _, e => e) := by
      rcases s.gate.exercise with _ | (_ | _ | _) <;> cases how <;> rfl
    have hheads : s.cancel.heads.map (purgeHead how s.cancel.record.recharge) =
        s.cancel.heads.map fun u => { u with
          queue := []
          waiting := false
          state :=
            match u.state with
            | .striking (.letter _ _ _) => .recharging s.cancel.record.recharge
            | .striking (.test left) =>
              if how = .warmReset then .recharging s.cancel.record.recharge else .striking (.test left)
            | x => x } := rfl
    have hlink := purge_link how s
    have hpurge := purge_eq how s
    rw [hexercise, hheads, hlink] at hpurge
    exact hpurge
  case notices =>
    have haborted : abortedNotice (purgeCalReason how) (dropWork how (purgeTickets how s.tracker.table s)) = aborted := by
      simp [abortedNotice, aborted, purgeChannel]
    rw [List.length_append] at hroom
    have hletters : (dropWork how (purgeTickets how s.tracker.table s)).link =
        { s.link with outbound := s.link.outbound ++ letters } :=
      purgeTickets_link hen (by show _ + letters.length ≤ 60; omega)
    have hused : sharedUsed (dropWork how (purgeTickets how s.tracker.table s)).link =
        sharedUsed s.link + letters.length := by
      rw [hletters]
      exact sharedUsed_append (isReply_purgeLetters (how := how))
    show (abortCal _ _).link = _
    rw [abortCal_link (by rw [hused, haborted]; omega), haborted, hletters]

end Sys2Proof.Proofs
end

section
/-! PROOFS. CAUSE_CLEAR (R147) and SET_CAUSES (R145, R146): the cause named, what its clearing makes of the cause table,
and the new masks acting on the causes in priority order. -/

namespace Sys2Proof.Proofs

open Sys2Proof.Machine Sys2Proof.Safety

/-! ### CAUSE_CLEAR (R147) -/

/-- The state with a cause cleared: its latch and its service gone. -/
def clearedOf (c : Cause) (s : State) : State :=
  { s with run := { s.run with
    causes := s.run.causes.set c { s.run.causes.get c with latch := false, inService := false } } }

/-- A cause not in service is cleared without a notice. -/
theorem clearCause_unserved {c : Cause} {s : State} (h : (s.run.causes.get c).inService = false) :
    clearCause c s = clearedOf c s := by
  refine (if_neg (ne_true_of_eq_false h)).trans ?_
  rw [clearedOf, setCause, ← h]

/-- A cause in service leaves it with its notice, and the table is evaluated. -/
theorem clearCause_served {c : Cause} {s : State} (h : (s.run.causes.get c).inService = true) :
    clearCause c s = evaluate (judgeBeacon (stopNotice c false .clear (clearedOf c s))) := by
  have hcleared : setCause c (fun e => { e with inService := false }) (setCause c (fun e => { e with latch := false }) s) =
      clearedOf c s := by
    simp [setCause, clearedOf]
  rw [← hcleared]
  exact if_pos h

theorem clearCause_causes (c : Cause) (s : State) : (clearCause c s).run.causes = (clearedOf c s).run.causes := by
  cases h : (s.run.causes.get c).inService with
  | true =>
    rw [clearCause_served h]
    simp
  | false => rw [clearCause_unserved h]

/-- The byte of a CAUSE_CLEAR names its cause, or 0 the leading one. -/
theorem causeClearStep_named {f : InFrame} {v : Byte} {c : Cause} {s : State} (hp : f.payload = [v])
    (hc : v.toNat = causeNumber c ∨ v = 0 ∧ leadingCause s = some c) :
    causeClearStep f s = clearNamed f c s := by
  have hrange := causeNumber_range c
  rcases hc with hv | ⟨rfl, hl⟩
  · rw [causeClearStep, hp, readByte_one, hv, if_pos ⟨Nat.zero_le _, hrange.2⟩, answer_ok,
      if_neg (Nat.ne_of_gt hrange.1), causeOf_causeNumber]
  · rw [causeClearStep, hp, readByte_one, if_pos (by decide), answer_ok]
    simp [hl]

/-- A cause that can be cleared is, and the reply names it. -/
theorem clearNamed_clears {f : InFrame} {c : Cause} {s : State} (hheld : heldActive s.pins c = false)
    (hon : (s.run.causes.get c).inService = true ∨ requestPresent s c = true) :
    clearNamed f c s = reply f (.ok (u8 (causeNumber c) ++ encLeading (leadingCause (clearCause c s)) ++
      u8 (runStateNumber (clearCause c s).run.state))) (clearCause c s) := by
  unfold clearNamed
  rw [if_neg (ne_true_of_eq_false hheld), if_neg]
  rcases hon with h | h <;> simp [h]

/-- A cause neither in service nor requested is not cleared. -/
theorem clearNamed_absent {f : InFrame} {c : Cause} {s : State} (hheld : heldActive s.pins c = false)
    (hin : (s.run.causes.get c).inService = false) (hreq : requestPresent s c = false) :
    clearNamed f c s = refuse f barredElsewhere s := by
  unfold clearNamed
  rw [if_neg (ne_true_of_eq_false hheld), if_pos (by simp [hin, hreq])]

/-! ### The new masks (R146) -/

theorem installCauses_get (v : CauseSettings) (r : RunControl) (c : Cause) :
    ((installCauses v r).causes.get c).masked = v.masked.get c ∧
      ((installCauses v r).causes.get c).latch = (r.causes.get c).latch ∧
      ((installCauses v r).causes.get c).inService = (r.causes.get c).inService ∧
      ((installCauses v r).causes.get c).detail = (r.causes.get c).detail := by
  cases c <;> exact ⟨rfl, rfl, rfl, rfl⟩

/-- A cause's service changed in the course of SET_CAUSES, with the notice of the settings before it. -/
def serveMask (s : State) (c : Cause) (on : Bool) (why : StopReason) (w : State) : State :=
  let w1 : State := { w with run := { w.run with
    causes := w.run.causes.set c { w.run.causes.get c with inService := on } } }
  handNotice (.stop c on why (s.run.causes.get c).detail (leadingCause w1) s.run.state s.uptime) w1

/-- What a cause's new mask does, told by the settings before it. -/
def maskStep (v : CauseSettings) (s : State) (w : State) (c : Cause) : State :=
  if (s.run.causes.get c).masked && !v.masked.get c && requestPresent s c then serveMask s c true .unmask w
  else if !(s.run.causes.get c).masked && v.masked.get c && (s.run.causes.get c).inService then
    serveMask s c false .mask w
  else w

/-- The service a cause has after its new mask has acted. -/
def maskedService (v : CauseSettings) (s : State) (c : Cause) : Bool :=
  !v.masked.get c && ((s.run.causes.get c).inService || ((s.run.causes.get c).masked && requestPresent s c))

/-- A masked cause is not in service. -/
theorem unserved_of_masked {s : State} {c : Cause} (hs : ServiceUnmasked s) (hm : (s.run.causes.get c).masked = true) :
    (s.run.causes.get c).inService = false := by
  by_contra hin
  exact absurd ((serviceUnmasked_iff s).mp hs c (eq_true_of_ne_false hin)) (by simp [hm])

/-- In the course of SET_CAUSES the causes still to come stand as installed, and the state's words for the notices
are those before. -/
structure AsInstalled (v : CauseSettings) (s : State) (cs : List Cause) (w : State) : Prop where
  entries : ∀ c ∈ cs, w.run.causes.get c = (installCauses v s.run).causes.get c
  pins : w.pins = s.pins
  uptime : w.uptime = s.uptime
  state : w.run.state = s.run.state

/-- The step of a cause still to come goes by the settings before. -/
theorem applyMask_eq {v : CauseSettings} {s w : State} {c : Cause} {cs : List Cause} (hs : ServiceUnmasked s)
    (h : AsInstalled v s (c :: cs) w) : applyMask s.run.causes w c = maskStep v s w c := by
  obtain ⟨hentries, hpins, huptime, hstate⟩ := h
  obtain ⟨hmasked, hlatch, hin, hdetail⟩ := installCauses_get v s.run c
  rw [← hentries c List.mem_cons_self] at hmasked hlatch hin hdetail
  have hreq : requestPresent w c = requestPresent s c := by
    rw [requestPresent, requestPresent, hpins, hlatch]
  have hserve : ∀ on why, setService c on why w = serveMask s c on why w := by
    intro on why
    simp [setService, stopNotice, setCause, serveMask, hdetail, hstate, huptime]
  unfold applyMask maskStep
  dsimp only
  rw [hserve, hserve, hmasked, hin, hreq]
  cases hm : (s.run.causes.get c).masked with
  | true => simp [unserved_of_masked hs hm]
  | false => rfl

/-- A cause's step gives it its new service with a notice, or finds it there already. -/
theorem maskStep_cases {v : CauseSettings} {s : State} (w : State) {c : Cause} (hs : ServiceUnmasked s) :
    (∃ why, maskStep v s w c = serveMask s c (maskedService v s c) why w) ∨
      maskStep v s w c = w ∧ maskedService v s c = (s.run.causes.get c).inService := by
  unfold maskStep maskedService
  cases hv : v.masked.get c with
  | true =>
    cases hm : (s.run.causes.get c).masked with
    | true => exact .inr ⟨by simp, by simp [unserved_of_masked hs hm]⟩
    | false =>
      cases hin : (s.run.causes.get c).inService
      · exact .inr ⟨by simp, by simp⟩
      · exact .inl ⟨.mask, by simp⟩
  | false =>
    cases hm : (s.run.causes.get c).masked with
    | true =>
      cases hreq : requestPresent s c
      · exact .inr ⟨by simp, by simp⟩
      · exact .inl ⟨.unmask, by simp⟩
    | false => exact .inr ⟨by simp, by simp⟩

/-- A cause's step changes of run control that cause's service alone, and of the rest the link alone. -/
theorem maskStep_frame {v : CauseSettings} {s w : State} {c : Cause} (hs : ServiceUnmasked s)
    (hin : (w.run.causes.get c).inService = (s.run.causes.get c).inService) :
    (maskStep v s w c).run = { w.run with
        causes := w.run.causes.set c { w.run.causes.get c with inService := maskedService v s c } } ∧
      (maskStep v s w c).pins = w.pins ∧ (maskStep v s w c).uptime = w.uptime := by
  rcases maskStep_cases (v := v) w (c := c) hs with ⟨why, h⟩ | ⟨h, hservice⟩
  · rw [h]
    exact ⟨by simp [serveMask], by simp [serveMask], by simp [serveMask]⟩
  · have hsame : w.run = { w.run with
        causes := w.run.causes.set c { w.run.causes.get c with inService := maskedService v s c } } := by
      rw [hservice, ← hin]
      cases c <;> rfl
    rw [h]
    exact ⟨hsame, rfl, rfl⟩

/-- The new masks act in order as told by the settings before, and give each cause its new service. -/
theorem foldl_applyMask {v : CauseSettings} {s w : State} {cs : List Cause} (hs : ServiceUnmasked s)
    (hnodup : cs.Nodup) (h : AsInstalled v s cs w) :
    cs.foldl (applyMask s.run.causes) w = cs.foldl (maskStep v s) w ∧
      (cs.foldl (maskStep v s) w).run = { w.run with causes := (cs.foldl (maskStep v s) w).run.causes } ∧
      ∀ c, (cs.foldl (maskStep v s) w).run.causes.get c =
        if c ∈ cs then { w.run.causes.get c with inService := maskedService v s c } else w.run.causes.get c := by
  induction cs generalizing w with
  | nil => exact ⟨rfl, rfl, fun c => by simp⟩
  | cons x cs ih =>
    obtain ⟨hx, hcs⟩ := List.nodup_cons.mp hnodup
    have hin : (w.run.causes.get x).inService = (s.run.causes.get x).inService := by
      rw [h.entries x List.mem_cons_self]
      exact (installCauses_get v s.run x).2.2.1
    obtain ⟨hrun, hpins, huptime⟩ := maskStep_frame (v := v) hs hin
    have hget : ∀ c, (maskStep v s w x).run.causes.get c =
        if c = x then { w.run.causes.get x with inService := maskedService v s x } else w.run.causes.get c := by
      intro c
      rw [hrun, PerCause.get_set]
    have hrest : AsInstalled v s cs (maskStep v s w x) := by
      refine ⟨fun c hc => ?_, hpins.trans h.pins, huptime.trans h.uptime, by rw [hrun]; exact h.state⟩
      rw [hget, if_neg (by rintro rfl; exact hx hc)]
      exact h.entries c (List.mem_cons_of_mem _ hc)
    obtain ⟨hfold, hframe, hcauses⟩ := ih hcs hrest
    refine ⟨?_, ?_, fun c => ?_⟩
    · rw [List.foldl_cons, applyMask_eq hs h, hfold, List.foldl_cons]
    · rw [List.foldl_cons, hframe, hrun]
    · rw [List.foldl_cons, hcauses c, hget]
      by_cases hcx : c = x
      · subst hcx
        simp [hx]
      · simp [hcx]

/-- The causes in priority order are told by their numbers. -/
theorem eq_allCauses {l : List Cause} (h : l.map causeNumber = [1, 2, 3, 4, 5, 6, 7, 8]) : l = allCauses := by
  have hinj : Function.Injective causeNumber := fun a b hab => by
    rw [← causeOf_causeNumber a, hab, causeOf_causeNumber]
  exact hinj.list_map (h.trans rfl)

/-- The settings installed, with the link-loss timer restarted (R145, R146). -/
def installedOf (v : CauseSettings) (s : State) : State :=
  restartLinkTimer { s with run := installCauses v s.run }

theorem asInstalled_installedOf (v : CauseSettings) (s : State) : AsInstalled v s allCauses (installedOf v s) :=
  ⟨fun _ _ => rfl, rfl, rfl, rfl⟩

/-- SET_CAUSES installs, then the new masks act, and then the beacon and the table are judged. -/
theorem applyCauses_eq {v : CauseSettings} {s : State} (hs : ServiceUnmasked s) :
    applyCauses v s = evaluate (judgeBeacon (allCauses.foldl (maskStep v s) (installedOf v s))) := by
  obtain ⟨hfold, -, -⟩ := foldl_applyMask hs (by decide) (asInstalled_installedOf v s)
  rw [← hfold]
  rfl

/-- Run control after SET_CAUSES but for its state, start and beacon. -/
theorem applyCauses_causes {v : CauseSettings} {s : State} (hs : ServiceUnmasked s) (c : Cause) :
    (applyCauses v s).run.causes.get c =
      { (installCauses v s.run).causes.get c with inService := maskedService v s c } := by
  obtain ⟨-, -, hcauses⟩ := foldl_applyMask hs (by decide) (asInstalled_installedOf v s)
  have hmem : c ∈ allCauses := by cases c <;> decide
  rw [applyCauses_eq hs, evaluate_run_causes, judgeBeacon_run_causes, hcauses, if_pos hmem]
  rfl

/-- SET_CAUSES installs the link timeout, restarts its timer and leaves the fault record. -/
theorem applyCauses_run {v : CauseSettings} {s : State} (hs : ServiceUnmasked s) :
    (applyCauses v s).run.linkTimeout = v.linkTimeout ∧ (applyCauses v s).run.sinceLink = 0 ∧
      (applyCauses v s).run.linkRaised = false ∧ (applyCauses v s).run.faults = s.run.faults := by
  obtain ⟨-, hframe, -⟩ := foldl_applyMask hs (by decide) (asInstalled_installedOf v s)
  rw [applyCauses_eq hs, evaluate_run_linkTimeout, evaluate_run_sinceLink, evaluate_run_linkRaised,
    evaluate_run_faults, judgeBeacon_run_linkTimeout, judgeBeacon_run_sinceLink, judgeBeacon_run_linkRaised,
    judgeBeacon_run_faults, hframe]
  exact ⟨rfl, rfl, rfl, rfl⟩

/-- Settles O28: CAUSE_CLEAR by the cause named and what its clearing comes to, SET_CAUSES by the masks acting in
order. -/
theorem causesClearedAndSet : Obligations.CausesClearedAndSet := by
  refine ⟨fun f rest s v h hcode hp => ⟨fun hv => ?above, fun hv hl => ?none, fun c hc => ⟨fun hheld => ?held,
    fun hheld hin hreq => ?absent, fun hheld hon => ?cleared⟩⟩, fun f rest s v h hcode hread hs => ?settings,
    fun f rest s v h hcode hread hs => ?masks⟩
  case above =>
    exact exec_read_refused h hcode rfl rfl rfl (by rw [hp, readByte_one, if_neg (by omega)])
  case none =>
    subst hv
    rw [exec_taken (c := .causeClear) h hcode rfl rfl, causeClearStep, hp, readByte_one, if_pos (by decide), answer_ok]
    simp [hl, refusedAfter_eq, barredElsewhere]
  case held =>
    rw [exec_taken (c := .causeClear) h hcode rfl rfl, causeClearStep_named hp (by simpa using hc), refusedAfter_eq]
    exact congrArg Host.Outcome.next (if_pos hheld)
  case absent =>
    rw [exec_taken (c := .causeClear) h hcode rfl rfl, causeClearStep_named hp (by simpa using hc),
      clearNamed_absent (s := took rest s) hheld hin (by simpa using hreq), refusedAfter_eq, barredElsewhere]
  case cleared =>
    have hexec : exec .causeClear s = okAfter f (u8 (causeNumber c) ++
        encLeading (leadingCause (clearCause c (took rest s))) ++
        u8 (runStateNumber (clearCause c (took rest s)).run.state)) (clearCause c (took rest s)) := by
      rw [exec_taken (c := .causeClear) h hcode rfl rfl, causeClearStep_named hp (by simpa using hc),
        clearNamed_clears (s := took rest s) hheld (by simpa using hon), okAfter_eq]
    refine ⟨clearCause c (took rest s), hexec, ?_, ?_, fun d hd => ?_, ?_, fun hin => ?_, fun hin => ?_,
      fun hin => ⟨?_, fun hr hg => ?_⟩⟩
    · simp [clearCause_causes, clearedOf]
    · simp [clearCause_causes, clearedOf]
    · simp [clearCause_causes, clearedOf, hd]
    · rw [clearCause_run_faults, took_run]
    · rw [clearCause_unserved (by exact hin)]
      rfl
    · exact clearCause_unserved hin
    · refine ⟨_, clearCause_served hin, judgeBeacon_follows _, ?_⟩
      rw [stopNotice, judgeBeacon_notice]
      simp [clearedOf]
    · rw [clearCause_served (s := took rest s) hin,
        evaluate_leaves_stopped
          ((beltStopGroup_of_causes (s := clearedOf c (took rest s)) (by simp)).trans hg)
          (by simpa [clearedOf] using hr),
        enterRunState_run_state]
  case settings =>
    have hs' : ServiceUnmasked (took rest s) := hs
    have hcauses := applyCauses_causes (v := v) hs'
    obtain ⟨htimeout, hsince, hraised, hfaults⟩ := applyCauses_run (v := v) hs'
    refine ⟨applyCauses v (took rest s), exec_read_taken h hcode rfl rfl rfl hread rfl, htimeout, hsince, hraised,
      congrArg CauseEntry.reaction (hcauses .actuator), congrArg CauseEntry.reaction (hcauses .stackFull),
      congrArg CauseEntry.reaction (hcauses .linkLoss), hfaults, fun c => ?_⟩
    obtain ⟨hmasked, hlatch, -, -⟩ := installCauses_get v s.run c
    rw [hcauses c]
    exact ⟨hmasked, hlatch, rfl⟩
  case masks =>
    intro k installed served inPriority hpriority
    have hs' : ServiceUnmasked (took rest s) := hs
    rw [eq_allCauses hpriority]
    refine ⟨_, _, judgeBeacon_follows (allCauses.foldl (maskStep v (took rest s)) (installedOf v (took rest s))), ?_,
      applyCauses_eq hs', ?_⟩
    · rfl
    · exact exec_read_taken h hcode rfl rfl rfl hread rfl

end Sys2Proof.Proofs
end

section
/-! PROOFS. RESET and the warm reset (R178 to R180): the blocks once purged and reset, then the link begun anew, then
the requests of the active levels. -/

namespace Sys2Proof.Proofs

open Sys2Proof.Machine Sys2Proof.Safety

/-- Run control in a warm reset (R153). -/
def idleRun (r : RunControl) : RunControl :=
  { r with
    state := .idle
    startTimer := none
    startPos := none
    causes := r.causes.map fun e => { e with latch := false, inService := false }
    sinceLink := 0
    linkRaised := false
    beacon := .off }

/-- A head in a warm reset: its queue emptied, its strike cut (R100). -/
def resetHeadUnit (recharge : Nat) (u : HeadUnit) : HeadUnit :=
  { u with
    queue := []
    waiting := false
    state :=
      match u.state with
      | .striking _ => .recharging recharge
      | x => x }

theorem purgeHead_warmReset (recharge : Nat) : purgeHead .warmReset recharge = resetHeadUnit recharge := by
  funext ⟨state, queue, waiting, handed⟩
  rcases state with _ | (_ | _) | _ | _ <;> rfl

/-- The blocks after a warm reset, but for the link (R24, R49, R66, R82, R101, R121, R130, R153, R165). -/
def resetBlocks (s : State) : State :=
  { s with
    tracker := { s.tracker with table := [], prevTrail := none, firstTicket := true, throttle := false }
    channels := s.channels.map fun k => { k with spans := [], leadIn := [], gap := ⟨k.gap.start, []⟩ }
    facing := { s.facing with waiting := [] }
    gate := { s.gate with
      queue := []
      exercise :=
        match s.gate.exercise with
        | some (.head _) => none
        | e => e }
    cancel := { s.cancel with heads := s.cancel.heads.map (resetHeadUnit s.cancel.record.recharge) }
    stacker := { s.stacker with queue := [] }
    tally := { s.tally with
      life := addPurged s.tracker.table.length s.tally.life
      shift := addPurged s.tracker.table.length s.tally.shift
      held := none }
    run := idleRun s.run
    cal := .off
    trace := none }

/-- The state brought to IDLE, where it does not stand there, with the notice of the change. -/
def idled (s : State) : State := if s.run.state = .idle then s else enterRunState .idle .warmReset s

/-- Run control comes to IDLE the same whether or not it stood there. -/
theorem idleControl_idled {s : State} (h : StartMatchesRun s) : idleControl (idled s).run = idleRun s.run := by
  unfold idled
  by_cases hr : s.run.state = .idle
  · obtain ⟨htimer, hpos⟩ := h (by simp [hr])
    rw [if_pos hr, idleControl, idleRun, ← hr, ← htimer, ← hpos]
  · rw [if_neg hr, enterRunState_eq, handNotice_run]
    rfl

/-- The way to IDLE touches the trail of before, run control and the link alone. -/
theorem idled_eq (s : State) :
    idled s = { s with
      tracker := { s.tracker with
        prevTrail := (idled s).tracker.prevTrail, firstTicket := (idled s).tracker.firstTicket }
      run := (idled s).run
      link := (idled s).link } := by
  unfold idled
  split
  · rfl
  · rw [enterRunState_eq, handNotice_eq]
    rfl

/-- Every block's warm reset. -/
theorem warmBlocks_eq {s : State} (h : StartMatchesRun s) : warmBlocks s = resetBlocks s := by
  have hrun : (purge .warmReset s).run = s.run := by simp
  have hstart : StartMatchesRun (purge .warmReset s) := by
    rw [StartMatchesRun, hrun]
    exact h
  calc warmBlocks s
      = { idled (purge .warmReset s) with
          tracker := { (idled (purge .warmReset s)).tracker with prevTrail := none, firstTicket := true }
          run := idleControl (idled (purge .warmReset s)).run
          tally := { (idled (purge .warmReset s)).tally with held := none }
          trace := none
          link := s.link } := rfl
    _ = { purge .warmReset s with
          tracker := { (purge .warmReset s).tracker with prevTrail := none, firstTicket := true }
          run := idleRun s.run
          tally := { (purge .warmReset s).tally with held := none }
          trace := none
          link := s.link } := by
      rw [idleControl_idled hstart, hrun, idled_eq]
    _ = resetBlocks s := by
      have hexercise : purgeExercise .warmReset s.gate.exercise = (resetBlocks s).gate.exercise := by
        unfold resetBlocks
        rcases s.gate.exercise with _ | (_ | _ | _) <;> rfl
      rw [purge_eq, purgeHead_warmReset, hexercise]
      rfl

/-- The link begun anew holds RESET_DONE, LOST where a lost count was above 0, and the replies set aside. -/
theorem restartLink_eq (n : Nat) (s : State) :
    restartLink n s = { s with link := { s.link with
      outbound :=
        [.notice (.resetDone .warm n s.tracker.belt s.uptime s.tracker.nextTicket s.tally.nextSnapshot)] ++
        (if 0 < s.link.reportsLost ∨ 0 < s.link.tracesLost ∨ 0 < s.link.eventsLost then
          [.notice (.lost s.link.reportsLost s.link.tracesLost s.link.eventsLost s.uptime)] else []) ++
        s.link.outbound.filter isReply
      reportsLost := 0
      tracesLost := 0
      eventsLost := 0
      reset := .none } } := by
  have hroom : sharedUsed { s.link with outbound := [.notice (resetDoneNow n s)], reset := .none } + 16 ≤ 60 := by
    simp [sharedUsed, isReply]
  unfold restartLink
  dsimp only
  rw [testLost_cases]
  by_cases hlost : 0 < s.link.reportsLost ∨ 0 < s.link.tracesLost ∨ 0 < s.link.eventsLost
  · rw [if_pos ⟨hlost, hroom⟩, if_pos hlost]
    rfl
  · obtain ⟨h1, h2, h3⟩ : s.link.reportsLost = 0 ∧ s.link.tracesLost = 0 ∧ s.link.eventsLost = 0 := by omega
    rw [if_neg fun h => hlost h.1, if_neg hlost]
    simp [h1, h2, h3, resetDoneNow]

/-- Settles O32: the reset's request by its step, the warm reset by the blocks and the link it leaves and the requests
that follow. -/
theorem resetRunsWarmReset : Obligations.ResetRunsWarmReset := by
  refine ⟨⟨fun f rest s h hcode hp => ?request, fun s h => ?idle⟩, fun s h hstart => ?due⟩
  case request => exact exec_bare_taken h hp hcode rfl rfl rfl
  case idle => exact congrArg Host.Outcome.next (if_neg h)
  case due =>
    intro n t
    have ht : restartLink (occupancy s) (warmBlocks s) = t := by
      rw [warmBlocks_eq hstart, restartLink_eq]
      rfl
    have hexec : exec .warmReset s = .next (requestLevels t) := by
      rw [← ht]
      exact congrArg Host.Outcome.next (if_pos h)
    refine ⟨by rw [hexec, requestLevels_eq], fun hdoor hext hfull hfault => ?_⟩
    rw [hexec, requestLevels_quiet (s := t) hdoor hext hfull hfault]

end Sys2Proof.Proofs
end

section
/-! PROOFS. EXERCISE (R77 to R81): the row its actuator names, the argument judged in order, and the start of each
exercise. -/

namespace Sys2Proof.Proofs

open Sys2Proof.Machine Sys2Proof.Safety

/-! ### The argument and the row (R77; log 14) -/

/-- Two fields are judged by the run state, the actuator, the argument and the exercise in progress, in this order. -/
theorem exerciseArg_pair {lo hi : Nat} {f : InFrame} {a x : Byte} (s : State) (hp : f.payload = [a, x]) :
    exerciseArg lo hi f s =
      if s.run.state ≠ .idle then .error (barredByRunState s)
      else if 2 < a.toNat then .error (.badValue 1)
      else if x.toNat < lo ∨ hi < x.toNat then .error (.badValue 2)
      else if s.gate.exercise.isSome then .error .inUse
      else .ok x.toNat := by
  rw [exerciseArg, hp]

/-- Any other number of fields is refused. -/
theorem exerciseArg_length {lo hi : Nat} {f : InFrame} (s : State) (hp : f.payload.length ≠ 2) :
    exerciseArg lo hi f s = .error .badLength := by
  unfold exerciseArg
  split
  next heq => exact absurd (by rw [heq]; rfl) hp
  next => rfl

/-- In IDLE with no exercise in progress an argument in its range is read. -/
theorem exerciseArg_ok {lo hi : Nat} {f : InFrame} {a x : Byte} {s : State} (hp : f.payload = [a, x])
    (hr : s.run.state = .idle) (ha : a.toNat ≤ 2) (hlo : lo ≤ x.toNat) (hhi : x.toNat ≤ hi)
    (hex : s.gate.exercise = none) : exerciseArg lo hi f s = .ok x.toNat := by
  rw [exerciseArg_pair s hp, if_neg (by simp [hr]), if_neg (by omega), if_neg (by omega), if_neg (by simp [hex])]

/-- An EXERCISE of another length is the row of the gate. -/
theorem requestOf_exercise_length {tag : Byte} {p : List Byte} (hp : p.length ≠ 2) :
    requestOf ⟨0x38, tag, p⟩ = .exerciseGate := by
  match p, hp with
  | [], _ => rfl
  | [_], _ => rfl
  | [_, _], h => exact absurd rfl h
  | _ :: _ :: _ :: _, _ => rfl

/-- The range of an EXERCISE's argument, by its actuator (R77). -/
def exerciseRange (a : Byte) : Nat × Nat := if a = 1 then (1, 5) else (0, 1)

/-- The row an actuator names. -/
def exerciseRow (a : Byte) : Instr := if a = 1 then .exerciseFlap else if a = 2 then .exerciseHead else .exerciseGate

/-- Each row refuses what the judging of its argument refuses. -/
theorem exec_exercise_refused {f : InFrame} {rest : List InFrame} {s : State} {a x : Byte} {r : Reason}
    (h : CanTake s f rest) (hcode : f.code = 0x38) (hp : f.payload = [a, x])
    (harg : exerciseArg (exerciseRange a).1 (exerciseRange a).2 f (took rest s) = .error r) :
    exec (exerciseRow a) s = refusedAfter f r rest s := by
  have hrow : requestOf ⟨0x38, f.tag, f.payload⟩ = exerciseRow a := by
    rw [hp]
    rfl
  unfold exerciseRow at hrow ⊢
  by_cases h1 : a = 1
  · rw [if_pos h1] at hrow ⊢
    rw [exerciseRange, if_pos h1] at harg
    exact exec_read_refused h hcode hrow rfl rfl harg
  · rw [if_neg h1] at hrow ⊢
    rw [exerciseRange, if_neg h1] at harg
    by_cases h2 : a = 2
    · rw [if_pos h2] at hrow ⊢
      exact exec_read_refused h hcode hrow rfl rfl harg
    · rw [if_neg h2] at hrow ⊢
      exact exec_read_refused h hcode hrow rfl rfl harg

/-! ### The three rows taken (R78 to R80) -/

/-- A gate exercise that the link can take, its argument in range. -/
theorem exec_exerciseGate_taken {f : InFrame} {rest : List InFrame} {s : State} {p : Path} (h : CanTake s f rest)
    (hcode : f.code = 0x38) (hr : s.run.state = .idle) (hex : s.gate.exercise = none)
    (hp : f.payload = [0, if p = .turn then 1 else 0]) :
    exec .exerciseGate s = .next
      ((if s.gate.confirm.isSome then refuse f .inUse else startGateExercise p f) (took rest s)) := by
  have hpath : pathOf (if p = .turn then 1 else 0 : Byte).toNat = p := by cases p <;> rfl
  have hx : (if p = .turn then 1 else 0 : Byte).toNat ≤ 1 := by cases p <;> decide
  have harg : exerciseArg 0 1 f (took rest s) = .ok _ :=
    exerciseArg_ok hp hr (by decide) (Nat.zero_le _) hx hex
  refine exec_read_taken h hcode (by rw [hp]; rfl) rfl rfl harg ?_
  rw [hpath, took_gate]

/-- A flap exercise that the link can take. -/
theorem exec_exerciseFlap_taken {f : InFrame} {rest : List InFrame} {s : State} {x : Flap} (h : CanTake s f rest)
    (hcode : f.code = 0x38) (hr : s.run.state = .idle) (hex : s.gate.exercise = none)
    (hp : f.payload = 1 :: u8 (flapNumber x)) :
    exec .exerciseFlap s =
      if s.stacker.flaps.get x then refusedAfter f .inUse rest s
      else okAfter f [] { took rest s with gate := { s.gate with exercise := some (.flap x 100) } } := by
  have hx : (BitVec.ofNat 8 (flapNumber x)).toNat = flapNumber x := by cases x <;> rfl
  have hrange := flapNumber_range x
  have harg : exerciseArg 1 5 f (took rest s) = .ok _ :=
    exerciseArg_ok hp hr (by decide) (by omega) (by omega) hex
  rw [hx] at harg
  rw [exec_taken (c := .exerciseFlap) h hcode (by rw [hp]; rfl) rfl, exerciseFlapStep, harg, answer_ok,
    flapOf_flapNumber, took_stacker]
  split <;> rfl

/-- A head exercise that the link can take. -/
theorem exec_exerciseHead_taken {f : InFrame} {rest : List InFrame} {s : State} {x : Head} (h : CanTake s f rest)
    (hcode : f.code = 0x38) (hr : s.run.state = .idle) (hex : s.gate.exercise = none)
    (hp : f.payload = [2, if x = .b then 1 else 0]) :
    exec .exerciseHead s = 
      match (s.cancel.heads.get x).state with
      | .ready => okAfter f [] { took rest s with
          gate := { s.gate with exercise := some (.head x) }
          cancel := { s.cancel with heads := s.cancel.heads.set x { s.cancel.heads.get x with
            state := .striking (.test 20) } } }
      | .disabled => refusedAfter f (.wrongState 0xFFFF) rest s
      | _ => refusedAfter f .inUse rest s := by
  have hhead : headOf (if x = .b then 1 else 0 : Byte).toNat = x := by cases x <;> rfl
  have hx : (if x = .b then 1 else 0 : Byte).toNat ≤ 1 := by cases x <;> decide
  have harg : exerciseArg 0 1 f (took rest s) = .ok _ :=
    exerciseArg_ok hp hr (by decide) (Nat.zero_le _) hx hex
  rw [exec_taken (c := .exerciseHead) h hcode (by rw [hp]; rfl) rfl, exerciseHeadStep, harg, answer_ok]
  dsimp only
  rw [hhead, took_cancel]
  cases (s.cancel.heads.get x).state <;> rfl

/-- A gate exercise waits for its confirm where the input does not read its target. -/
theorem startGateExercise_unread {p : Path} {f : InFrame} {s : State} (h : gateReads s.pins p = false) :
    startGateExercise p f s = { s with gate := { s.gate with
      output := p, exercise := some (.gate p s.tracker.geometry.gateConfirm s.uptime f.tag) } } :=
  if_neg (ne_true_of_eq_false h)

/-- A gate exercise is answered at once where the input already reads its target. -/
theorem startGateExercise_read {p : Path} {f : InFrame} {s : State} (h : gateReads s.pins p = true)
    (hcode : f.code = 0x38) (hex : s.gate.exercise = none) :
    startGateExercise p f s =
      reply f (.ok (u8 (pathNumber p) ++ u8 0)) { s with gate := { s.gate with output := p } } := by
  refine (if_pos (by exact h)).trans ?_
  rw [endGateExercise_some rfl]
  simp only [if_pos h, reply, enqueue, hcode, BitVec.sub_self, ← hex]
  rfl

/-- Settles O31: each start by the row taken, and the refusals by the judging of the argument. -/
theorem exercisesStart : Obligations.ExercisesStart := by
  refine ⟨fun f rest s h hcode hr hex => ⟨fun p hp hc hread => ?gateWaits, fun p hp hc hread => ?gateRead,
    fun x hp hx => ?flap, fun x hp hx => ?head, fun p hp hc => ?gateInUse, fun x hp hx => ?flapOpen,
    fun x hp => ⟨fun left hx => ?recharging, fun hx => ?disabled⟩⟩, fun f rest s h hcode => ⟨fun hlen => ?length,
    fun a x hp => ?pair⟩⟩
  case gateWaits =>
    rw [exec_exerciseGate_taken h hcode hr hex hp, if_neg (by simp [hc]),
      startGateExercise_unread (s := took rest s) hread]
    rfl
  case gateRead =>
    rw [exec_exerciseGate_taken h hcode hr hex hp, if_neg (by simp [hc]),
      startGateExercise_read (s := took rest s) hread hcode hex]
    rfl
  case flap => rw [exec_exerciseFlap_taken h hcode hr hex hp, if_neg (ne_true_of_eq_false hx)]
  case head => rw [exec_exerciseHead_taken h hcode hr hex hp, hx]
  case gateInUse =>
    rw [exec_exerciseGate_taken h hcode hr hex hp, if_pos (Option.isSome_iff_ne_none.mpr hc), refusedAfter_eq]
  case flapOpen => rw [exec_exerciseFlap_taken h hcode hr hex hp, if_pos hx]
  case recharging => rw [exec_exerciseHead_taken h hcode hr hex hp, hx]
  case disabled => rw [exec_exerciseHead_taken h hcode hr hex hp, hx]
  case length =>
    exact exec_read_refused h hcode (requestOf_exercise_length hlen) rfl rfl (exerciseArg_length _ hlen)
  case pair =>
    intro row bad
    have harg := exerciseArg_pair (lo := (exerciseRange a).1) (hi := (exerciseRange a).2) (took rest s) hp
    have hbad : (x.toNat < (exerciseRange a).1 ∨ (exerciseRange a).2 < x.toNat) ↔ bad := by
      unfold exerciseRange
      by_cases h1 : a = 1
      · rw [if_pos h1]
        exact (iff_of_eq (if_pos h1)).symm
      · rw [if_neg h1]
        exact Iff.trans (by simp) (iff_of_eq (if_neg h1)).symm
    refine ⟨fun hr => ?_, fun hr ha => ?_, fun hr ha hb => ?_, fun hr ha hb hex => ?_⟩
    · exact exec_exercise_refused h hcode hp (harg.trans (if_pos hr))
    · rw [if_neg (by simp [hr]), if_pos ha] at harg
      exact exec_exercise_refused h hcode hp harg
    · rw [if_neg (by simp [hr]), if_neg (by omega), if_pos (hbad.mpr hb)] at harg
      exact exec_exercise_refused h hcode hp harg
    · rw [if_neg (by simp [hr]), if_neg (by omega), if_neg (mt hbad.mp hb),
        if_pos (by exact Option.isSome_iff_ne_none.mpr hex)] at harg
      exact exec_exercise_refused h hcode hp harg

end Sys2Proof.Proofs
end

section
/-! PROOFS. Calibration and the scan trace (R155 to R164): their requests, the collecting of marks, the proposal, and the
test of a decision against the arm. -/

namespace Sys2Proof.Proofs

open Sys2Proof.Machine Sys2Proof.Safety

/-! ### The readers (R155, R162) -/

theorem readCalStart_channel (c : Channel) : readCalStart (u8 (channelNumber c)) = .ok (c, 1200, 4) := by
  cases c <;> rfl

theorem readCalStart_fields (c : Channel) {target n : Nat} (h1 : 200 ≤ target) (h2 : target ≤ 2000) (h3 : 1 ≤ n)
    (h4 : n ≤ 16) : readCalStart (u8 (channelNumber c) ++ u16 target ++ u8 n) = .ok (c, target, n) := by
  have hc := channelNumber_lt c
  have hone : takeFields [1] (u8 (channelNumber c) ++ u16 target ++ u8 n) = none :=
    takeFields_none (by simp [u8, u16])
  have hfields : takeFields [1, 2, 1] (u8 (channelNumber c) ++ u16 target ++ u8 n) =
      some [channelNumber c, target, n] := by
    have hlast : takeFields [1] (u8 n) = some [n] := by simpa using takeFields_u8 [] [] (n := n) (by omega)
    rw [List.append_assoc, takeFields_u8 _ _ (by omega), takeFields_u16 _ _ (by omega), hlast]
    rfl
  have hrange : firstBad 1 [(channelNumber c, 0, 3), (target, 200, 2000), (n, 1, 16)] = none :=
    firstBad_none (by simp [hc, h1, h2, h3, h4])
  rw [readCalStart, hone, hfields]
  simp [checked, hrange]

theorem readTraceArm_ticket (n : U16) : readTraceArm (1 :: word16 n) = .ok (.ticket n) := by
  have hn : BitVec.ofNat 16 (beNat (word16 n)) = n := by
    rw [word16, beNat_u16 n.isLt, BitVec.ofNat_toNat, BitVec.setWidth_eq]
  calc readTraceArm (1 :: word16 n) = .ok (.ticket (BitVec.ofNat 16 (beNat (word16 n)))) := rfl
    _ = .ok (.ticket n) := by rw [hn]

theorem readTraceArm_outcome {o : LetterOutcome} (h : o ≠ .handCancel) :
    readTraceArm (2 :: u8 (outcomeNumber o)) = .ok (.outcome o) := by
  cases o
  case handCancel => exact absurd rfl h
  all_goals rfl

/-! ### CAL_APPLY and the abort (R160, R161) -/

theorem calApplyStep_ready {f : InFrame} {r : CalRecord} {p : Proposal} {s : State} (hp : f.payload = [])
    (hcal : s.cal = .ready r p) :
    calApplyStep f s = reply f
      (.ok (u8 (channelNumber r.channel) ++ u8 p.code.toNat ++ u8 (s.channels.get r.channel).trim.toNat))
      (installTrim r.channel p.code { s with cal := .off }) := by
  rw [calApplyStep, hp, noFields_nil, answer_ok]
  simp only [hcal]

theorem calApplyStep_other {f : InFrame} {s : State} (hp : f.payload = []) (hcal : ∀ r p, s.cal ≠ .ready r p) :
    calApplyStep f s = refuse f barredElsewhere s := by
  rw [calApplyStep, hp, noFields_nil, answer_ok]
  cases hc : s.cal with
  | ready r p => exact absurd hc (hcal r p)
  | off => rfl
  | collecting r => rfl

/-- A deviation of the calibrated channel ends the calibration with its notice. -/
theorem abortCalOf_running {r : CalRecord} {s : State} {why : CalAbortReason} (h : calRunning s.cal = some r) :
    abortCalOf r.channel why s = calNotice r .aborted (some why) none none { s with cal := .off } := by
  rw [abortCalOf, if_pos (by rw [h]; rfl), abortCal, h]

/-! ### The proposal (R157) -/

theorem gain32_cast (code : BitVec 4) : (gain32 code : Int) = 32 + code.toInt := by
  have h : ∀ c : BitVec 4, 0 ≤ 32 + c.toInt := by decide
  rw [gain32, signedTrim, Int.toNat_of_nonneg (h code)]

theorem proposedTrim_eq (code : BitVec 4) (target avg : Nat) :
    proposedTrim code target avg = (2 * (32 + code.toInt) * target + avg) / (2 * avg) - 32 := by
  rw [proposedTrim, ← gain32_cast]
  push_cast
  rfl

/-- The clamp changes exactly a trim outside −8 to 7. -/
theorem ne_clampTrim_iff (c : Int) : c ≠ clampTrim c ↔ c < -8 ∨ 7 < c := by
  unfold clampTrim
  omega

theorem proposal_eq (code : BitVec 4) (target avg : Nat) :
    proposal code target avg =
      let c : Int := (2 * (32 + code.toInt) * target + avg) / (2 * avg) - 32
      ⟨avg, BitVec.ofInt 4 (max (-8) (min 7 c)), decide (c < -8 ∨ 7 < c)⟩ := by
  simp only [proposal, proposedTrim_eq, ne_clampTrim_iff]
  rfl

/-! ### The collecting of marks (R156, R158) -/

/-- Once the state has left COLLECTING the marks are passed over. -/
theorem takeMarks_idle {ms : List Mark} {s : State} (h : ∀ r, s.cal ≠ .collecting r) : takeMarks ms s = s := by
  cases ms with
  | nil => rfl
  | cons m ms =>
    unfold takeMarks
    split
    next r hr => exact absurd hr (h r)
    next => rfl

/-- A mark of another channel or kind gives nothing. -/
theorem takeMarks_other {r : CalRecord} {m : Mark} {ms : List Mark} {s : State} (hcal : s.cal = .collecting r)
    (h : m.channel ≠ r.channel ∨ m.kind = .meter) : takeMarks (m :: ms) s = takeMarks ms s := by
  rw [takeMarks, hcal]
  refine if_neg fun ⟨hc, hk⟩ => ?_
  rcases h with h | h
  · exact h hc
  · rw [h] at hk
    cases hk

/-- A STAMP mark of the calibrated channel is taken. -/
theorem takeMarks_stamp {r : CalRecord} {m : Mark} {ms : List Mark} {s : State} (hcal : s.cal = .collecting r)
    (hc : m.channel = r.channel) (hk : m.kind = .stamp) : takeMarks (m :: ms) s = takeMarks ms (takeMark r m s) := by
  rw [takeMarks, hcal]
  exact if_pos ⟨hc, hk⟩

/-- A notice of a calibration that has left COLLECTING is the last of the marks. -/
theorem takeMarks_told {r : CalRecord} {st : CalStatus} {why : Option CalAbortReason} {avg : Option Nat}
    {code : Option (BitVec 4)} {c : Cal} (ms : List Mark) (s : State) (h : ∀ r, c ≠ .collecting r) :
    takeMarks ms (calNotice r st why avg code { s with cal := c }) = calNotice r st why avg code { s with cal := c } := by
  refine takeMarks_idle fun r' => ?_
  rw [calNotice_cal]
  exact h r'

theorem takeMark_clipped {r : CalRecord} {m : Mark} (s : State) (h : m.clipped = true) :
    takeMark r m s = if 4 ≤ r.clipped + 1 then calNotice (countClipped r) .clipped none none none { s with cal := .off }
      else { s with cal := .collecting (countClipped r) } := if_pos h

theorem takeMark_valid {r : CalRecord} {m : Mark} (s : State) (h : m.clipped = false) :
    takeMark r m s = if r.cards ≤ r.valid + 1 then propose (countPeak m.peak r) s
      else { s with cal := .collecting (countPeak m.peak r) } := if_neg (ne_true_of_eq_false h)

/-- At N valid peaks an average of 0 is NO_SIGNAL, another gives the proposal. -/
theorem propose_countPeak (r : CalRecord) (peak : Nat) (s : State) :
    propose (countPeak peak r) s =
      let avg := (r.sum + peak) / r.cards
      let p := proposal (s.channels.get r.channel).trim r.target avg
      if avg = 0 then calNotice (countPeak peak r) .noSignal none (some avg) none { s with cal := .off }
      else calNotice (countPeak peak r) (if p.limit then .limit else .ok) none (some avg) (some p.code)
        { s with cal := .ready (countPeak peak r) p } := rfl

/-- Settles O30: each request by its reader, the marks by what each one taken comes to, the trace by its condition. -/
theorem calibrationAndTraceRequests : Obligations.CalibrationAndTraceRequests := by
  refine ⟨fun f rest s h => ⟨fun c target n hcode h1 h2 h3 h4 hp => ?startFields, fun c hcode hp => ?startChannel,
      fun r p hcode hp hcal => ?apply, fun hcode hp hcal => ?applyOther, fun hcode hp => ?abort,
      fun hcode hp => ?armNext, fun n hcode hp => ?armTicket, fun o hcode ho hp => ?armOutcome,
      fun hcode hp => ?disarm⟩,
    fun r s why h => ?aborted,
    ⟨fun y s h => ?unfit, fun y s ha hb hl => ?fit, fun ms s => takeMarks_idle, fun r m ms s hcal => ?marks⟩,
    fun y cls o s h => ?unmet, fun y cls o cond s hcond hmet => ?met⟩
  case startFields =>
    rw [hp]
    exact exec_read_taken h hcode rfl rfl rfl (by rw [hp, readCalStart_fields c h1 h2 h3 h4]) rfl
  case startChannel =>
    rw [hp]
    exact exec_read_taken h hcode rfl rfl rfl (by rw [hp, readCalStart_channel]) rfl
  case apply => rw [exec_taken (c := .calApply) h hcode rfl rfl, calApplyStep_ready (s := took rest s) hp hcal]; rfl
  case applyOther =>
    rw [exec_taken (c := .calApply) h hcode rfl rfl, calApplyStep_other (s := took rest s) hp hcal, refusedAfter_eq,
      barredElsewhere]
  case abort => exact exec_bare_taken h hp hcode rfl rfl rfl
  case armNext => exact exec_read_taken h hcode rfl rfl rfl (by rw [hp]; rfl) rfl
  case armTicket => exact exec_read_taken h hcode rfl rfl rfl (by rw [hp, readTraceArm_ticket]) rfl
  case armOutcome => exact exec_read_taken h hcode rfl rfl rfl (by rw [hp, readTraceArm_outcome ho]) rfl
  case disarm => exact exec_bare_taken h hp hcode rfl rfl rfl
  case aborted => exact abortCalOf_running h
  case unfit => exact if_pos (by rcases h with h | h | h <;> simp [h, isLong])
  case fit => exact if_neg (by simp [ha, hb, hl, isLong])
  case marks =>
    intro avg trim told
    refine ⟨takeMarks_other hcal, fun hc hk => ⟨fun hclip hfew => ?_, fun hclip hmany => ?_, fun hclip hfew => ?_,
      fun hclip hlast hzero => ?_, fun hclip hlast hpos => ?_⟩⟩
    · rw [takeMarks_stamp hcal hc hk, takeMark_clipped s hclip, if_neg (by omega)]
      rfl
    · rw [takeMarks_stamp hcal hc hk, takeMark_clipped s hclip, if_pos hmany, takeMarks_told ms s (by simp)]
      rfl
    · rw [takeMarks_stamp hcal hc hk, takeMark_valid s hclip, if_neg (by omega)]
      rfl
    · rw [takeMarks_stamp hcal hc hk, takeMark_valid s hclip, if_pos hlast, propose_countPeak]
      dsimp only
      rw [if_pos hzero, takeMarks_told ms s (by simp), show (r.sum + m.peak) / r.cards = 0 from hzero]
      rfl
    · rw [takeMarks_stamp hcal hc hk, takeMark_valid s hclip, if_pos hlast, propose_countPeak]
      dsimp only
      rw [if_neg (Nat.ne_of_gt hpos), takeMarks_told ms s (by simp), proposal_eq]
      simp only [decide_eq_true_eq]
      rfl
  case unmet =>
    unfold testTrace
    split
    next => rfl
    next cond hcond =>
      refine if_neg ?_
      rcases h cond hcond with ⟨n, rfl, hn⟩ | ⟨p, rfl, hp⟩
      · simpa [condMet] using hn
      · simpa [condMet] using hp
  case met =>
    have hcondMet : condMet y.number o cond = true := by
      rcases hmet with rfl | rfl | rfl <;> simp [condMet]
    unfold testTrace
    rw [hcond]
    exact if_pos hcondMet

end Sys2Proof.Proofs
end

section
/-! PROOFS. The cancel record and the plates (R83 to R87), and the heads brought in line with them (R95). -/

namespace Sys2Proof.Proofs

open Sys2Proof.Machine Sys2Proof.Safety

/-! ### The last field of a payload -/

theorem takeFields_u8_last {n : Nat} (h : n < 256) : takeFields [1] (u8 n) = some [n] := by
  simpa using takeFields_u8 [] [] h

theorem takeFields_u16_last {n : Nat} (h : n < 65536) : takeFields [2] (u16 n) = some [n] := by
  simpa using takeFields_u16 [] [] h

theorem flag_eq_u8 (b : Bool) : flag b = u8 (if b then 1 else 0) := by cases b <;> rfl

/-! ### The heads brought in line (R95, R98) -/

/-- A head unit brought in line with what bars it. -/
def judgedUnit (barred : Bool) (recharge : Nat) (u : HeadUnit) : HeadUnit :=
  if barred = true ∧ u.state ≠ .disabled then disabledUnit u
  else if barred = false ∧ u.state = .disabled then { u with state := .recharging recharge }
  else u

theorem judgeHead_heads (h : Head) (s : State) :
    (judgeHead h s).cancel.heads =
      s.cancel.heads.set h (judgedUnit (headBarred s h) s.cancel.record.recharge (s.cancel.heads.get h)) := by
  unfold judgeHead judgedUnit
  cases headBarred s h with
  | true =>
    by_cases hd : (s.cancel.heads.get h).state = .disabled
    · simp [hd, heads_set_same]
    · simp [hd, disableHead_heads]
  | false =>
    by_cases hd : (s.cancel.heads.get h).state = .disabled
    · simp [hd, recharge]
    · simp [hd, heads_set_same]

/-- Without a waiting entry no ticket and no tally changes. -/
theorem judgeHead_unwaiting {h : Head} {s : State} (hwait : (s.cancel.heads.get h).waiting = false) :
    (judgeHead h s).tracker = s.tracker ∧ (judgeHead h s).tally = s.tally := by
  by_cases hb : headBarred s h = true
  · rw [judgeHead_barred_idle hb hwait]
    exact ⟨rfl, rfl⟩
  · by_cases hd : (s.cancel.heads.get h).state = .disabled
    · rw [judgeHead_free (eq_false_of_ne_true hb) hd]
      exact ⟨rfl, rfl⟩
    · rw [judgeHead, if_neg hb, if_neg hd]
      exact ⟨rfl, rfl⟩

/-- Of the gate only the exercise can change, and that only where a test strike is cut. -/
theorem judgeHead_gate (h : Head) (s : State) :
    (judgeHead h s).gate = { s.gate with exercise := (judgeHead h s).gate.exercise } := by
  unfold judgeHead
  split
  · split
    · rfl
    · rw [disableHead_gate]
  · split <;> rfl

theorem judgeHead_gate_untested {h : Head} {s : State}
    (ht : ∀ left, (s.cancel.heads.get h).state ≠ .striking (.test left)) : (judgeHead h s).gate = s.gate := by
  have hcut : exerciseCut h (s.cancel.heads.get h).state s.gate.exercise = s.gate.exercise := by
    unfold exerciseCut
    split
    next left heq => exact absurd heq (ht left)
    next => rfl
  unfold judgeHead
  split
  · split
    · rfl
    · rw [disableHead_gate, hcut]
  · split <;> rfl

/-- Both heads brought in line, side A's first. -/
def judgedHeads (s : State) : State := judgeHead .b (judgeHead .a s)

theorem judgedHeads_eq (s : State) :
    judgedHeads s = { s with
      gate := { s.gate with exercise := (judgedHeads s).gate.exercise }
      cancel := { s.cancel with heads := (judgedHeads s).cancel.heads }
      tracker := { s.tracker with table := (judgedHeads s).tracker.table }
      tally := (judgedHeads s).tally } := by
  have hgate : (judgedHeads s).gate = { s.gate with exercise := (judgedHeads s).gate.exercise } :=
    (judgeHead_gate _ _).trans (congrArg (fun g : Gate => { g with exercise := (judgedHeads s).gate.exercise })
      (judgeHead_gate .a s))
  calc judgedHeads s = { s with
        gate := (judgedHeads s).gate
        cancel := { s.cancel with heads := (judgedHeads s).cancel.heads }
        tracker := { s.tracker with table := (judgedHeads s).tracker.table }
        tally := (judgedHeads s).tally } := by
        rw [judgedHeads, judgeHead_eq .b, judgeHead_eq .a s]
    _ = _ := by rw [← hgate]

theorem judgeHead_headBarred (h x : Head) (s : State) : headBarred (judgeHead h s) x = headBarred s x := by
  rw [judgeHead_eq]
  rfl

theorem judgeHead_record (h : Head) (s : State) : (judgeHead h s).cancel.record = s.cancel.record := by
  rw [judgeHead_eq]

theorem judgedHeads_get (s : State) (h : Head) :
    (judgedHeads s).cancel.heads.get h =
      judgedUnit (headBarred s h) s.cancel.record.recharge (s.cancel.heads.get h) := by
  rw [judgedHeads, judgeHead_heads, judgeHead_heads .a s, judgeHead_headBarred, judgeHead_record]
  cases h <;> simp

theorem judgeHead_other {h x : Head} (s : State) (hx : x ≠ h) :
    (judgeHead h s).cancel.heads.get x = s.cancel.heads.get x := by
  rw [judgeHead_heads, PerHead.get_set, if_neg hx]

theorem judgedHeads_unwaiting {s : State} (ha : s.cancel.heads.a.waiting = false)
    (hb : s.cancel.heads.b.waiting = false) :
    (judgedHeads s).tracker = s.tracker ∧ (judgedHeads s).tally = s.tally := by
  obtain ⟨htracker, htally⟩ := judgeHead_unwaiting (h := .a) ha
  obtain ⟨htracker', htally'⟩ := judgeHead_unwaiting (h := .b) (s := judgeHead .a s)
    (by rw [judgeHead_other s (by decide)]; exact hb)
  exact ⟨htracker'.trans htracker, htally'.trans htally⟩

theorem judgedHeads_gate_untested {s : State}
    (ht : ∀ h left, (s.cancel.heads.get h).state ≠ .striking (.test left)) : (judgedHeads s).gate = s.gate := by
  refine (judgeHead_gate_untested fun left => ?_).trans (judgeHead_gate_untested (ht .a))
  rw [judgeHead_other s (by decide)]
  exact ht .b left

/-! ### The readers -/

/-- The bytes of a cancel record in its ranges are read as that record. -/
theorem readCancel_encCancel {r : CancelRecord} (h1 : r.leadMargin ≤ 40) (h2 : r.trailMargin ≤ 40)
    (h3 : r.postmark ≤ 120) (h4 : 2 ≤ r.clearance) (h5 : r.clearance ≤ 20) (h6 : 2 ≤ r.recharge)
    (h7 : r.recharge ≤ 100) : readCancel (encCancel r) = .ok (some r) := by
  obtain ⟨lm, tm, pm, cl, rc, a, b⟩ := r
  dsimp only at h1 h2 h3 h4 h5 h6 h7
  have hbit (x : Bool) : (if x then 1 else 0) ≤ 1 := by cases x <;> decide
  have hbyte (x : Bool) : (if x then 1 else 0) < 256 := by cases x <;> decide
  have hfields : takeFields [1, 1, 1, 1, 1, 1, 1] (encCancel ⟨lm, tm, pm, cl, rc, a, b⟩) =
      some [lm, tm, pm, cl, rc, if a then 1 else 0, if b then 1 else 0] := by
    simp only [encCancel, flag_eq_u8, List.append_assoc]
    rw [takeFields_u8 _ _ (by omega), takeFields_u8 _ _ (by omega), takeFields_u8 _ _ (by omega),
      takeFields_u8 _ _ (by omega), takeFields_u8 _ _ (by omega), takeFields_u8 _ _ (hbyte a),
      takeFields_u8_last (hbyte b)]
    rfl
  have hrange : firstBad 1 [(lm, 0, 40), (tm, 0, 40), (pm, 0, 120), (cl, 2, 20), (rc, 2, 100),
      (if a then 1 else 0, 0, 1), (if b then 1 else 0, 0, 1)] = none :=
    firstBad_none (by simp [h1, h2, h3, h4, h5, h6, h7, hbit])
  have hne : encCancel ⟨lm, tm, pm, cl, rc, a, b⟩ ≠ [] := List.cons_ne_nil _ _
  rw [readCancel, if_neg hne, hfields]
  simp only [checked, hrange]
  cases a <;> cases b <;> rfl

/-- The bytes of a slot and a plate in its ranges are read as them. -/
theorem readPlate_encPlate {p : Slot} {q : Plate} (hoffice : officeOk q.office = true) (h1 : 1 ≤ q.day)
    (h2 : q.day ≤ 31) (h3 : 1 ≤ q.month) (h4 : q.month ≤ 12) (h5 : 2000 ≤ q.year) (h6 : q.year ≤ 2099)
    (h7 : 65 ≤ q.shift.toNat) (h8 : q.shift.toNat ≤ 90) (h9 : q.slogan ≤ 15) :
    readPlate (u8 (slotNumber p) ++ encPlate q) = .ok (slotNumber p, q) := by
  obtain ⟨office, day, month, year, shift, slogan⟩ := q
  dsimp only at hoffice h1 h2 h3 h4 h5 h6 h7 h8 h9
  have hp := slotNumber_range p
  have hlen : office.length ≤ 12 := by
    simp only [officeOk, Bool.and_eq_true, decide_eq_true_eq] at hoffice
    exact hoffice.1.2
  have hcount : (BitVec.ofNat 8 office.length).toNat = office.length := by
    rw [BitVec.toNat_ofNat]
    omega
  have hslot : (BitVec.ofNat 8 (slotNumber p)).toNat = slotNumber p := by cases p <;> rfl
  have hfields : takeFields [1, 1, 2, 1, 1] (u8 day ++ (u8 month ++ (u16 year ++ ([shift] ++ u8 slogan)))) =
      some [day, month, year, shift.toNat, slogan] := by
    have hshift : [shift] = u8 shift.toNat := by simp [u8]
    rw [hshift, takeFields_u8 _ _ (by omega), takeFields_u8 _ _ (by omega), takeFields_u16 _ _ (by omega),
      takeFields_u8 _ _ (by omega), takeFields_u8_last (by omega)]
    rfl
  have hrange : firstBad 1 [(slotNumber p, 1, 4), (if officeOk office then 1 else 0, 1, 1), (day, 1, 31),
      (month, 1, 12), (year, 2000, 2099), (shift.toNat, 65, 90), (slogan, 0, 15)] = none :=
    firstBad_none (by simp [hp, hoffice, h1, h2, h3, h4, h5, h6, h7, h8, h9])
  have hbytes : u8 (slotNumber p) ++ encPlate ⟨office, day, month, year, shift, slogan⟩ =
      BitVec.ofNat 8 (slotNumber p) :: BitVec.ofNat 8 office.length ::
        (office ++ (u8 day ++ (u8 month ++ (u16 year ++ ([shift] ++ u8 slogan))))) := by
    simp [encPlate, u8_eq]
  rw [hbytes, readPlate]
  simp only [hcount, hslot, List.take_left, List.drop_left, hfields, checked, hrange]
  simp

/-- A plate slot's number, and 0, as the one field of a SELECT_PLATE. -/
theorem readByte_slotNumber (p : Slot) : readByte 0 4 (u8 (slotNumber p)) = .ok (slotNumber p) := by
  cases p <;> rfl

/-! ### The requests -/

/-- The state with a cancel record installed. -/
def withCancelRecord (r : CancelRecord) (s : State) : State := { s with cancel := { s.cancel with record := r } }

/-- SET_CANCEL with a valid record. -/
theorem exec_setCancel_taken {f : InFrame} {rest : List InFrame} {s : State} {r : CancelRecord}
    (h : CanTake s f rest) (hcode : f.code = 0x40) (hread : readCancel f.payload = .ok (some r)) :
    exec .setCancel s = .next (answered f (.ok (encCancel r)) (judgedHeads (withCancelRecord r (took rest s)))) := by
  refine exec_read_taken h hcode rfl rfl rfl hread ?_
  have hrecord : (judgedHeads (withCancelRecord r (took rest s))).cancel.record = r := by
    rw [judgedHeads_eq]
    rfl
  show reply f (.ok (encCancel (judgedHeads (withCancelRecord r (took rest s))).cancel.record))
    (judgedHeads (withCancelRecord r (took rest s))) = _
  rw [hrecord]
  rfl

/-- Settles O22: the two heads brought in line with the record installed, and the plates by their slots. -/
theorem cancelSettingsInstalled : Obligations.CancelSettingsInstalled := by
  refine ⟨fun f rest s r h hcode hp h1 h2 h3 h4 h5 h6 h7 => ?cancel, fun f rest s p h =>
    ⟨fun q hcode hp hoffice h1 h2 h3 h4 h5 h6 h7 h8 h9 => ?load, fun hcode hp => ?select, fun hcode hp => ?none⟩⟩
  case cancel =>
    have hread : readCancel f.payload = .ok (some r) := by rw [hp, readCancel_encCancel h1 h2 h3 h4 h5 h6 h7]
    have heq := judgedHeads_eq (withCancelRecord r (took rest s))
    refine ⟨_, exec_setCancel_taken h hcode hread, ?record, fun x => ?heads, fun ha hb => ?unwaiting, ?slots,
      ?active, fun ht => ?gate, ?whole⟩
    case record => rw [heq]; rfl
    case heads => exact judgedHeads_get (withCancelRecord r (took rest s)) x
    case unwaiting => exact judgedHeads_unwaiting (s := withCancelRecord r (took rest s)) ha hb
    case slots => rw [heq]; rfl
    case active => rw [heq]; rfl
    case gate => exact judgedHeads_gate_untested (s := withCancelRecord r (took rest s)) ht
    case whole =>
      conv_lhs => rw [heq]
      rw [heq]
      rfl
  case load =>
    have hread := readPlate_encPlate (p := p) hoffice h1 h2 h3 h4 h5 h6 h7 h8 h9
    rw [exec_taken (c := .loadPlate) h hcode rfl rfl, loadPlateStep, hp, hread, answer_ok]
    simp only [slotOf_slotNumber]
    by_cases huse : slotInUse s.cancel p = true
    · rw [if_pos (c := slotInUse (took rest s).cancel p = true) huse, if_pos huse, refusedAfter_eq]
    · rw [if_neg (c := slotInUse (took rest s).cancel p = true) huse, if_neg huse]
      rfl
  case select =>
    rw [exec_taken (c := .selectPlate) h hcode rfl rfl, selectPlateStep, hp, readByte_slotNumber, answer_ok]
    simp only [slotOf_slotNumber]
    have hnone : ((took rest s).cancel.slots.get p).plate.isNone = true ↔ (s.cancel.slots.get p).plate = none :=
      Option.isNone_iff_eq_none
    by_cases hempty : (s.cancel.slots.get p).plate = none
    · rw [if_pos (hnone.mpr hempty), if_pos hempty, refusedAfter_eq]
    · rw [if_neg (mt hnone.mp hempty), if_neg hempty]
      rfl
  case none => exact exec_read_taken h hcode rfl rfl rfl (by rw [hp]; rfl) rfl

end Sys2Proof.Proofs
end

section
/-! PROOFS. Lamps: what wakes one and what rests one, at an edge, at a timer and at SET_LAMP (R28 to R32). -/

namespace Sys2Proof.Proofs

open Sys2Proof.Machine Sys2Proof.Safety

/-! ### Changes of a lamp -/

/-- A lamp woken: STANDBY goes to WARMING (R28). -/
def wokenLamp (warm : Nat) : LampState → LampState
  | .standby => .warming warm
  | l => l

/-- The state with lamps of these states, and a link. -/
def withLamps (states : PerSide LampState) (l : Link) (s : State) : State :=
  { s with lamps := { s.lamps with state := states }, link := l }

theorem changeLamp_eq (d : Side) (new : LampState) (why : LampReason) (s : State) :
    changeLamp d new why s = withLamps (s.lamps.state.set d new) (changeLamp d new why s).link s := by
  rw [changeLamp, handNotice_eq]
  rfl

theorem sides_set_same {t : PerSide LampState} {d : Side} {l : LampState} (h : t.get d = l) : t.set d l = t := by
  subst h
  cases d <;> rfl

theorem wakeLamp_eq (why : LampReason) (d : Side) (s : State) :
    wakeLamp why d s =
      withLamps (s.lamps.state.set d (wokenLamp s.lamps.record.warm (s.lamps.state.get d)))
        (wakeLamp why d s).link s := by
  unfold wakeLamp
  split
  next hl =>
    rw [hl]
    exact changeLamp_eq d _ why s
  next hl =>
    rw [sides_set_same]
    · rfl
    · cases h : s.lamps.state.get d with
      | standby => exact absurd h hl
      | warming => rfl
      | on => rfl

theorem restLamp_eq (why : LampReason) (d : Side) (s : State) :
    restLamp why d s = withLamps (s.lamps.state.set d .standby) (restLamp why d s).link s := by
  unfold restLamp
  split
  next hl =>
    rw [sides_set_same hl]
    rfl
  next => exact changeLamp_eq d _ why s

/-- Both lamps woken, side A's first. -/
theorem wakeLamps_eq (why : LampReason) (s : State) :
    wakeLamp why .b (wakeLamp why .a s) =
      withLamps (s.lamps.state.map (wokenLamp s.lamps.record.warm)) (wakeLamp why .b (wakeLamp why .a s)).link s := by
  conv_lhs => rw [wakeLamp_eq why .b, wakeLamp_eq why .a s]
  rw [wakeLamp_eq why .a s]
  rfl

/-- Both lamps rested, side A's first. -/
theorem restLamps_eq (why : LampReason) (s : State) :
    restLamp why .b (restLamp why .a s) =
      withLamps ⟨.standby, .standby⟩ (restLamp why .b (restLamp why .a s)).link s := by
  conv_lhs => rw [restLamp_eq why .b, restLamp_eq why .a s]
  rw [restLamp_eq why .a s]
  rfl

/-! ### An edge, a timer, a mode -/

/-- A leading edge at E in mode AUTO restarts the saver timer and wakes both lamps. -/
theorem lampEdge_auto {s : State} (h : s.lamps.record.mode = .auto) :
    lampEdge s = withLamps (s.lamps.state.map (wokenLamp s.lamps.record.warm)) (lampEdge s).link (restartSaver s) := by
  rw [lampEdge, if_pos h]
  exact wakeLamps_eq .edge (restartSaver s)

theorem saverRestart_running {r : LampRecord} (hm : r.mode = .auto) (hs : 0 < r.saver) :
    saverRestart r = some r.saver := if_pos ⟨hm, hs⟩

/-- The lamp a mode makes of a lamp (R30). -/
def lampByMode (m : LampMode) (warm : Nat) (l : LampState) : LampState :=
  match m with
  | .auto => l
  | .forceOn => wokenLamp warm l
  | .forceStandby => .standby

theorem applyLampMode_eq (m : LampMode) (s : State) :
    applyLampMode m s =
      withLamps (s.lamps.state.map (lampByMode m s.lamps.record.warm)) (applyLampMode m s).link s := by
  cases m with
  | auto => rfl
  | forceOn => exact wakeLamps_eq .request s
  | forceStandby => exact restLamps_eq .request s

/-- The bytes of a lamp record in its ranges are read as that record. -/
theorem readLamp_encLampRecord {r : LampRecord} (h1 : r.saver ≤ 600000) (h2 : 5 ≤ r.warm) (h3 : r.warm ≤ 500) :
    readLamp (encLampRecord r) = .ok r := by
  have hm := lampModeNumber_lt r.mode
  have hfields : takeFields [1, 4, 2] (encLampRecord r) = some [lampModeNumber r.mode, r.saver, r.warm] := by
    rw [encLampRecord, List.append_assoc, takeFields_u8 _ _ (by omega), takeFields_u32 _ _ (by omega),
      takeFields_u16_last (by omega)]
    rfl
  have hrange : firstBad 1 [(lampModeNumber r.mode, 0, 2), (r.saver, 0, 600000), (r.warm, 5, 500)] = none :=
    firstBad_none (by simp [hm, h1, h2, h3])
  rw [readLamp, hfields]
  simp only [checked, hrange, lampModeOf_lampModeNumber]

/-- The state in which a lamp record has been installed and the saver timer restarted. -/
def withLampRecord (r : LampRecord) (s : State) : State :=
  restartSaver { s with lamps := { s.lamps with record := r } }

/-- SET_LAMP with a valid record acts on each lamp by its mode. -/
theorem exec_setLamp_taken {f : InFrame} {rest : List InFrame} {s : State} {r : LampRecord} (h : CanTake s f rest)
    (hcode : f.code = 0x23) (hread : readLamp f.payload = .ok r) :
    ∃ l : Link, exec .setLamp s = .next (answered f (.ok []) (withLamps
      (s.lamps.state.map (lampByMode r.mode r.warm)) l (withLampRecord r (took rest s)))) := by
  refine ⟨(applyLampMode r.mode (withLampRecord r (took rest s))).link,
    exec_read_taken h hcode rfl rfl rfl hread ?_⟩
  show reply f (.ok []) (applyLampMode r.mode (withLampRecord r (took rest s))) = _
  rw [applyLampMode_eq]
  rfl

/-- Settles O21: the edge, the two timers and the modes by what waking and resting come to. -/
theorem lampsWakeRestAndObey : Obligations.LampsWakeRestAndObey := by
  refine ⟨⟨fun s hm => if_neg hm, fun s hm => ?edge, fun s d left hl => ?warm, fun s left _ _ hs => ?saver⟩,
    fun f rest s r h hcode hp h1 h2 h3 => ?request⟩
  case edge =>
    rw [lampEdge_auto hm]
    refine ⟨fun d => ?_, fun hs => saverRestart_running hm hs, rfl⟩
    show (s.lamps.state.map (wokenLamp s.lamps.record.warm)).get d = _
    rw [PerSide.get_map]
    cases s.lamps.state.get d <;> rfl
  case warm =>
    have hleft : (advance left s).lamps.state.get d = .warming 0 := by
      show (s.lamps.state.map (lampAfter left)).get d = _
      rw [PerSide.get_map, hl, lampAfter, Nat.sub_self]
    show execWarmDone d s = _
    simp only [execWarmDone, hl, changeLamp, hleft]
    rfl
  case saver =>
    refine ⟨restLamp .saver .b (restLamp .saver .a { advance left s with lamps := { (advance left s).lamps with saver := none } }),
      ?_, ?_⟩
    · show execSaverExpiry s = _
      simp only [execSaverExpiry, hs]
    · rw [restLamps_eq]
      exact ⟨rfl, rfl, rfl, rfl⟩
  case request =>
    obtain ⟨l, hexec⟩ := exec_setLamp_taken h hcode (by rw [hp, readLamp_encLampRecord h1 h2 h3])
    refine ⟨_, hexec, rfl, rfl, fun d => ?_, fun hm hs => saverRestart_running hm hs, rfl⟩
    show (s.lamps.state.map (lampByMode r.mode r.warm)).get d = _
    rw [PerSide.get_map]
    cases r.mode <;> cases s.lamps.state.get d <;> rfl

end Sys2Proof.Proofs
end

section
/-! PROOFS. SET_GEOMETRY, SET_TRIM and SET_DETECT: the readers, the checks of a geometry record in their order (R5),
and what each request installs. -/

namespace Sys2Proof.Proofs

open Sys2Proof.Machine Sys2Proof.Safety

/-! ### The checks of a geometry record (R5) -/

/-- The machine's places along the belt. -/
def placesOf (g : Geometry) : List Nat :=
  [g.scanLine, g.cellG, g.gate, g.cellM, g.cellK, g.headLine, g.cellS,
    g.flaps.f1, g.flaps.f2, g.flaps.f3, g.flaps.f4, g.flaps.f5]

/-- A list with its field numbers from one on. -/
def numbered (n : Nat) : List Nat → List (Nat × Nat)
  | [] => []
  | x :: xs => (n, x) :: numbered (n + 1) xs

theorem chain_eq (g : Geometry) : g.chain = numbered 1 (placesOf g) := rfl

/-- An ascending chain has no bad place. -/
theorem chainBad_ascending {n : Nat} {xs : List Nat} (h : xs.Pairwise (· < ·)) : chainBad (numbered n xs) = none := by
  induction xs generalizing n with
  | nil => rfl
  | cons a xs ih =>
    obtain ⟨ha, hxs⟩ := List.pairwise_cons.mp h
    cases xs with
    | nil => rfl
    | cons b xs =>
      have hrest := ih (n := n + 1) hxs
      rw [numbered, numbered, chainBad, if_pos (ha b (by simp))]
      exact hrest

/-- The first place not greater than the one before it is the one reported. -/
theorem chainBad_first {n a b : Nat} {before behind : List Nat} (h : (before ++ [a]).Pairwise (· < ·)) (hb : b ≤ a) :
    chainBad (numbered n (before ++ a :: b :: behind)) = some (n + before.length + 1) := by
  induction before generalizing n with
  | nil =>
    rw [List.nil_append, numbered, numbered, chainBad, if_neg (by exact Nat.not_lt.mpr hb)]
    rfl
  | cons x before ih =>
    rw [List.cons_append] at h
    obtain ⟨hx, hrest⟩ := List.pairwise_cons.mp h
    have hind := ih (n := n + 1) hrest
    cases before with
    | nil =>
      rw [List.cons_append, List.nil_append, numbered, numbered, chainBad, if_pos (hx a (by simp))]
      rw [List.nil_append, numbered] at hind
      rw [hind]
      rfl
    | cons y before =>
      rw [List.cons_append, List.cons_append, numbered, numbered, chainBad, if_pos (hx y (by simp))]
      rw [List.cons_append, numbered] at hind
      rw [hind]
      simp only [List.length_cons, Option.some.injEq]
      omega

/-- A field out of its range is the one reported. -/
theorem badField_range {g : Geometry} {n : Nat} (h : firstBad 1 g.ranges = some n) : g.badField = some n := by
  rw [Geometry.badField, h]

/-- With every field in its range, a bad place is the one reported. -/
theorem badField_chain {g : Geometry} {n : Nat} (hr : firstBad 1 g.ranges = none) (h : chainBad g.chain = some n) :
    g.badField = some n := by
  rw [Geometry.badField, hr, h]

/-- With every field in its range and the places ascending, the margins are judged in order. -/
theorem badField_margins {g : Geometry} (hr : firstBad 1 g.ranges = none) (hc : chainBad g.chain = none) :
    g.badField = if g.decisionMargin = false then some 3 else if g.strikeMargin = false then some 7
      else if g.flapMargin = false then some 8 else none := by
  rw [Geometry.badField, hr, hc]
  simp only [Bool.not_eq_true']

/-! ### The readers -/

/-- The bytes of a field of one byte or of two. -/
def fieldBytes (x : Nat × Nat) : List Byte := if x.1 = 1 then u8 x.2 else u16 x.2

theorem fieldBytes_one (n : Nat) : fieldBytes (1, n) = u8 n := rfl

theorem fieldBytes_two (n : Nat) : fieldBytes (2, n) = u16 n := rfl

/-- Fields of one byte and of two that fit their widths are read as they were written. -/
theorem takeFields_fieldBytes {xs : List (Nat × Nat)}
    (h : ∀ x ∈ xs, x.1 = 1 ∧ x.2 ≤ 255 ∨ x.1 = 2 ∧ x.2 ≤ 65535) :
    takeFields (xs.map Prod.fst) (xs.flatMap fieldBytes) = some (xs.map Prod.snd) := by
  induction xs with
  | nil => rfl
  | cons x xs ih =>
    obtain ⟨w, n⟩ := x
    obtain ⟨hx, hxs⟩ := List.forall_mem_cons.mp h
    have hrest := ih hxs
    rw [List.map_cons, List.flatMap_cons]
    rcases hx with ⟨rfl, hn⟩ | ⟨rfl, hn⟩
    · rw [fieldBytes_one, takeFields_u8 _ _ (Nat.lt_succ_of_le hn), hrest]
      rfl
    · rw [fieldBytes_two, takeFields_u16 _ _ (Nat.lt_succ_of_le hn), hrest]
      rfl

/-- The fields of a geometry record with their widths. -/
def geometryFields (g : Geometry) : List (Nat × Nat) :=
  (placesOf g).map (Prod.mk 2) ++
    [(1, g.jamTol), (1, g.filter), (2, g.minLen), (2, g.maxLen), (1, g.gateLead), (1, g.gateClear), (1, g.flapLead),
      (1, g.flapClear), (1, g.gateConfirm), (2, g.stallTime), (2, g.startTime), (2, g.startDistance), (1, g.holdMark)]

theorem encGeometry_eq (g : Geometry) : encGeometry g = (geometryFields g).flatMap fieldBytes := by
  simp only [geometryFields, placesOf, List.map_cons, List.map_nil, List.cons_append, List.nil_append,
    List.flatMap_cons, List.flatMap_nil, fieldBytes_one, fieldBytes_two]
  unfold encGeometry
  simp only [List.append_assoc, List.append_nil]

/-- The bytes of a geometry record whose fields fit their widths are read as that record. -/
theorem readGeometry_encGeometry {g : Geometry}
    (hwide : ∀ x ∈ placesOf g ++ [g.minLen, g.maxLen, g.stallTime, g.startTime, g.startDistance], x ≤ 65535)
    (hnarrow : ∀ x ∈ [g.jamTol, g.filter, g.gateLead, g.gateClear, g.flapLead, g.flapClear, g.gateConfirm, g.holdMark],
      x ≤ 255) : readGeometry (encGeometry g) = some g := by
  have hfit : ∀ x ∈ geometryFields g, x.1 = 1 ∧ x.2 ≤ 255 ∨ x.1 = 2 ∧ x.2 ≤ 65535 := by
    simp only [placesOf, List.cons_append, List.nil_append, List.forall_mem_cons] at hwide hnarrow
    simp [geometryFields, placesOf, hwide, hnarrow]
  have hfields : takeFields geometryWidths (encGeometry g) = some ((geometryFields g).map Prod.snd) := by
    rw [encGeometry_eq]
    exact takeFields_fieldBytes hfit
  rw [readGeometry, hfields]
  rfl

/-- A record that passes every check fits the widths of its fields. -/
theorem readGeometry_legal {g : Geometry} (h : g.badField = none) : readGeometry (encGeometry g) = some g := by
  have hranges : firstBad 1 g.ranges = none := by
    unfold Geometry.badField at h
    split at h
    next => nomatch h
    next hr => exact hr
  have hin := range_of_firstBad hranges
  simp only [Geometry.ranges, Geometry.chain, List.map_cons, List.map_nil, List.cons_append, List.nil_append,
    List.forall_mem_cons] at hin
  refine readGeometry_encGeometry ?_ ?_
  · simp only [placesOf, List.cons_append, List.nil_append, List.forall_mem_cons, List.not_mem_nil, false_implies,
      implies_true, and_true]
    omega
  · simp only [List.forall_mem_cons, List.not_mem_nil, false_implies, implies_true, and_true]
    omega

theorem byte_eq_u8 (b : Byte) : [b] = u8 b.toNat := by simp [u8]

/-- The bytes of a channel's number and a threshold record are judged by their ranges. -/
theorem readDetect_fields (c : Byte) {h : Threshold} (h1 : h.tagHigh ≤ 65535) (h2 : h.tagLow ≤ 65535)
    (h3 : h.transLow ≤ 255) (h4 : h.meterHigh ≤ 65535) (h5 : h.transHigh ≤ 255) (h6 : h.transLevel ≤ 255)
    (h7 : h.minMark ≤ 65535) :
    readDetect (c :: encThreshold h) =
      checked [(c.toNat, 0, 3), (h.tagHigh, 1, 2040), (h.tagLow, 0, h.tagHigh), (h.transLow, 0, 7),
        (h.meterHigh, 1, 2040), (h.transHigh, h.transLow, 7), (h.transLevel, 0, 255), (h.minMark, 16, 400)]
        (channelOf c.toNat, h) := by
  have hc := c.isLt
  have hfields : takeFields [1, 2, 2, 1, 2, 1, 1, 2] (c :: encThreshold h) =
      some [c.toNat, h.tagHigh, h.tagLow, h.transLow, h.meterHigh, h.transHigh, h.transLevel, h.minMark] := by
    rw [show c :: encThreshold h = u8 c.toNat ++ encThreshold h from congrArg (· ++ encThreshold h) (byte_eq_u8 c)]
    simp (disch := omega) only [encThreshold, List.append_assoc, takeFields_u16, takeFields_u8, takeFields_u16_last]
    rfl
  rw [readDetect, hfields]

/-- Two bytes of SET_TRIM are judged by their ranges. -/
theorem readTrim_bytes (c trim : Byte) :
    readTrim [c, trim] =
      checked [(c.toNat, 0, 3), (trim.toNat, 0, 15)] (channelOf c.toNat, BitVec.ofNat 4 trim.toNat) := by
  simp [readTrim, takeFields, beNat]

/-- The bytes of a channel and a trim code are read as them. -/
theorem readTrim_code (c : Channel) (code : BitVec 4) :
    readTrim (u8 (channelNumber c) ++ u8 code.toNat) = .ok (c, code) := by
  have hcode : (BitVec.ofNat 8 code.toNat).toNat = code.toNat := by
    rw [BitVec.toNat_ofNat]
    have := code.isLt
    omega
  have hc : (BitVec.ofNat 8 (channelNumber c)).toNat = channelNumber c := by cases c <;> rfl
  have hrange : firstBad 1 [(channelNumber c, 0, 3), (code.toNat, 0, 15)] = none := by
    refine firstBad_none ?_
    have := channelNumber_lt c
    have := code.isLt
    simp only [List.forall_mem_cons, List.not_mem_nil, false_implies, implies_true, and_true]
    omega
  rw [u8_eq, u8_eq, List.singleton_append, readTrim_bytes, hcode, hc]
  simp [checked, hrange]

theorem channelByte (c : Channel) : (BitVec.ofNat 8 (channelNumber c)).toNat = channelNumber c := by cases c <;> rfl

/-! ### The requests -/

/-- SET_GEOMETRY judges the run state, then the record (R4, R5). -/
theorem geometryArg_read {f : InFrame} {s : State} {g : Geometry} (hread : readGeometry f.payload = some g) :
    geometryArg f s =
      if s.run.state ≠ .idle then .error (.wrongState (runStateNumber s.run.state))
      else match g.badField with
        | some n => .error (.badValue n)
        | none => .ok g := by
  rw [geometryArg, hread]
  rfl

theorem exec_setGeometry_refused {f : InFrame} {rest : List InFrame} {s : State} {r : Reason} (h : CanTake s f rest)
    (hcode : f.code = 0x10) (harg : geometryArg f (took rest s) = .error r) :
    exec .setGeometry s = refusedAfter f r rest s :=
  exec_read_refused h hcode rfl rfl rfl harg

/-- In IDLE a record with a bad field is refused with it. -/
theorem exec_setGeometry_bad {f : InFrame} {rest : List InFrame} {s : State} {g : Geometry} {n : Nat}
    (h : CanTake s f rest) (hcode : f.code = 0x10) (hread : readGeometry f.payload = some g)
    (hidle : s.run.state = .idle) (hbad : g.badField = some n) :
    exec .setGeometry s = refusedAfter f (.badValue n) rest s := by
  refine exec_setGeometry_refused h hcode ?_
  rw [geometryArg_read hread, if_neg (by simp [hidle]), hbad]

/-- Outside IDLE any record is refused. -/
theorem exec_setGeometry_barred {f : InFrame} {rest : List InFrame} {s : State} {g : Geometry}
    (h : CanTake s f rest) (hcode : f.code = 0x10) (hread : readGeometry f.payload = some g)
    (hidle : s.run.state ≠ .idle) :
    exec .setGeometry s = refusedAfter f (.wrongState (runStateNumber s.run.state)) rest s := by
  refine exec_setGeometry_refused h hcode ?_
  rw [geometryArg_read hread]
  exact if_pos hidle

/-- A calibration not running on the channel is not aborted. -/
theorem abortCalOf_other {c : Channel} {s : State} (h : ∀ r ∈ calRunning s.cal, r.channel ≠ c)
    (why : CalAbortReason) : abortCalOf c why s = s := by
  refine if_neg ?_
  cases hr : calRunning s.cal with
  | none => simp
  | some r => simpa using h r hr

/-- A value out of its range, said either way. -/
theorem inRange_iff (z : Nat × Nat × Nat) : ¬(z.1 < z.2.1 ∨ z.2.2 < z.1) ↔ z.2.1 ≤ z.1 ∧ z.1 ≤ z.2.2 := by
  omega

theorem firstBad_bad {n : Nat} {before behind : List (Nat × Nat × Nat)} {x : Nat × Nat × Nat}
    (hb : ∀ z ∈ before, ¬(z.1 < z.2.1 ∨ z.2.2 < z.1)) (hx : x.1 < x.2.1 ∨ x.2.2 < x.1) :
    firstBad n (before ++ x :: behind) = some (n + before.length) :=
  firstBad_first (fun z hz => (inRange_iff z).mp (hb z hz)) (fun h => (inRange_iff x).mpr h hx)

/-- Settles O19: each request by its reader, and a geometry record by its checks in order. -/
theorem geometryTrimAndDetectInstalled : Obligations.GeometryTrimAndDetectInstalled := by
  refine ⟨fun f rest s g h hcode hbad hp => ?install, fun f rest s c h => ?channel, fun f rest s h => ?refusals⟩
  case install =>
    have hread : readGeometry f.payload = some g := by rw [hp, readGeometry_legal hbad]
    refine ⟨fun hidle => ?_, exec_setGeometry_barred h hcode hread⟩
    refine exec_read_taken h hcode rfl rfl rfl (v := g) ?_ rfl
    rw [geometryArg_read hread, if_neg (by simp [hidle]), hbad]
  case channel =>
    intro k
    refine ⟨fun code hcode hp => ?trim, fun r hcode hp h1 h2 h3 h4 h5 h6 h7 h8 h9 h10 => ?detect, abortCalOf_other⟩
    case trim => exact exec_read_taken h hcode rfl rfl rfl (by rw [hp, readTrim_code]) rfl
    case detect =>
      refine exec_read_taken h hcode rfl rfl rfl (v := (c, r)) ?_ rfl
      have hrange : firstBad 1 [(channelNumber c, 0, 3), (r.tagHigh, 1, 2040), (r.tagLow, 0, r.tagHigh),
          (r.transLow, 0, 7), (r.meterHigh, 1, 2040), (r.transHigh, r.transLow, 7), (r.transLevel, 0, 255),
          (r.minMark, 16, 400)] = none := by
        refine firstBad_none ?_
        have := channelNumber_lt c
        simp only [List.forall_mem_cons, List.not_mem_nil, false_implies, implies_true, and_true]
        omega
      rw [hp, u8_eq, List.singleton_append, readDetect_fields _ (by omega) (by omega) (by omega) (by omega) (by omega)
        (by omega) (by omega), channelByte]
      simp [checked, hrange]
  case refusals =>
    intro bad
    refine ⟨fun g hcode hp => ?geometry, fun c trim hcode hp => ?trim, fun c r hcode hp h1 h2 h3 h4 h5 h6 h7 => ?detect,
      fun hcode hlen => ?geometryLength, fun hcode hlen => ?trimLength, fun hcode hlen => ?detectLength⟩
    case geometry =>
      intro places fields scanned hwide hnarrow
      have hread : readGeometry f.payload = some g := by rw [hp, readGeometry_encGeometry hwide hnarrow]
      refine ⟨exec_setGeometry_barred h hcode hread, fun hidle => ⟨fun before behind x hx hb hbad => ?field,
        fun hin => ?places⟩⟩
      case field =>
        refine exec_setGeometry_bad h hcode hread hidle (badField_range ?_)
        rw [show g.ranges = before ++ x :: behind from hx, firstBad_bad hb hbad, Nat.add_comm]
      case places =>
        have hranges : firstBad 1 g.ranges = none := firstBad_none fun z hz => (inRange_iff z).mp (hin z hz)
        refine ⟨fun before behind a b hplaces hup hb => ?chain, fun hup => ?margins⟩
        case chain =>
          refine exec_setGeometry_bad h hcode hread hidle (badField_chain hranges ?_)
          rw [chain_eq, show placesOf g = before ++ a :: b :: behind from hplaces, chainBad_first hup hb]
          congr 1
          omega
        case margins =>
          have hmargins := badField_margins hranges (chainBad_ascending (n := 1) hup)
          have hd : g.decisionMargin = decide (scanned + 40 + g.gateLead ≤ g.gate) := rfl
          have hs : g.strikeMargin = decide (g.headLine + g.maxLen + 40 ≤ g.cellS) := rfl
          have hf : g.flapMargin = decide (g.cellS + 40 + g.flapLead ≤ g.flaps.f1) := rfl
          simp only [hd, hs, hf, decide_eq_false_iff_not, Nat.not_le] at hmargins
          refine ⟨fun h3 => ?_, fun h3 => ⟨fun h7 => ?_, fun h7 => ⟨fun h8 => ?_, fun h8 => ?_⟩⟩⟩
          · exact exec_setGeometry_bad h hcode hread hidle (hmargins.trans (if_pos h3))
          · rw [if_neg (by omega), if_pos h7] at hmargins
            exact exec_setGeometry_bad h hcode hread hidle hmargins
          · rw [if_neg (by omega), if_neg (by omega), if_pos h8] at hmargins
            exact exec_setGeometry_bad h hcode hread hidle hmargins
          · rw [hmargins, if_neg (by omega), if_neg (by omega), if_neg (by omega)]
    case trim =>
      refine ⟨fun hc => ?_, fun hc ht => ?_⟩
      · refine exec_read_refused h hcode rfl rfl rfl ?_
        rw [hp, readTrim_bytes]
        simp [checked, firstBad, Nat.not_le.mpr hc]
      · refine exec_read_refused h hcode rfl rfl rfl ?_
        rw [hp, readTrim_bytes]
        simp [checked, firstBad, hc, Nat.not_le.mpr ht]
    case detect =>
      intro before behind x hfields hb hbad
      refine exec_read_refused h hcode rfl rfl rfl ?_
      rw [hp, readDetect_fields c h1 h2 h3 h4 h5 h6 h7, hfields]
      simp [checked, firstBad_bad hb hbad, Nat.add_comm]
    case geometryLength =>
      refine exec_setGeometry_refused h hcode ?_
      rw [geometryArg, readGeometry, takeFields_none hlen]
      rfl
    case trimLength =>
      refine exec_read_refused h hcode rfl rfl rfl ?_
      rw [readTrim, takeFields_none hlen]
    case detectLength =>
      refine exec_read_refused h hcode rfl rfl rfl ?_
      rw [readDetect, takeFields_none hlen]

end Sys2Proof.Proofs
end

section
/-! PROOFS. Edges at E and at the arrival cells, and the checks of a ticket at its positions (R3, R10 to R18). -/

namespace Sys2Proof.Proofs

open Sys2Proof.Machine Sys2Proof.Safety

/-! ### A leading edge at E (R3, R11) -/

theorem gapShort_eq_any (g : Geometry) (gap : Option Nat) :
    gapShort g gap = gap.any fun d => decide (d < g.gateClear + g.gateLead) := by
  cases gap <;> rfl

/-- A ticket created joins the table at its young end, is counted, and the throttle is evaluated. -/
theorem createTicket_eq (lead : Pos) (s : State) :
    createTicket lead s = inBothSets (bump .entered) { s with tracker := { s.tracker with
      table := s.tracker.table ++ [newTicket s lead]
      nextTicket := s.tracker.nextTicket + 1
      firstTicket := false
      throttle := throttleAfter s.tracker.geometry (s.tracker.table.length + 1) s.tracker.throttle } } := by
  have hlen : (s.tracker.table ++ [newTicket s lead]).length = s.tracker.table.length + 1 := by simp
  rw [← hlen]
  rfl

theorem entryLeadingStep_oldest {s : State} {before behind : List Edge} {p : Pos}
    (h : OldestEdge s before ⟨.e, true, p⟩ behind) :
    exec .entryLeadingEdge s = .next (lampEdge (trackLeading p (withEdges (before ++ behind) s))) :=
  congrArg Host.Outcome.next (takeEdge_oldest h _)

theorem trackLeading_room {p : Pos} {s : State} (ht : tracks s.run.state = true) (hroom : s.tracker.table.length < 32) :
    trackLeading p s = createTicket p s := by
  rw [trackLeading, if_pos ht]
  exact if_pos hroom

theorem trackLeading_full {p : Pos} {s : State} (ht : tracks s.run.state = true) (hfull : 32 ≤ s.tracker.table.length) :
    trackLeading p s = raiseCause .tableFull (.tableFull p) none .request s := by
  rw [trackLeading, if_pos ht]
  exact if_neg (Nat.not_lt.mpr hfull)

theorem trackLeading_stray {p : Pos} {s : State} (ht : tracks s.run.state = false) :
    trackLeading p s = post .strayEdges s := by
  rw [trackLeading, if_neg (ne_true_of_eq_false ht)]

/-- Settles O36: by the run state and the room in the table. -/
theorem entryEdgeByRunState : Obligations.EntryEdgeByRunState := by
  refine ⟨fun s before behind p h ht hroom => ?room, fun s before behind p h => ⟨fun ht => ?stray, fun ht hfull => ?full⟩⟩
  case room =>
    intro gap n
    rw [entryLeadingStep_oldest h, trackLeading_room (s := withEdges (before ++ behind) s) ht hroom, createTicket_eq,
      newTicket, gapShort_eq_any]
    rfl
  case stray =>
    rw [entryLeadingStep_oldest h, trackLeading_stray (s := withEdges (before ++ behind) s) ht]
    rfl
  case full =>
    rw [entryLeadingStep_oldest h, trackLeading_full (s := withEdges (before ++ behind) s) ht hfull]

/-! ### A trailing edge at E (R10, R12) -/

theorem entryTrailingStep_oldest {s : State} {before behind : List Edge} {p : Pos}
    (h : OldestEdge s before ⟨.e, false, p⟩ behind) :
    exec .entryTrailingEdge s = .next
      (if tracks s.run.state then
        let s1 := recordTrail p (withEdges (before ++ behind) s)
        { s1 with tracker := { s1.tracker with prevTrail := some p } }
      else withEdges (before ++ behind) s) :=
  congrArg Host.Outcome.next (takeEdge_oldest h _)

/-- A trail is not recorded where the youngest ticket has one, or there is none. -/
theorem recordTrail_recorded {p : Pos} {s : State} (h : ∀ y ∈ s.tracker.table.getLast?, y.trail ≠ none) :
    recordTrail p s = s := by
  unfold recordTrail
  split
  next y hy => exact if_neg fun hnone => h y hy (Option.isNone_iff_eq_none.mp hnone)
  next => rfl

/-- The trail of the youngest ticket, absent before, is recorded. -/
theorem recordTrail_absent {p : Pos} {s : State} {older : List Ticket} {y : Ticket} (hn : NumbersDiffer s)
    (ht : s.tracker.table = older ++ [y]) (hy : y.trail = none) :
    recordTrail p s = withTable (older ++ [y.withTrail s.tracker.geometry.minLen p]) s := by
  have hn' : ((older ++ [y]).map Ticket.number).Nodup := ht ▸ hn
  unfold recordTrail
  rw [ht, List.getLast?_append_cons, List.getLast?_singleton]
  refine (if_pos (by simp [hy])).trans ?_
  rw [setTicket_eq_withTable, ht]
  exact congrArg (withTable · s) (map_number (Ticket.withTrail s.tracker.geometry.minLen p) hn')

theorem withTrail_eq (minLen : Nat) (p : Pos) (y : Ticket) :
    y.withTrail minLen p = { y with
      trail := some p
      length := some (min 65535 (p - y.lead).toNat)
      size := if y.size ≠ some .long ∧ min 65535 (p - y.lead).toNat < minLen then some .short else y.size
      state := if y.state = .entering then .scanning else y.state } := by
  simp [Ticket.withTrail, distance, isLong, Config.saturation]

/-- Settles O37: by the run state and the youngest ticket's trail. -/
theorem trailingEdgeRecorded : Obligations.TrailingEdgeRecorded := by
  refine fun s before behind p h => ⟨fun ht => ?ignored, fun ht hlast => ?recorded, fun older y ht hn htable hy => ?absent⟩
  case ignored => rw [entryTrailingStep_oldest h, if_neg (ne_true_of_eq_false ht)]
  case recorded =>
    rw [entryTrailingStep_oldest h, if_pos ht, recordTrail_recorded (s := withEdges (before ++ behind) s) hlast]
    rfl
  case absent =>
    intro len
    rw [entryTrailingStep_oldest h, if_pos ht, recordTrail_absent (s := withEdges (before ++ behind) s) hn htable hy,
      withTrail_eq]
    rfl

/-! ### The checks of a ticket's length (R13, R14) -/

/-- A check is due from its position on, unless it has been made. -/
theorem longDue_iff {s : State} {y : Ticket} :
    longDue s y = true ↔ y.longChecked = false ∧
      0 ≤ (s.tracker.belt - (y.lead + BitVec.ofNat 32 s.tracker.geometry.maxLen)).toInt := by
  simp [longDue, reached, stepsOn]

theorem stuckDue_iff {s : State} {y : Ticket} :
    stuckDue s y = true ↔ y.stuckChecked = false ∧
      0 ≤ (s.tracker.belt - (y.lead + BitVec.ofNat 32 (4 * s.tracker.geometry.maxLen))).toInt := by
  simp [stuckDue, reached, stepsOn]

/-- Settles O38: each check on the oldest ticket due, by whether its trail is absent. -/
theorem lengthChecksOnce : Obligations.LengthChecksOnce := by
  refine ⟨fun s y => ⟨fun hdue => ?long, fun hdue => ?stuck⟩, fun s y => ⟨fun hc => ?longMade, fun hc => ?stuckMade,
    fun hc => longDue_iff.trans (and_iff_right hc), fun hc => stuckDue_iff.trans (and_iff_right hc)⟩⟩
  case long =>
    intro s1
    refine ⟨fun ht => ?_, fun ht => ?_⟩
    · refine congrArg Host.Outcome.next ?_
      rw [longCheckStep, hdue]
      exact if_neg (ne_true_of_eq_false ht)
    · refine congrArg Host.Outcome.next ?_
      rw [longCheckStep, hdue]
      refine (if_pos ht).trans ?_
      rw [setTicket_setTicket (by exact fun _ => rfl), setTicket_eq_withTable]
  case stuck =>
    intro s1
    refine ⟨fun ht => ?_, fun ht => ?_⟩
    · refine congrArg Host.Outcome.next ?_
      rw [stuckCheckStep, hdue]
      exact if_neg (ne_true_of_eq_false ht)
    · refine congrArg Host.Outcome.next ?_
      rw [stuckCheckStep, hdue]
      exact if_pos ht
  case longMade => simp [longDue, hc]
  case stuckMade => simp [stuckDue, hc]

/-! ### The arrival cells (R15 to R18) -/

theorem exec_arrivalMatch_oldest {s : State} {x : ArrivalCell} {before behind : List Edge} {p : Pos}
    (h : OldestEdge s before ⟨arrivalCell x, true, p⟩ behind) :
    exec (.arrivalMatch x) s = arrive x p (withEdges (before ++ behind) s) := by
  obtain ⟨hfind, herase⟩ := oldestEdge_found h
  dsimp only at hfind herase
  show execArrivalMatch x s = _
  simp only [execArrivalMatch, hfind, herase]
  rfl

theorem arrive_ignored {x : ArrivalCell} {p : Pos} {s : State} (ht : tracks s.run.state = false) :
    arrive x p s = .next s := by
  rw [arrive, if_pos (by rw [ht]; rfl)]

/-- An edge that commits no ticket passes. -/
theorem arrive_passes {x : ArrivalCell} {p : Pos} {s : State} (ht : tracks s.run.state = true)
    (hc : committing s x p = none) : arrive x p s = .next (passEdge x p s) := by
  rw [arrive, if_neg (by simp [ht]), hc]

theorem committing_none {x : ArrivalCell} {p : Pos} {s : State} (h : x ≠ .s ∨ matchedTicket s x p = none) :
    committing s x p = none := by
  rw [committing]
  rcases h with h | h
  · exact if_neg h
  · rw [h, ite_self]

/-- A ticket not missed is matched exactly where it is eligible and its window holds the position, both ends
included. -/
theorem matchesEdge_iff {g : Geometry} {x : ArrivalCell} {p : Pos} {y : Ticket} :
    matchesEdge g x p y = true ↔ y.missed = false ∧ eligible y x = true ∧
      -(g.jamTol : Int) ≤ (p - (y.lead + BitVec.ofNat 32 (cellPlace g x))).toInt ∧
      (p - (y.lead + BitVec.ofNat 32 (cellPlace g x))).toInt ≤ g.jamTol := by
  simp [matchesEdge, inWindow, expectedAt, stepsOn, and_assoc]

/-- The oldest ticket that matches is the one found. -/
theorem matchedTicket_oldest {s : State} {x : ArrivalCell} {p : Pos} {older younger : List Ticket} {y : Ticket}
    (htable : s.tracker.table = older ++ y :: younger)
    (hold : ∀ z ∈ older, matchesEdge s.tracker.geometry x p z = false)
    (hy : matchesEdge s.tracker.geometry x p y = true) : matchedTicket s x p = some y := by
  rw [matchedTicket, htable, List.find?_append, List.find?_eq_none.mpr fun z hz => by simp [hold z hz]]
  simp [hy]

theorem passEdge_matched {s : State} {x : ArrivalCell} {p : Pos} {older younger : List Ticket} {y : Ticket}
    (hn : NumbersDiffer s) (htable : s.tracker.table = older ++ y :: younger) (hm : matchedTicket s x p = some y) :
    passEdge x p s = withTable (older ++ y.seen x :: younger) s := by
  have hn' : ((older ++ y :: younger).map Ticket.number).Nodup := htable ▸ hn
  rw [passEdge, hm]
  dsimp only
  rw [setTicket_eq_withTable, htable]
  exact congrArg (withTable · s) (map_number (Ticket.seen x) hn')

theorem passEdge_unmatched {s : State} {x : ArrivalCell} {p : Pos} (hm : matchedTicket s x p = none) :
    passEdge x p s = raiseJam (arrivalCell x) .unexpected (some p) none s := by
  rw [passEdge, hm]

/-- Settles O39: by the run state and the oldest ticket the edge matches. -/
theorem arrivalEdgesMatched : Obligations.ArrivalEdgesMatched := by
  refine ⟨fun s x before behind p h => ⟨fun ht => ?ignored, fun older younger y hx ht hn htable hold he hmiss hlo hhi =>
    ?matched⟩, fun s before behind p y h ht hfind hout => ?undecided⟩
  case ignored => rw [exec_arrivalMatch_oldest h, arrive_ignored (s := withEdges (before ++ behind) s) ht]
  case matched =>
    have hy := matchesEdge_iff.mpr ⟨hmiss, he, hlo, hhi⟩
    have hm : matchedTicket (withEdges (before ++ behind) s) x p = some y := matchedTicket_oldest htable hold hy
    rw [exec_arrivalMatch_oldest h, arrive_passes (s := withEdges (before ++ behind) s) ht (committing_none (.inl hx)),
      passEdge_matched (s := withEdges (before ++ behind) s) hn htable hm]
    cases x <;> rfl
  case undecided =>
    have hc : committing (withEdges (before ++ behind) s) .s p = some y := hfind
    rw [exec_arrivalMatch_oldest (x := .s) h, arrive, if_neg (by simp [withEdges, ht]), hc]
    dsimp only
    rw [hout]

/-- No waiting edge matches a ticket exactly where none of the edges does. -/
theorem matchWaiting_eq_false {s : State} {x : ArrivalCell} {y : Ticket} :
    matchWaiting s x y = false ↔ ∀ p : Pos, ⟨arrivalCell x, true, p⟩ ∈ s.tracker.edges →
      matchesEdge s.tracker.geometry x p y = false := by
  simp only [matchWaiting, List.any_eq_false, isEdge, Bool.and_eq_true, decide_eq_true_eq, not_and, Bool.not_eq_true]
  refine ⟨fun h p hp => h ⟨arrivalCell x, true, p⟩ hp ⟨rfl, rfl⟩, fun h e he hk => ?_⟩
  obtain ⟨cell, leading, pos⟩ := e
  obtain ⟨hcell, hleading⟩ := hk
  dsimp only at hcell hleading
  subst hcell hleading
  exact h pos he

theorem closeDue_iff {s : State} {x : ArrivalCell} {y : Ticket} :
    closeDue s x y = true ↔ y.missed = false ∧ eligible y x = true ∧
      (∀ p : Pos, ⟨arrivalCell x, true, p⟩ ∈ s.tracker.edges → matchesEdge s.tracker.geometry x p y = false) ∧
      0 ≤ (s.tracker.belt - (y.lead + BitVec.ofNat 32 (cellPlace s.tracker.geometry x) +
        BitVec.ofNat 32 (s.tracker.geometry.jamTol + s.tracker.geometry.filter))).toInt := by
  rw [← matchWaiting_eq_false]
  simp only [closeDue, reached, windowClosesAt, expectedAt, stepsOn, Bool.and_eq_true, Bool.not_eq_true']
  constructor
  · rintro ⟨⟨⟨he, hm⟩, hp⟩, hw⟩
    exact ⟨hm, he, hw, of_decide_eq_true hp⟩
  · rintro ⟨hm, he, hw, hp⟩
    exact ⟨⟨⟨he, hm⟩, decide_eq_true hp⟩, hw⟩

/-- Settles O40: an edge without its ticket, a ticket without its edge, and what each of the two is. -/
theorem unmatchedRaisesJam : Obligations.UnmatchedRaisesJam := by
  refine ⟨fun s x before behind p h ht hnone => ?unexpected, fun s x y hdue => ?missing, fun s x y => ⟨fun hm => ?closed,
    fun hm => closeDue_iff.trans (and_iff_right hm)⟩, fun g x p y => ⟨fun hm => ?never, fun hm => 
      matchesEdge_iff.trans (and_iff_right hm)⟩⟩
  case unexpected =>
    have hm : matchedTicket (withEdges (before ++ behind) s) x p = none :=
      List.find?_eq_none.mpr fun z hz => by simp [withEdges, hnone z hz]
    rw [exec_arrivalMatch_oldest h, arrive_passes (s := withEdges (before ++ behind) s) ht (committing_none (.inr hm)),
      passEdge_unmatched hm]
    rfl
  case missing =>
    refine congrArg Host.Outcome.next ?_
    rw [windowCloseStep, hdue]
    rfl
  case closed => simp [closeDue, hm]
  case never => simp [matchesEdge, hm]

end Sys2Proof.Proofs
end

section
/-! PROOFS. What a pulse gives the filters and the channels, the start of window 1, and the completion of a gap window
(R1, R2, R25, R26, R33 to R38, R41). -/

namespace Sys2Proof.Proofs

open Sys2Proof.Machine Sys2Proof.Safety

/-! ### A pulse at the filters (R1 to R3) -/

theorem filterSample_eq (limit : Nat) (dark : Bool) (f : Filter) :
    f.sample limit dark =
      if dark = f.dark then ⟨f.dark, 0⟩
      else if f.run + 1 < limit then ⟨f.dark, f.run + 1⟩
      else ⟨dark, 0⟩ := by
  unfold Filter.sample
  by_cases hrun : limit ≤ f.run + 1
  · rw [if_pos hrun, if_neg (Nat.not_lt.mpr hrun)]
  · rw [if_neg hrun, if_pos (Nat.not_le.mp hrun)]

theorem filterPulse_get (inputs : PulseInputs) (s : State) (c : Cell) :
    (filterPulse inputs s).tracker.filters.get c =
      (s.tracker.filters.get c).sample s.tracker.geometry.filter (inputs.dark.get c) := by
  cases c <;> rfl

/-- The edge a cell gives at a pulse. -/
theorem mem_cellEdge {s : State} {inputs : PulseInputs} {c : Cell} {e : Edge} :
    e ∈ cellEdge s inputs c ↔
      e.cell = c ∧ e.leading = inputs.dark.get c ∧ inputs.dark.get c ≠ (s.tracker.filters.get c).dark ∧
      s.tracker.geometry.filter ≤ (s.tracker.filters.get c).run + 1 ∧ (inputs.dark.get c = true ∨ c = .e) ∧
      e.pos = s.tracker.belt - BitVec.ofNat 32 s.tracker.geometry.filter + 1 := by
  obtain ⟨cell, leading, pos⟩ := e
  unfold cellEdge
  dsimp only
  split
  next hacc =>
    have hpos : stepsOn (stepsBack s.tracker.belt s.tracker.geometry.filter) 1 =
      s.tracker.belt - BitVec.ofNat 32 s.tracker.geometry.filter + 1 := rfl
    simp only [Filter.accepts, edgeUsed, Bool.and_eq_true, Bool.or_eq_true, decide_eq_true_eq] at hacc
    obtain ⟨⟨hdark, hrun⟩, hused⟩ := hacc
    rw [List.mem_singleton, hpos, Edge.mk.injEq]
    exact ⟨fun ⟨hc, hl, hp⟩ => ⟨hc, hl, hdark, hrun, hused, hp⟩, fun ⟨hc, hl, _, _, _, hp⟩ => ⟨hc, hl, hp⟩⟩
  next hacc =>
    simp only [Filter.accepts, edgeUsed, Bool.and_eq_true, Bool.or_eq_true, decide_eq_true_eq] at hacc
    exact ⟨fun h => absurd h List.not_mem_nil, fun ⟨_, _, hdark, hrun, hused, _⟩ => absurd ⟨⟨hdark, hrun⟩, hused⟩ hacc⟩

theorem mem_cellEdges {s : State} {inputs : PulseInputs} {e : Edge} :
    e ∈ [Cell.e, .g, .m, .k, .s].flatMap (cellEdge s inputs) ↔
      e.leading = inputs.dark.get e.cell ∧ inputs.dark.get e.cell ≠ (s.tracker.filters.get e.cell).dark ∧
      s.tracker.geometry.filter ≤ (s.tracker.filters.get e.cell).run + 1 ∧ (e.leading = true ∨ e.cell = .e) ∧
      e.pos = s.tracker.belt - BitVec.ofNat 32 s.tracker.geometry.filter + 1 := by
  have hall (c : Cell) : c ∈ [Cell.e, .g, .m, .k, .s] := by cases c <;> simp
  rw [List.mem_flatMap]
  constructor
  · rintro ⟨c, -, hc⟩
    obtain ⟨rfl, hl, hdark, hrun, hused, hp⟩ := mem_cellEdge.mp hc
    exact ⟨hl, hdark, hrun, hl ▸ hused, hp⟩
  · rintro ⟨hl, hdark, hrun, hused, hp⟩
    exact ⟨e.cell, hall _, mem_cellEdge.mpr ⟨rfl, hl, hdark, hrun, hl ▸ hused, hp⟩⟩

/-- Differing samples fewer than the filter value leave the accepted level and count as a run (R2). -/
theorem foldl_sample_run {limit n : Nat} (level : Bool) (h : n < limit) :
    (List.replicate n (!level)).foldl (fun f x => Filter.sample limit x f) ⟨level, 0⟩ = ⟨level, n⟩ := by
  induction n with
  | zero => rfl
  | succ n ih =>
    rw [List.replicate_succ', List.foldl_append, ih (by omega)]
    simp only [List.foldl_cons, List.foldl_nil, filterSample_eq]
    rw [if_neg (by simp), if_pos h]

/-- Settles O34: the filters cell by cell, and the edges by the cell that gives each. -/
theorem pulseCountsAndFilters : Obligations.PulseCountsAndFilters := by
  refine ⟨fun inputs s => ⟨_, rfl, rfl, fun c => ?filter, _, rfl, fun e => mem_cellEdges⟩,
    fun limit n level h => ⟨foldl_sample_run level h, fun m hm => ?quiet, ?back⟩⟩
  case filter => exact (filterPulse_get inputs (countPulse s) c).trans (filterSample_eq _ _ _)
  case quiet =>
    rw [Filter.accepts, decide_eq_false (Nat.not_le.mpr (Nat.lt_of_le_of_lt hm h)), Bool.and_false]
  case back => rw [filterSample_eq, if_pos rfl]

/-! ### A pulse at the channels (R25, R26, R33, R34) -/

theorem samplePulse_get (pairs : PerChannel RawPair) (s : State) (c : Channel) :
    (samplePulse pairs s).channels.get c = channelPulse s pairs c := by
  cases c <;> rfl

theorem gainPair_eq (code : BitVec 4) (l : LampState) (r : RawPair) :
    gainPair code (!lampOn l) r =
      ⟨min 255 (r.f.toNat * (32 + code.toInt).toNat / 32), min 255 (r.p.toNat * (32 + code.toInt).toNat / 32),
        decide (r.f = 255 ∨ 255 ≤ r.f.toNat * (32 + code.toInt).toNat / 32 ∨
          r.p = 255 ∨ 255 ≤ r.p.toNat * (32 + code.toInt).toNat / 32),
        decide (l ≠ .on)⟩ := by
  have hbyte (b : Byte) : b.toNat = 255 ↔ b = 255 := by
    rw [show (255 : Nat) = (255 : Byte).toNat from rfl, BitVec.toNat_inj]
  simp only [gainPair, sampleOf, gained, clips, gain32, signedTrim, lampOn, hbyte, decide_not, Sample.mk.injEq,
    true_and, and_true]
  simp only [← Bool.decide_or, or_assoc]

/-- A gap window that takes samples begins, where it held none, at the first of them. -/
theorem gapJoin_cons (belt : Pos) (xs : List Sample) (x : Sample) (g : GapWindow) :
    g.join (belt + 1) (xs ++ [x]) =
      ⟨if g.samples = [] then belt + 1 - BitVec.ofNat 32 xs.length else g.start, g.samples ++ (xs ++ [x])⟩ := by
  have hstart : stepsOn (stepsBack (belt + 1) (xs ++ [x]).length) 1 = belt + 1 - BitVec.ofNat 32 xs.length := by
    rw [stepsOn, stepsBack, List.length_append, List.length_singleton, BitVec.ofNat_add]
    bv_omega
  rw [GapWindow.join, if_neg (by simp), hstart]

/-- Settles O35: each channel takes its gained pair. -/
theorem pulseGainsSamples : Obligations.PulseGainsSamples := by
  intro inputs s t c ht k r gain x starting
  obtain rfl : samplePulse inputs.pairs (filterPulse inputs (countPulse s)) = t := Host.Outcome.next.inj ht
  have hx : gainPair k.trim (!lampOn (s.lamps.state.get (channelSide c))) r = x := gainPair_eq _ _ _
  have hpulse : channelPulse (filterPulse inputs (countPulse s)) inputs.pairs c =
      k.take (s.tracker.belt + 1) starting (gainPair k.trim (!lampOn (s.lamps.state.get (channelSide c))) r) := rfl
  rw [samplePulse_get, hpulse, hx, ScanChannel.take, gapJoin_cons]
  have hrecent : keepRecent starting (k.recent ++ [x]) =
      (k.recent ++ [x]).drop (if starting = true then 0 else k.recent.length + 1 - 16) := by
    unfold keepRecent
    split
    · rfl
    · rw [List.length_append, List.length_singleton]
  have hgap : (k.spans = [] ∧ (!starting) = true) = (k.spans = [] ∧ starting = false) := by
    rw [Bool.not_eq_true']
  rw [hrecent]
  simp only [hgap]
  rfl

/-! ### Window 1 (R33, R34, R41) -/

/-- Settles O42: the step on the oldest ticket due, and how many steps its span then holds. -/
theorem windowOneStartsSpans : Obligations.WindowOneStartsSpans := by
  intro s y hdue start steps
  refine ⟨?step, fun k _ hsteps => ⟨?held, ?belt⟩⟩
  case step =>
    refine congrArg Host.Outcome.next ?_
    rw [window1Step, hdue]
    rfl
  case held =>
    rw [List.length_drop]
    omega
  case belt =>
    have hsteps : BitVec.ofNat 32 steps = s.tracker.belt - start + 1 := by
      rw [BitVec.ofNat_add, BitVec.ofNat_toNat, BitVec.setWidth_eq]
      rfl
    rw [hsteps]
    bv_omega

/-! ### The quantities of a window (R35, R36) and the completion of a gap window (R37, R38) -/

/-- The transitions are the adjacent pairs on opposite sides of the level. -/
theorem transitions_eq (level : Nat) (xs : List Nat) :
    transitions level xs =
      ((xs.zip xs.tail).filter fun p => decide (¬(level ≤ p.1 ↔ level ≤ p.2))).length := by
  induction xs with
  | nil => rfl
  | cons a xs ih =>
    cases xs with
    | nil => rfl
    | cons b xs =>
      have hcross : (decide (level ≤ a) != decide (level ≤ b)) = decide (¬(level ≤ a ↔ level ≤ b)) := by
        by_cases ha : level ≤ a <;> by_cases hb : level ≤ b <;> simp [ha, hb]
      rw [transitions, ih, hcross, Nat.add_comm, List.tail_cons, List.tail_cons, List.zip_cons_cons, List.filter_cons]
      cases decide (¬(level ≤ a ↔ level ≤ b)) <;> rfl

/-- The class of a window, its tests in order. -/
theorem classOf_eq (h : Threshold) (ea ef t : Nat) :
    classOf h ea ef t =
      if h.tagHigh ≤ ea then .stamp
      else if h.tagLow ≤ ea then (if t ≤ h.transLow then .stamp else .none)
      else if h.meterHigh ≤ ef ∧ t ≤ h.transHigh then .meter
      else .none := by
  unfold classOf
  by_cases hhigh : h.tagHigh ≤ ea
  · rw [if_pos (.inl hhigh), if_pos hhigh]
  · rw [if_neg hhigh]
    by_cases hlow : h.tagLow ≤ ea
    · rw [if_pos hlow, if_neg (c := h.meterHigh ≤ ef ∧ ea < h.tagLow ∧ t ≤ h.transHigh) (by omega)]
      simp only [hhigh, hlow, true_and, false_or]
    · rw [if_neg hlow, if_neg (by omega)]
      simp only [Nat.not_le.mp hlow, true_and]

theorem readySpan_none {spans : List Span} (h : ∀ sp ∈ spans, sp.samples.length < 8) : readySpan spans = none := by
  induction spans with
  | nil => rfl
  | cons sp spans ih =>
    rw [readySpan, if_neg (Nat.not_le.mpr (h sp (by simp))), ih fun x hx => h x (by simp [hx])]
    rfl

theorem windowCompletionStep_first {s : State} {c : Channel}
    (h : allChannels.find? (fun d => windowReady (s.channels.get d)) = some c) :
    exec .windowCompletion s = .next (completeOn c s) := by
  refine congrArg Host.Outcome.next ?_
  rw [windowCompletionStep, h]

/-- The baselines' rate, as an integer. -/
theorem rate_cast (fast : Nat) : (((if 0 < fast then 2 else 16 : Nat)) : Int) = if 0 < fast then 2 else 16 := by
  split <;> rfl

/-- The completion of a gap window of eight samples. -/
theorem completeGap_eight {k : ScanChannel} (h : k.gap.samples.length = 8) :
    let w := windowOf k.inForce k.bp k.bf k.gap.start k.gap.samples
    let d : Int := if 0 < k.fast then 2 else 16
    let updates := !w.cold && !w.clipped
    completeGap k = { k with
      gap := ⟨k.gap.start + 8, []⟩
      ring := ringPush ⟨w, none⟩ k.ring
      bp := if updates then (k.bp + Int.tdiv (2 * (sumP k.gap.samples : Int) - k.bp) d).toNat else k.bp
      bf := if updates then (k.bf + Int.tdiv (2 * (sumF k.gap.samples : Int) - k.bf) d).toNat else k.bf
      fast := if updates then k.fast - 1 else k.fast } := by
  intro w d updates
  have htake : k.gap.samples.take Config.windowSteps = k.gap.samples := List.take_of_length_le (by rw [h])
  have hdrop : k.gap.samples.drop Config.windowSteps = [] := List.drop_of_length_le (by rw [h])
  have hupdates : updates = !(w.cold || w.clipped) := (Bool.not_or _ _).symm
  unfold completeGap
  dsimp only
  rw [htake, hdrop, hupdates]
  by_cases hw : (w.cold || w.clipped) = true
  · rw [if_pos hw, hw]
    rfl
  · rw [if_neg hw, Bool.eq_false_of_not_eq_true hw]
    simp only [updateBaselines, moveBaseline, rate_cast]
    rfl

/-- Settles O43: the gap window by its eight samples, the bounds by the division's, and the window's quantities. -/
theorem gapWindowMovesBaselines : Obligations.GapWindowMovesBaselines := by
  refine ⟨fun s c hfirst hspans hgap => ?completion, fun b sum d hd => ?between, fun h bp bf start xs => ?window⟩
  case completion =>
    intro k w sp sf d updates
    rw [windowCompletionStep_first hfirst, completeOn, readySpan_none hspans]
    refine congrArg Host.Outcome.next ((if_pos (Nat.le_of_eq hgap.symm)).trans ?_)
    rw [setChannel, completeGap_eight hgap]
    rfl
  case between =>
    have h := moveBaseline_between b sum d
    exact ⟨fun hb => by omega, fun hb => by omega⟩
  case window =>
    intro fs ea ef level t
    rw [windowOf, classOf_eq, transitions_eq]
    rfl

end Sys2Proof.Proofs
end

section
/-! PROOFS. The class of a letter by the scores of its channels (R56 to R60). -/

namespace Sys2Proof.Proofs

open Sys2Proof.Machine Sys2Proof.Safety

/-! ### The best and the second score (R58) -/

theorem foldl_better_le (cs : Channel → Nat) (l : List Channel) (a : Channel) :
    cs a ≤ cs (l.foldl (better cs) a) ∧ ∀ d ∈ l, cs d ≤ cs (l.foldl (better cs) a) := by
  induction l generalizing a with
  | nil => exact ⟨Nat.le_refl _, fun _ h => absurd h List.not_mem_nil⟩
  | cons x l ih =>
    obtain ⟨hbetter, hl⟩ := ih (better cs a x)
    have hab : cs a ≤ cs (better cs a x) ∧ cs x ≤ cs (better cs a x) := by
      unfold better
      split <;> omega
    exact ⟨Nat.le_trans hab.1 hbetter, List.forall_mem_cons.mpr ⟨Nat.le_trans hab.2 hbetter, hl⟩⟩

/-- No channel scores more than the best. -/
theorem le_bestChannel (cs : Channel → Nat) (d : Channel) : cs d ≤ cs (bestChannel cs) :=
  (foldl_better_le cs allChannels .au).2 d (by cases d <;> simp)

theorem bestChannel_unique {cs : Channel → Nat} {c : Channel} (h : ∀ d, d ≠ c → cs d < cs c) : bestChannel cs = c := by
  by_contra hne
  exact absurd (le_bestChannel cs c) (Nat.not_le.mpr (h _ hne))

theorem foldl_max_le {l : List Nat} {a n : Nat} : l.foldl max a ≤ n ↔ a ≤ n ∧ ∀ x ∈ l, x ≤ n := by
  induction l generalizing a with
  | nil => simp
  | cons x l ih => rw [List.foldl_cons, ih, List.forall_mem_cons, Nat.max_le, and_assoc]

/-- The second score is at most what every other channel scores at most. -/
theorem secondScore_le {cs : Channel → Nat} {b : Channel} {n : Nat} :
    secondScore cs b ≤ n ↔ ∀ d, d ≠ b → cs d ≤ n := by
  have hall (d : Channel) : d ∈ allChannels := by cases d <;> simp
  rw [secondScore, foldl_max_le]
  simp [hall]

theorem secondScore_pos {cs : Channel → Nat} {b : Channel} : 0 < secondScore cs b ↔ ∃ d, d ≠ b ∧ 0 < cs d := by
  rw [Nat.pos_iff_ne_zero, ne_eq, ← Nat.le_zero, secondScore_le]
  simp [Nat.pos_iff_ne_zero]

theorem mul_secondScore_le {cs : Channel → Nat} {b : Channel} {k n : Nat} (hk : 0 < k) :
    k * secondScore cs b ≤ n ↔ ∀ d, d ≠ b → k * cs d ≤ n := by
  simp only [Nat.mul_comm k, ← Nat.le_div_iff_mul_le hk, secondScore_le]

/-! ### The cancel mark (R60) -/

/-- A split of what is kept of a list is a split of the list. -/
theorem splits_of_filter {p : Mark → Bool} {l ahead behind : List Mark} {m : Mark}
    (h : l.filter p = ahead ++ m :: behind) : ∃ ahead' behind', l = ahead' ++ m :: behind' ∧ p m = true ∧
      (∀ x ∈ ahead', p x = true → x ∈ ahead) ∧ ∀ x ∈ behind', p x = true → x ∈ behind := by
  obtain ⟨a, rest, rfl, rfl, hrest⟩ := List.filter_eq_append_iff.mp h
  obtain ⟨skipped, b, rfl, hskipped, hm, rfl⟩ := List.filter_eq_cons_iff.mp hrest
  refine ⟨a ++ skipped, b, by simp, hm, fun x hx hp => ?_, fun x hx hp => List.mem_filter.mpr ⟨hx, hp⟩⟩
  rcases List.mem_append.mp hx with hx | hx
  · exact List.mem_filter.mpr ⟨hx, hp⟩
  · exact absurd hp (hskipped x hx)

/-- A channel that scores has a mark that counts. -/
theorem exists_of_channelScore {floor : Nat} {marks : List Mark} {c : Channel} (h : 0 < channelScore floor marks c) :
    ∃ m ∈ marks, m.channel = c ∧ m.kind = .stamp ∧ floor ≤ m.score := by
  have hne : marks.filter (counts floor c) ≠ [] := by
    intro hnil
    rw [channelScore, hnil] at h
    exact Nat.lt_irrefl 0 h
  obtain ⟨m, hm⟩ := List.exists_mem_of_ne_nil _ hne
  obtain ⟨hmem, hcounts⟩ := List.mem_filter.mp hm
  exact ⟨m, hmem, of_decide_eq_true hcounts⟩

/-- The cancel mark of a channel that scores is its first STAMP mark of the highest score. -/
theorem cancelMark_splits {floor : Nat} {marks : List Mark} {c : Channel} (h : 0 < channelScore floor marks c) :
    ∃ (before behind : List Mark) (m : Mark), marks = before ++ m :: behind ∧ cancelMark marks c = some m ∧
      m.channel = c ∧ m.kind = .stamp ∧ floor ≤ m.score ∧
      (∀ x ∈ before, x.channel = c → x.kind = .stamp → x.score < m.score) ∧
      (∀ x ∈ behind, x.channel = c → x.kind = .stamp → x.score ≤ m.score) := by
  obtain ⟨z, hz, hzc, hzk, hzf⟩ := exists_of_channelScore h
  have hzmem : z ∈ marks.filter fun m => decide (m.channel = c ∧ m.kind = .stamp) :=
    List.mem_filter.mpr ⟨hz, decide_eq_true ⟨hzc, hzk⟩⟩
  obtain ⟨ahead, m, rest, hsplit, hmark, hahead, hrest⟩ := foldl_higherMark_splits _ (List.ne_nil_of_mem hzmem)
  obtain ⟨before, behind, hmarks, hm, hbefore, hbehind⟩ := splits_of_filter hsplit
  have hfloor : floor ≤ m.score := by
    rw [hsplit] at hzmem
    rcases List.mem_append.mp hzmem with hz' | hz'
    · exact Nat.le_trans hzf (Nat.le_of_lt (hahead z hz'))
    · rcases List.mem_cons.mp hz' with rfl | hz'
      · exact hzf
      · exact Nat.le_trans hzf (hrest z hz')
  obtain ⟨hmc, hmk⟩ := of_decide_eq_true hm
  exact ⟨before, behind, m, hmarks, hmark, hmc, hmk, hfloor,
    fun x hx hxc hxk => hahead x (hbefore x hx (decide_eq_true ⟨hxc, hxk⟩)),
    fun x hx hxc hxk => hrest x (hbehind x hx (decide_eq_true ⟨hxc, hxk⟩))⟩

/-! ### The verdict (R56 to R59) -/

/-- A channel that scores and dominates every other gives the verdict. -/
theorem scoreVerdict_dominant {r : DecideRecord} {marks : List Mark} {c : Channel} (hdom : 12 ≤ r.dom8)
    (hc : 0 < channelScore r.floor marks c)
    (h : ∀ d, d ≠ c → r.dom8 * channelScore r.floor marks d ≤ 8 * channelScore r.floor marks c) :
    scoreVerdict r marks = ⟨(channelVerdict c).1, (channelVerdict c).2.1, .on (channelVerdict c).2.2,
      decide (0 < secondScore (channelScore r.floor marks) c), cancelMark marks c⟩ := by
  have hless (d : Channel) (hd : d ≠ c) : channelScore r.floor marks d < channelScore r.floor marks c := by
    have hle := h d hd
    have hmul := Nat.mul_le_mul_right (channelScore r.floor marks d) hdom
    omega
  rw [scoreVerdict, bestChannel_unique hless, if_neg (Nat.ne_of_gt hc),
    if_pos ((mul_secondScore_le (by omega)).mpr h)]

/-- Where some channel scores and none dominates, the class is AMBIG. -/
theorem scoreVerdict_ambiguous {r : DecideRecord} {marks : List Mark} (hdom : 12 ≤ r.dom8)
    (hsome : ∃ c, 0 < channelScore r.floor marks c)
    (h : ∀ c, ∃ d, d ≠ c ∧ 8 * channelScore r.floor marks c < r.dom8 * channelScore r.floor marks d) :
    scoreVerdict r marks = noChannel .ambig := by
  obtain ⟨c, hc⟩ := hsome
  have hbest := le_bestChannel (channelScore r.floor marks) c
  obtain ⟨d, hd, hlt⟩ := h (bestChannel (channelScore r.floor marks))
  rw [scoreVerdict, if_neg (by omega), if_neg]
  exact fun hle => absurd ((mul_secondScore_le (by omega)).mp hle d hd) (Nat.not_le.mpr hlt)

/-- Where no channel scores, a METER mark decides. -/
theorem scoreVerdict_unscored {r : DecideRecord} {marks : List Mark} (h : ∀ c, channelScore r.floor marks c = 0) :
    scoreVerdict r marks =
      if marks.any fun m => decide (m.kind = .meter) then noChannel .meter else noChannel .none := by
  rw [scoreVerdict, if_pos (h _)]

/-- Settles O46: by whether a channel scores and dominates. -/
theorem dominanceGivesClass : Obligations.DominanceGivesClass := by
  refine ⟨fun r marks hdom => ?scores, fun r y => ⟨fun h => ?flagged, fun hsize hcold => ?judged⟩⟩
  case scores =>
    intro cs v
    refine ⟨fun c hc h => ?dominant, fun hsome h => scoreVerdict_ambiguous hdom hsome h, fun h hm => ?meter,
      fun h hm => ?none⟩
    case dominant =>
      have hv : v = _ := scoreVerdict_dominant hdom hc h
      rw [hv]
      refine ⟨by cases c <;> rfl, decide_eq_true_iff.trans secondScore_pos, cancelMark_splits hc⟩
    case meter =>
      have hany : marks.any (fun m => decide (m.kind = .meter)) = true := by simpa using hm
      exact (scoreVerdict_unscored h).trans (if_pos hany)
    case none =>
      have hany : marks.any (fun m => decide (m.kind = .meter)) = false := by simpa using hm
      exact (scoreVerdict_unscored h).trans (if_neg (ne_true_of_eq_false hany))
  case flagged =>
    by_cases hsize : y.size.isSome = true
    · exact if_pos hsize
    · have hcold : (y.cold.a || y.cold.b) = true := by
        rcases h with h | h | h
        · exact absurd (Option.isSome_iff_ne_none.mpr h) hsize
        · rw [h, Bool.true_or]
        · rw [h, Bool.or_true]
      exact (if_neg hsize).trans (if_pos hcold)
  case judged => simp [verdict, hsize, hcold]

end Sys2Proof.Proofs
end

section
/-! PROOFS. Mark finding by two windows of three, the mark that closes, and the list it joins (R43 to R46). -/

namespace Sys2Proof.Proofs

open Sys2Proof.Machine Sys2Proof.Safety

/-! ### Opening and closing (R43) -/

/-- An open mark closes where fewer than two of the windows considered are of its class. -/
theorem findMarks_open (g : Geometry) (y : Ticket) (c : Channel) (done : List Window) (o : OpenMark) :
    findMarks g y c false done (some o) =
      if countClass (classOfKind o.kind) (considered done) < 2 then
        ((findMarks g y c false done none).1, [closedMark g y c o done])
      else (some o, []) := by
  unfold findMarks
  by_cases h : countClass (classOfKind o.kind) (considered done) < 2 <;> simp [h]

/-- An idle state opens the mark that is to open, and closes none. -/
theorem findMarks_idle (g : Geometry) (y : Ticket) (c : Channel) (done : List Window) :
    findMarks g y c false done none =
      ((opening done).map fun k => ⟨k, earliest (classOfKind k) done⟩, []) := rfl

/-- At the end of the span a mark still open closes too. -/
theorem findMarks_ends (g : Geometry) (y : Ticket) (c : Channel) (done : List Window) (o : Option OpenMark) :
    findMarks g y c true done o = (none, (findMarks g y c false done o).2 ++
      ((findMarks g y c false done o).1.map fun x => closedMark g y c x done).toList) := rfl

theorem opening_isSome {done : List Window} :
    opening done ≠ none ↔ 2 ≤ countClass .stamp (considered done) ∨ 2 ≤ countClass .meter (considered done) := by
  unfold opening
  by_cases hs : 2 ≤ countClass .stamp (considered done)
  · simp [hs]
  · by_cases hm : 2 ≤ countClass .meter (considered done) <;> simp [hs, hm]

theorem findMarks_idle_some (g : Geometry) (y : Ticket) (c : Channel) (ends : Bool) (done : List Window) :
    ((findMarks g y c ends done none).1 ≠ none ∨ (findMarks g y c ends done none).2 ≠ []) ↔ opening done ≠ none := by
  cases ends with
  | false => rw [findMarks_idle]; cases opening done <;> simp
  | true => rw [findMarks_ends, findMarks_idle]; cases opening done <;> simp

/-- No window is of both classes. -/
theorem countClass_add_le (ws : List Window) : countClass .stamp ws + countClass .meter ws ≤ ws.length := by
  induction ws with
  | nil => exact Nat.le_refl 0
  | cons w ws ih =>
    simp only [countClass, List.filter_cons, List.length_cons] at ih ⊢
    cases w.cls <;> simp <;> omega

theorem length_considered (done : List Window) : (considered done).length ≤ 3 := by
  rw [considered, List.length_drop]
  omega

/-- Two of the three windows considered leave one for the other kind. -/
theorem opening_of_two {done : List Window} {kind : MarkKind}
    (h : 2 ≤ countClass (classOfKind kind) (considered done)) : opening done = some kind := by
  have hsum := countClass_add_le (considered done)
  have hlen := length_considered done
  cases kind with
  | stamp => exact if_pos h
  | meter =>
    have h' : 2 ≤ countClass .meter (considered done) := h
    exact (if_neg (by omega)).trans (if_pos h')

/-- The earliest window of a class among those considered. -/
theorem earliest_split {c : WinClass} {before behind : List Window} {w : Window} (hlen : behind.length ≤ 2)
    (hw : w.cls = c) (hb : ∀ x ∈ before.drop ((before ++ w :: behind).length - 3), x.cls ≠ c) :
    earliest c (before ++ w :: behind) = before.length + 1 := by
  have hle : (before ++ w :: behind).length - 3 ≤ before.length := by
    simp only [List.length_append, List.length_cons]
    omega
  have hcons : considered (before ++ w :: behind) =
      before.drop ((before ++ w :: behind).length - 3) ++ w :: behind := List.drop_append_of_le_length hle
  have hidx : (before.drop ((before ++ w :: behind).length - 3) ++ w :: behind).findIdx
      (fun x => decide (x.cls = c)) = (before.drop ((before ++ w :: behind).length - 3)).length := by
    rw [List.findIdx_append, if_neg]
    · simp [List.findIdx_cons, hw]
    · intro hlt
      obtain ⟨x, hx, hxc⟩ := List.findIdx_lt_length.mp hlt
      exact hb x hx (of_decide_eq_true hxc)
  rw [earliest, hcons, hidx]
  simp only [List.length_append, List.length_cons, List.length_drop] at hle ⊢
  omega

/-! ### The closed mark (R44, R45) -/

theorem foldl_max_mem (l : List Nat) (a : Nat) : l.foldl max a = a ∨ l.foldl max a ∈ l := by
  induction l generalizing a with
  | nil => exact .inl rfl
  | cons x l ih =>
    rw [List.foldl_cons]
    rcases ih (max a x) with h | h
    · rw [h]
      rcases Nat.le_total a x with hx | hx
      · exact .inr (by simp [Nat.max_eq_right hx])
      · exact .inl (Nat.max_eq_left hx)
    · exact .inr (List.mem_cons_of_mem _ h)

/-- The greatest of some values is one of them. -/
theorem foldl_max_attained {l : List Nat} (h : l ≠ []) : l.foldl max 0 ∈ l := by
  rcases foldl_max_mem l 0 with hzero | hmem
  · obtain ⟨x, hx⟩ := List.exists_mem_of_ne_nil l h
    have hle := (foldl_max_le.mp (Nat.le_of_eq hzero)).2 x hx
    rw [hzero]
    exact Nat.le_zero.mp hle ▸ hx
  · exact hmem

theorem clampEnd_eq (g : Geometry) (y : Ticket) (e : Nat) :
    clampEnd g y e =
      match y.length with
      | some n => min e n
      | none => if y.size = some .long then min e g.maxLen else e := by
  unfold clampEnd isLong
  cases y.length with
  | some => rfl
  | none => simp

/-- The mark that closes, by the last window of its kind. -/
theorem closedMark_split {g : Geometry} {y : Ticket} {c : Channel} {o : OpenMark} {before behind : List Window}
    {w : Window} (hw : w.cls = classOfKind o.kind) (hb : ∀ x ∈ behind, x.cls ≠ classOfKind o.kind) :
    closedMark g y c o (before ++ w :: behind) =
      let ws := (before ++ [w]).drop (o.first - 1)
      let own := (ws.filter fun x => decide (x.cls = classOfKind o.kind)).map (strength o.kind)
      { channel := c, kind := o.kind, start := 8 * (o.first - 1)
        length := clampEnd g y (8 * (before.length + 1)) - 8 * (o.first - 1)
        score := min 65535 own.sum, clipped := ws.any Window.clipped, peak := own.foldl max 0 } := by
  have htake : (before ++ w :: behind).take (before.length + 1) = before ++ [w] := by
    rw [List.take_append, List.take_of_length_le (Nat.le_succ _), Nat.add_sub_cancel_left]
    rfl
  rw [closedMark, lastOf_split hw hb, htake]

/-! ### The list a mark joins (R46) -/

theorem le_foldl_min {l : List Nat} {a n : Nat} : n ≤ l.foldl min a ↔ n ≤ a ∧ ∀ x ∈ l, n ≤ x := by
  induction l generalizing a with
  | nil => simp
  | cons x l ih => rw [List.foldl_cons, ih, List.forall_mem_cons, Nat.le_min, and_assoc]

/-- The lowest score of a list is that of a mark none scores below. -/
theorem lowestScore_eq {ms : List Mark} {x : Mark} (hx : x ∈ ms) (hle : x.score ≤ 65535)
    (h : ∀ z ∈ ms, x.score ≤ z.score) : lowestScore ms = x.score := by
  refine Nat.le_antisymm ?_ (le_foldl_min.mpr ⟨hle, fun n hn => ?_⟩)
  · exact (le_foldl_min.mp (Nat.le_refl (lowestScore ms))).2 x.score (List.mem_map_of_mem hx)
  · obtain ⟨z, hz, rfl⟩ := List.mem_map.mp hn
    exact h z hz

/-- The last mark of a score is the one erased. -/
theorem eraseLastScore_split {before behind : List Mark} {x : Mark} (h : ∀ z ∈ behind, z.score ≠ x.score) :
    eraseLastScore x.score (before ++ x :: behind) = before ++ behind := by
  have hrev : (before ++ x :: behind).reverse = behind.reverse ++ x :: before.reverse := by simp
  rw [eraseLastScore, hrev, List.eraseP_append_right _ (by simpa using h), List.eraseP_cons_of_pos (by simp)]
  simp

theorem joinMarks_full {m x : Mark} {before behind : List Mark} (hlen : before.length + behind.length = 5)
    (hlow : ∀ z ∈ before ++ behind, x.score ≤ z.score) (hlast : ∀ z ∈ behind, z.score ≠ x.score)
    (hle : x.score ≤ 65535) :
    joinMarks m (before ++ x :: behind) =
      if x.score < m.score then before ++ behind ++ [m] else before ++ x :: behind := by
  have hlowest : lowestScore (before ++ x :: behind) = x.score := by
    refine lowestScore_eq (by simp) hle fun z hz => ?_
    rcases List.mem_append.mp hz with hz | hz
    · exact hlow z (List.mem_append_left _ hz)
    · rcases List.mem_cons.mp hz with rfl | hz
      · exact Nat.le_refl _
      · exact hlow z (List.mem_append_right _ hz)
  have hfull : ¬(before ++ x :: behind).length < Config.markListSize := by
    simp only [List.length_append, List.length_cons, Config.markListSize]
    omega
  rw [joinMarks, if_neg hfull, hlowest, eraseLastScore_split hlast]

/-! ### The mark that reaches its ticket (R45, R46) -/

theorem deliverMark_gone {n : U16} {minMark : Nat} {m : Mark} {s : State} (h : ticketOf s n = none) :
    deliverMark n minMark m s = s := by
  rw [deliverMark, h]

theorem deliverMark_speck {n : U16} {minMark : Nat} {m : Mark} {s : State} {z : Ticket} (h : ticketOf s n = some z)
    (hm : m.length < minMark) : deliverMark n minMark m s = inBothSets (bump .specks) s := by
  rw [deliverMark, h]
  exact if_pos hm

theorem deliverMark_joins {n : U16} {minMark : Nat} {m : Mark} {s : State} {z : Ticket} (h : ticketOf s n = some z)
    (hm : minMark ≤ m.length) :
    deliverMark n minMark m s =
      postIf (decide (6 ≤ z.marks.length) && !z.manyMarks) .manyMarks
        (withTable (rewrite n (fun u => { u with
          marks := joinMarks m u.marks, manyMarks := u.manyMarks || decide (6 ≤ z.marks.length) }) s.tracker.table) s) := by
  rw [deliverMark, h]
  exact if_neg (Nat.not_lt.mpr hm)

/-- Settles O45: each clause by the equation of its operation. -/
theorem marksByTwoOfThree : Obligations.MarksByTwoOfThree := by
  refine fun g y c done => ⟨fun o h => ?stays, fun o h => ?closes, fun ends => ?idle,
    fun kind before behind w hdone hlen hw hb h => ?opens, fun o => findMarks_ends g y c done o,
    fun o before behind w hdone hw hb => ?closed, fun m ms h => if_pos h,
    fun m x before behind hlen hlow hlast hle => joinMarks_full hlen hlow hlast hle,
    fun n minMark m s => ⟨deliverMark_gone, fun z => deliverMark_speck, fun z hz hm => ?joins⟩⟩
  case stays => rw [findMarks_open, if_neg (Nat.not_lt.mpr h)]
  case closes => rw [findMarks_open, if_pos h]
  case idle => rw [findMarks_idle_some, opening_isSome]
  case opens =>
    subst hdone
    rw [findMarks_idle, opening_of_two h, Option.map_some, earliest_split hlen hw hb]
  case closed =>
    intro stop stop' ws own value m
    subst hdone
    have hvalue : strength o.kind = value := by
      funext x
      show strength o.kind x = (match o.kind with | .stamp => x.ea | .meter => x.ef)
      cases o.kind <;> rfl
    have hstop : clampEnd g y stop = stop' := clampEnd_eq g y stop
    have hm : m = _ := closedMark_split (g := g) (y := y) (c := c) (before := before) hw hb
    rw [hm]
    dsimp only
    rw [hvalue, hstop]
    refine ⟨rfl, rfl, rfl, rfl, rfl, rfl, fun x hx => ?_, fun hne => ?_⟩
    · exact (foldl_max_le.mp (Nat.le_refl _)).2 _ (List.mem_map_of_mem hx)
    · obtain ⟨x, hx, hpeak⟩ := List.mem_map.mp (foldl_max_attained (l := own.map value) (by simpa using hne))
      exact ⟨x, hx, hpeak⟩
  case joins =>
    intro full t
    rw [deliverMark_joins hz hm, postIf, post_eq_inBothSets]
    simp only [Bool.and_eq_true, Bool.not_eq_true']
    rfl

end Sys2Proof.Proofs
end

section
/-! PROOFS. The completion of a letter window: its ring entry, the cold flag, the marks it closes, and the end of the
span (R31, R33, R37, R43 to R46, R48, R50). -/

namespace Sys2Proof.Proofs

open Sys2Proof.Machine Sys2Proof.Safety

/-! ### What a window does to its ticket -/

/-- The cold flag of a window and the marks it closes, on the ticket of a number. -/
def windowOnTicket (n : U16) (minMark : Nat) (d : Side) (cold : Bool) (ms : List Mark) (s : State) : State :=
  ms.foldl (fun u m => deliverMark n minMark m u) (if cold then flagCold n d s else s)

/-- The state with another letter table, other lamps and other tallies. -/
def workedOn (ts : List Ticket) (l : Lamps) (ta : Tally) (s : State) : State :=
  { s with tracker := { s.tracker with table := ts }, lamps := l, tally := ta }

theorem flagCold_workedOn (n : U16) (d : Side) (s : State) : ∃ ts l ta, flagCold n d s = workedOn ts l ta s := by
  unfold flagCold
  split
  · exact ⟨_, _, _, rfl⟩
  · split
    · exact ⟨_, _, _, rfl⟩
    · exact ⟨_, _, _, rfl⟩

theorem deliverMark_workedOn (n : U16) (minMark : Nat) (m : Mark) (s : State) :
    ∃ ts l ta, deliverMark n minMark m s = workedOn ts l ta s := by
  cases h : ticketOf s n with
  | none => exact ⟨_, _, _, deliverMark_gone h⟩
  | some z =>
    by_cases hm : m.length < minMark
    · exact ⟨_, _, _, deliverMark_speck h hm⟩
    · rw [deliverMark_joins h (Nat.not_lt.mp hm), postIf]
      split
      · exact ⟨_, _, _, rfl⟩
      · exact ⟨_, _, _, rfl⟩

theorem foldl_deliverMark_workedOn (n : U16) (minMark : Nat) (ms : List Mark) (s : State) :
    ∃ ts l ta, ms.foldl (fun u m => deliverMark n minMark m u) s = workedOn ts l ta s := by
  induction ms generalizing s with
  | nil => exact ⟨_, _, _, rfl⟩
  | cons m ms ih =>
    obtain ⟨_, _, _, hm⟩ := deliverMark_workedOn n minMark m s
    obtain ⟨_, _, _, hms⟩ := ih (deliverMark n minMark m s)
    rw [List.foldl_cons, hms, hm]
    exact ⟨_, _, _, rfl⟩

/-- A window on its ticket changes the letter table, the lamps' wake-error counts and the tallies alone. -/
theorem windowOnTicket_workedOn (n : U16) (minMark : Nat) (d : Side) (cold : Bool) (ms : List Mark) (s : State) :
    ∃ ts l ta, windowOnTicket n minMark d cold ms s = workedOn ts l ta s := by
  unfold windowOnTicket
  cases cold with
  | false => exact foldl_deliverMark_workedOn n minMark ms s
  | true =>
    obtain ⟨_, _, _, hcold⟩ := flagCold_workedOn n d s
    obtain ⟨_, _, _, hms⟩ := foldl_deliverMark_workedOn n minMark ms (flagCold n d s)
    rw [if_pos rfl, hms, hcold]
    exact ⟨_, _, _, rfl⟩

/-! ### Numbers and cold flags of the table -/

/-- The numbers and cold flags of the table, in order. -/
def coldFlags (s : State) : List (U16 × PerSide Bool) := s.tracker.table.map fun t => (t.number, t.cold)

theorem coldFlags_numbers (s : State) : (coldFlags s).map Prod.fst = s.tracker.table.map Ticket.number := by
  rw [coldFlags, List.map_map]
  rfl

theorem coldFlags_deliverMark (n : U16) (minMark : Nat) (m : Mark) (s : State) :
    coldFlags (deliverMark n minMark m s) = coldFlags s := by
  cases h : ticketOf s n with
  | none => rw [deliverMark_gone h]
  | some z =>
    by_cases hm : m.length < minMark
    · rw [deliverMark_speck h hm]
      rfl
    · rw [deliverMark_joins h (Nat.not_lt.mp hm), postIf]
      have hrewrite : coldFlags (withTable (rewrite n (fun u => { u with
          marks := joinMarks m u.marks, manyMarks := u.manyMarks || decide (6 ≤ z.marks.length) })
          s.tracker.table) s) = coldFlags s := by
        simp only [coldFlags, withTable, rewrite, List.map_map]
        refine List.map_congr_left fun t _ => ?_
        by_cases ht : t.number = n <;> simp [ht]
      split
      · exact hrewrite
      · exact hrewrite

theorem coldFlags_foldl_deliverMark (n : U16) (minMark : Nat) (ms : List Mark) (s : State) :
    coldFlags (ms.foldl (fun u m => deliverMark n minMark m u) s) = coldFlags s := by
  induction ms generalizing s with
  | nil => rfl
  | cons m ms ih => rw [List.foldl_cons, ih, coldFlags_deliverMark]

/-- A decision leaves the numbers and the cold flags. -/
theorem coldFlags_judgeComplete (n : U16) (s : State) : coldFlags (judgeComplete n s) = coldFlags s := by
  have hdecision : coldFlags (decisionPoint n s) = coldFlags s := by
    have h := congrArg (List.map fun t : Ticket => (t.number, t.cold)) (decisionPoint_undecided n s)
    rw [List.map_map, List.map_map] at h
    exact h
  unfold judgeComplete
  split
  · rfl
  · split
    · exact hdecision
    · rfl

theorem flagCold_set {n : U16} {d : Side} {s : State} {y : Ticket} (hy : ticketOf s n = some y)
    (hcold : y.cold.get d = true) : flagCold n d s = s := by
  rw [flagCold, hy]
  exact if_pos hcold

theorem flagCold_unset {n : U16} {d : Side} {s : State} {y : Ticket} (hy : ticketOf s n = some y)
    (hcold : y.cold.get d = false) :
    flagCold n d s = withTable (rewrite n (fun u => { u with cold := u.cold.set d true }) s.tracker.table)
      { s with lamps := { s.lamps with
        wakeErrors := s.lamps.wakeErrors.set d (min 65535 (s.lamps.wakeErrors.get d + 1)) } } := by
  rw [flagCold, hy]
  exact if_neg (ne_true_of_eq_false hcold)

theorem flagCold_numbers (n : U16) (d : Side) (s : State) :
    (flagCold n d s).tracker.table.map Ticket.number = s.tracker.table.map Ticket.number := by
  unfold flagCold
  split
  · rfl
  · split
    · rfl
    · exact setTicket_numbers n _ _ fun _ => rfl

/-- Two tickets of one number in a table of different numbers are one. -/
theorem ticket_unique {s : State} {x y : Ticket} (hn : NumbersDiffer s) (hx : x ∈ s.tracker.table)
    (hy : y ∈ s.tracker.table) (h : x.number = y.number) : x = y :=
  List.inj_on_of_nodup_map hn hx hy h

theorem ticketOf_mem {s : State} {y : Ticket} (hn : NumbersDiffer s) (hy : y ∈ s.tracker.table) :
    ticketOf s y.number = some y := by
  obtain ⟨older, younger, htable⟩ := List.append_of_mem hy
  exact ticketOf_number htable hn

/-- A cold window leaves no ticket of its number without the flag. -/
theorem flagCold_flags {d : Side} {s : State} {y : Ticket} (hn : NumbersDiffer s) (hy : y ∈ s.tracker.table) :
    ∀ p ∈ coldFlags (flagCold y.number d s), p.1 = y.number → p.2.get d = true := by
  intro p hp hnum
  cases hcold : y.cold.get d with
  | true =>
    rw [flagCold_set (ticketOf_mem hn hy) hcold] at hp
    obtain ⟨z, hz, rfl⟩ := List.mem_map.mp hp
    rw [ticket_unique hn hz hy hnum]
    exact hcold
  | false =>
    rw [flagCold_unset (ticketOf_mem hn hy) hcold] at hp
    simp only [coldFlags, withTable, rewrite, List.map_map] at hp
    obtain ⟨z, -, rfl⟩ := List.mem_map.mp hp
    by_cases hz : z.number = y.number
    · simp [hz]
    · simp [hz] at hnum

/-! ### The completion (R37) -/

/-- The letter window that a span's first samples make. -/
def letterWindow (k : ScanChannel) (sp : Span) : Window :=
  windowOf sp.bound k.bp k.bf sp.start (sp.samples.take Config.windowSteps)

/-- The ring of a channel with that window entered. -/
def letterRing (k : ScanChannel) (sp : Span) : List RingEntry :=
  ringPush ⟨letterWindow k sp, some sp.ticket⟩ k.ring

/-- The channel once its span has ended: the next gap window begins at the following step. -/
def letterEnded (before : List Span) (sp : Span) (behind : List Span) (k : ScanChannel) : ScanChannel :=
  { k with
    ring := letterRing k sp
    spans := before ++ behind
    gap := ⟨stepsOn sp.start Config.windowSteps, []⟩ }

/-- The channel whose span goes on with its next window. -/
def letterGoesOn (before : List Span) (sp : Span) (behind : List Span) (o : Option OpenMark) (k : ScanChannel) :
    ScanChannel :=
  { k with ring := letterRing k sp, spans := before ++ sp.next (letterWindow k sp) o :: behind }

/-- The state with that window entered in the ring. -/
def enteredLetter (c : Channel) (sp : Span) (s : State) : State :=
  setChannel c (fun x => { x with ring := ringPush ⟨letterWindow (s.channels.get c) sp, some sp.ticket⟩ x.ring }) s

theorem completion_letter {s : State} {c : Channel} {before behind : List Span} {sp : Span}
    (hfirst : allChannels.find? (fun d => windowReady (s.channels.get d)) = some c)
    (hspans : (s.channels.get c).spans = before ++ sp :: behind) (hb : ∀ x ∈ before, x.samples.length < 8)
    (hsp : 8 ≤ sp.samples.length) : exec .windowCompletion s = .next (completeLetter c before sp behind s) := by
  rw [windowCompletionStep_first hfirst, completeOn, hspans, readySpan_first hb hsp]

/-- The completion of a letter window, by the ticket of its span. -/
theorem completeLetter_ticketOf (c : Channel) (before : List Span) (sp : Span) (behind : List Span) (s : State) :
    completeLetter c before sp behind s =
      let w := letterWindow (s.channels.get c) sp
      let done := sp.done ++ [w]
      let next := stepsOn sp.start Config.windowSteps
      let s1 := enteredLetter c sp s
      match ticketOf s1 sp.ticket with
      | none => endSpan c before behind next s1
      | some t =>
        let ends := spanEnds s1.tracker.geometry t done.length
        let s2 := if w.cold then flagCold sp.ticket (channelSide c) s1 else s1
        let marks := findMarks s2.tracker.geometry t c ends done sp.mark
        let s3 := windowOnTicket sp.ticket sp.bound.minMark (channelSide c) w.cold marks.2 s1
        if ends then judgeComplete sp.ticket (endSpan c before behind next s3)
        else setChannel c (fun x => { x with spans := before ++ sp.next w marks.1 :: behind }) s3 := by
  unfold completeLetter
  rfl

theorem enteredLetter_with (c : Channel) (sp : Span) (ks : PerChannel ScanChannel) (s : State) :
    { enteredLetter c sp s with channels := ks } = { s with channels := ks } := rfl

/-- A change of that channel after its ring. -/
theorem setChannel_entered {c : Channel} {sp : Span} {s u : State} (f : ScanChannel → ScanChannel)
    (hu : u.channels = (enteredLetter c sp s).channels) :
    setChannel c f u = { u with
      channels := s.channels.set c (f { s.channels.get c with ring := letterRing (s.channels.get c) sp }) } := by
  rw [setChannel, hu, enteredLetter, setChannel, PerChannel.get_set, if_pos rfl, PerChannel.set_set]
  rfl

/-- A span without its ticket ends. -/
theorem completeLetter_gone {s : State} {c : Channel} {before behind : List Span} {sp : Span}
    (h : ∀ y ∈ s.tracker.table, y.number ≠ sp.ticket) :
    completeLetter c before sp behind s =
      { s with channels := s.channels.set c (letterEnded before sp behind (s.channels.get c)) } := by
  have hnone : ticketOf (enteredLetter c sp s) sp.ticket = none :=
    List.find?_eq_none.mpr fun y hy => by simpa using h y hy
  rw [completeLetter_ticketOf]
  dsimp only
  rw [hnone, endSpan, setChannel_entered _ rfl, enteredLetter_with, letterEnded]

/-- A span with its ticket goes on with its next window, or ends and is reported. -/
theorem completeLetter_present {s : State} {c : Channel} {before behind : List Span} {sp : Span} {y : Ticket}
    (hy : ticketOf s sp.ticket = some y) :
    let k := s.channels.get c
    let w := letterWindow k sp
    let done := sp.done ++ [w]
    let ends := spanEnds s.tracker.geometry y done.length
    let found := findMarks s.tracker.geometry y c ends done sp.mark
    let s2 := windowOnTicket sp.ticket sp.bound.minMark (channelSide c) w.cold found.2 (enteredLetter c sp s)
    completeLetter c before sp behind s =
      if ends then judgeComplete sp.ticket { s2 with channels := s.channels.set c (letterEnded before sp behind k) }
      else { s2 with channels := s.channels.set c (letterGoesOn before sp behind found.1 k) } := by
  intro k w done ends found s2
  have hy' : ticketOf (enteredLetter c sp s) sp.ticket = some y := hy
  have hgeometry : (if w.cold then flagCold sp.ticket (channelSide c) (enteredLetter c sp s)
      else enteredLetter c sp s).tracker.geometry = s.tracker.geometry := by
    obtain ⟨_, _, _, hcold⟩ := flagCold_workedOn sp.ticket (channelSide c) (enteredLetter c sp s)
    split
    · rw [hcold]
      rfl
    · rfl
  have hchannels : s2.channels = (enteredLetter c sp s).channels := by
    obtain ⟨_, _, _, hs2⟩ :=
      windowOnTicket_workedOn sp.ticket sp.bound.minMark (channelSide c) w.cold found.2 (enteredLetter c sp s)
    show (windowOnTicket sp.ticket sp.bound.minMark (channelSide c) w.cold found.2 (enteredLetter c sp s)).channels = _
    rw [hs2]
    rfl
  rw [completeLetter_ticketOf]
  dsimp only
  rw [hy']
  dsimp only
  rw [hgeometry]
  show (if ends then judgeComplete sp.ticket (endSpan c before behind (stepsOn sp.start Config.windowSteps) s2)
    else setChannel c (fun x => { x with spans := before ++ sp.next w found.1 :: behind }) s2) = _
  rw [endSpan, setChannel_entered _ hchannels, setChannel_entered _ hchannels, letterEnded, letterGoesOn]

theorem judgeComplete_channels (n : U16) (s : State) : (judgeComplete n s).channels = s.channels := by
  unfold judgeComplete
  split
  · rfl
  · split <;> simp

theorem judgeComplete_belt (n : U16) (s : State) : (judgeComplete n s).tracker.belt = s.tracker.belt := by
  unfold judgeComplete
  split
  · rfl
  · split <;> simp

/-- The completion changes one channel, whose ring holds the window and whose baselines stand, and leaves the belt. -/
theorem completeLetter_channel {s : State} {c : Channel} {before behind : List Span} {sp : Span} :
    ∃ k' : ScanChannel, (completeLetter c before sp behind s).channels = s.channels.set c k' ∧
      k'.ring = letterRing (s.channels.get c) sp ∧ k'.bp = (s.channels.get c).bp ∧
      k'.bf = (s.channels.get c).bf ∧ k'.fast = (s.channels.get c).fast ∧
      (completeLetter c before sp behind s).tracker.belt = s.tracker.belt := by
  cases hy : ticketOf s sp.ticket with
  | none =>
    have hgone (y : Ticket) (h : y ∈ s.tracker.table) : y.number ≠ sp.ticket := by
      simpa using List.find?_eq_none.mp hy y h
    rw [completeLetter_gone hgone]
    exact ⟨letterEnded before sp behind (s.channels.get c), rfl, by rw [letterEnded], by rw [letterEnded],
      by rw [letterEnded], by rw [letterEnded], rfl⟩
  | some y =>
    obtain ⟨_, _, _, hs2⟩ := windowOnTicket_workedOn sp.ticket sp.bound.minMark (channelSide c)
      (letterWindow (s.channels.get c) sp).cold
      (findMarks s.tracker.geometry y c
        (spanEnds s.tracker.geometry y (sp.done ++ [letterWindow (s.channels.get c) sp]).length)
        (sp.done ++ [letterWindow (s.channels.get c) sp]) sp.mark).2 (enteredLetter c sp s)
    rw [completeLetter_present hy, hs2]
    split
    · exact ⟨letterEnded before sp behind (s.channels.get c), judgeComplete_channels _ _, by rw [letterEnded],
        by rw [letterEnded], by rw [letterEnded], by rw [letterEnded], judgeComplete_belt _ _⟩
    · exact ⟨letterGoesOn before sp behind _ (s.channels.get c), rfl, by rw [letterGoesOn], by rw [letterGoesOn],
        by rw [letterGoesOn], by rw [letterGoesOn], rfl⟩

theorem coldFlags_withChannels (ks : PerChannel ScanChannel) (s : State) :
    coldFlags { s with channels := ks } = coldFlags s := rfl

/-- What the completion makes of the numbers and cold flags of the table. -/
theorem coldFlags_completeLetter {s : State} {c : Channel} {before behind : List Span} {sp : Span} {y : Ticket}
    (hy : ticketOf s sp.ticket = some y) :
    coldFlags (completeLetter c before sp behind s) =
      coldFlags (if (letterWindow (s.channels.get c) sp).cold then flagCold sp.ticket (channelSide c) s else s) := by
  have hflag : coldFlags (flagCold sp.ticket (channelSide c) (enteredLetter c sp s)) =
      coldFlags (flagCold sp.ticket (channelSide c) s) := by
    cases hcold : y.cold.get (channelSide c) with
    | true => rw [flagCold_set (s := enteredLetter c sp s) hy hcold, flagCold_set hy hcold]; rfl
    | false => rw [flagCold_unset (s := enteredLetter c sp s) hy hcold, flagCold_unset hy hcold]; rfl
  have hwindow (ms : List Mark) : coldFlags (windowOnTicket sp.ticket sp.bound.minMark (channelSide c)
      (letterWindow (s.channels.get c) sp).cold ms (enteredLetter c sp s)) =
      coldFlags (if (letterWindow (s.channels.get c) sp).cold then flagCold sp.ticket (channelSide c) s else s) := by
    rw [windowOnTicket, coldFlags_foldl_deliverMark]
    cases (letterWindow (s.channels.get c) sp).cold
    · rfl
    · exact hflag
  rw [completeLetter_present hy]
  split
  · rw [coldFlags_judgeComplete, coldFlags_withChannels, hwindow]
  · rw [coldFlags_withChannels, hwindow]

theorem numbers_of_coldFlags {s t : State} (h : coldFlags t = coldFlags s) :
    t.tracker.table.map Ticket.number = s.tracker.table.map Ticket.number := by
  rw [← coldFlags_numbers, h, coldFlags_numbers]

/-- The completion keeps the table's numbers. -/
theorem completeLetter_numbers {s : State} {c : Channel} {before behind : List Span} {sp : Span} :
    (completeLetter c before sp behind s).tracker.table.map Ticket.number =
      s.tracker.table.map Ticket.number := by
  cases hy : ticketOf s sp.ticket with
  | none =>
    have hgone (y : Ticket) (h : y ∈ s.tracker.table) : y.number ≠ sp.ticket := by
      simpa using List.find?_eq_none.mp hy y h
    rw [completeLetter_gone hgone]
  | some y =>
    refine (numbers_of_coldFlags (coldFlags_completeLetter hy)).trans ?_
    split
    · exact flagCold_numbers _ _ _
    · rfl

/-- A cold window leaves its ticket with the cold flag of its side. -/
theorem completeLetter_cold {s : State} {c : Channel} {before behind : List Span} {sp : Span} (hn : NumbersDiffer s)
    (hw : (letterWindow (s.channels.get c) sp).cold = true) :
    ∀ z ∈ (completeLetter c before sp behind s).tracker.table, z.number = sp.ticket →
      z.cold.get (channelSide c) = true := by
  intro z hz hnum
  have hmem : sp.ticket ∈ s.tracker.table.map Ticket.number := by
    rw [← completeLetter_numbers (c := c) (before := before) (behind := behind), ← hnum]
    exact List.mem_map_of_mem hz
  obtain ⟨y, hy, hyn⟩ := List.mem_map.mp hmem
  have hflags := coldFlags_completeLetter (c := c) (before := before) (behind := behind) (hyn ▸ ticketOf_mem hn hy)
  rw [hw, if_pos rfl, ← hyn] at hflags
  have hpair : (z.number, z.cold) ∈ coldFlags (completeLetter c before sp behind s) :=
    List.mem_map_of_mem (f := fun t : Ticket => (t.number, t.cold)) hz
  rw [hflags] at hpair
  exact flagCold_flags hn hy _ hpair (hnum.trans hyn.symm)

theorem spanEnds_eq_any (g : Geometry) (y : Ticket) (n : Nat) :
    spanEnds g y n = (spanEnd g y).any fun last => decide (last ≤ n) := by
  unfold spanEnds
  cases spanEnd g y <;> rfl

theorem letterWindow_eq (k : ScanChannel) (sp : Span) :
    letterWindow k sp = windowOf sp.bound k.bp k.bf sp.start (sp.samples.take 8) := rfl

theorem letterRing_eq (k : ScanChannel) (sp : Span) :
    letterRing k sp = (k.ring ++ [(⟨letterWindow k sp, some sp.ticket⟩ : RingEntry)]).drop (k.ring.length + 1 - 128) :=
  rfl

theorem spanComplete_iff {s : State} {y : Ticket} :
    spanComplete s y = true ↔ y.spanStarted = true ∧
      ∀ k ∈ s.channels.toList, ∀ sp ∈ k.spans, sp.ticket ≠ y.number := by
  simp [spanComplete, carries]

theorem judgeComplete_present {s : State} {y : Ticket} (hy : ticketOf s y.number = some y) :
    judgeComplete y.number s =
      if y.spanStarted = true ∧ (∀ k ∈ s.channels.toList, ∀ sp ∈ k.spans, sp.ticket ≠ y.number) ∧
        y.size ≠ some .long ∧ y.state ≠ .decided then decisionPoint y.number s else s := by
  have hcond : (spanComplete s y && !isLong y && decide (y.state ≠ .decided)) = true ↔
      y.spanStarted = true ∧ (∀ k ∈ s.channels.toList, ∀ sp ∈ k.spans, sp.ticket ≠ y.number) ∧
        y.size ≠ some .long ∧ y.state ≠ .decided := by
    simp only [Bool.and_eq_true, spanComplete_iff, isLong, Bool.not_eq_true', decide_eq_false_iff_not,
      decide_eq_true_eq, and_assoc]
  rw [judgeComplete, hy]
  exact if_congr hcond rfl rfl

/-- Settles O44: the completion by its channel and its table, by the ticket it finds, and what is told of a cold
window and of a complete span. -/
theorem letterWindowCompletes : Obligations.LetterWindowCompletes := by
  refine ⟨fun s c before behind sp hfirst hspans hb hsp hn => ?completion, fun s y d hy =>
    ⟨flagCold_set hy, flagCold_unset hy, judgeComplete_present hy⟩⟩
  case completion =>
    intro k w done ring s1
    have hexec := completion_letter hfirst hspans hb hsp
    have hring : letterRing k sp = ring := letterRing_eq k sp
    refine ⟨⟨_, hexec, ?frame⟩, fun hgone => ?gone, fun y hy hnum => ?present⟩
    case frame =>
      obtain ⟨k', hchannels, hr, hbp, hbf, hfast, hbelt⟩ :=
        completeLetter_channel (s := s) (c := c) (before := before) (behind := behind) (sp := sp)
      rw [hchannels]
      refine ⟨?_, ?_, ?_, ?_, fun d hd => ?_, hbelt, completeLetter_numbers, fun z hz hnum hw =>
        completeLetter_cold hn hw z hz hnum⟩
      · rw [PerChannel.get_set, if_pos rfl, hr]
        exact hring
      · rw [PerChannel.get_set, if_pos rfl, hbp]
      · rw [PerChannel.get_set, if_pos rfl, hbf]
      · rw [PerChannel.get_set, if_pos rfl, hfast]
      · rw [PerChannel.get_set, if_neg hd]
    case gone =>
      rw [hexec, completeLetter_gone hgone, ← hring]
      rfl
    case present =>
      intro ends found s2 next goesOn ended
      have hends : spanEnds s.tracker.geometry y (sp.done ++ [letterWindow k sp]).length = ends := spanEnds_eq_any _ _ _
      have hs1 : enteredLetter c sp s = s1 := by
        rw [enteredLetter, setChannel]
        exact congrArg (fun r => { s with channels := s.channels.set c { k with ring := r } }) hring
      have hended : letterEnded before sp behind k = ended := by
        rw [letterEnded, hring]
        rfl
      have hgoes : letterGoesOn before sp behind found.1 k = goesOn := by
        rw [letterGoesOn, hring]
        rfl
      have hpresent : completeLetter c before sp behind s =
          if ends then judgeComplete sp.ticket { s2 with channels := s.channels.set c ended }
          else { s2 with channels := s.channels.set c goesOn } := by
        rw [completeLetter_present (hnum ▸ ticketOf_mem hn hy), hends, hs1, hended, ← hgoes]
        rfl
      refine ⟨fun he => ?_, fun he => ?_⟩
      · rw [hexec, hpresent, if_neg (ne_true_of_eq_false he)]
      · rw [hexec, hpresent, if_pos he]

end Sys2Proof.Proofs
end

section
/-! PROOFS. The commit at S: the bin its letter is counted into, the tallies, the notices, the removal and the end of a
drain (R19, R108 to R116, R124, R125, R131, R133, R140). -/

namespace Sys2Proof.Proofs

open Sys2Proof.Machine Sys2Proof.Safety

/-! ### The bin a letter is counted into (R112 to R115) -/

/-- Whether a letter fills a bin: an OPEN bin at its last place. -/
abbrev fillsBin (k : BinRecord) : Prop := k.state = .opened ∧ k.current ≤ 1

/-- A bin record once a letter is counted into it. -/
def countedBin (k : BinRecord) : BinRecord :=
  if k.state = .closed then k
  else if 1 < k.current then { k with current := k.current - 1 }
  else if k.mode = .auto then
    { k with
      base := k.pendingBase.getD k.base, pendingBase := none, current := k.pendingBase.getD k.base
      batch := k.batch + 1 }
  else { k with current := 0, state := .closed, batch := k.batch + 1 }

/-- The stacker once a letter is counted into a bin. -/
def countedStacker (b : Bin) (k : Stacker) : Stacker :=
  { k with
    bins := k.bins.set b (countedBin (k.bins.get b))
    trays := if fillsBin (k.bins.get b) ∧ (k.bins.get b).mode = .auto then k.trays.set b (some 50) else k.trays }

/-- The BATCH notice of a bin filled. -/
def batchNotice (b : Bin) (k : BinRecord) (uptime : BitVec 32) : Notice :=
  .batch b (k.batch + 1) k.base .count k.mode (countedBin k).state (countedBin k).base (countedBin k).current uptime

/-- The state with the batch that a letter filled counted and reported. -/
def batchReported (b : Bin) (k : BinRecord) (s : State) : State :=
  if fillsBin k then handNotice (batchNotice b k s.uptime) (post (.batches b) s) else s

theorem bins_set_same {t : PerBin BinRecord} {b : Bin} {r : BinRecord} (h : t.get b = r) : t.set b r = t := by
  subst h
  cases b <;> rfl

theorem isReply_optional (p : Prop) [Decidable p] (n : Notice) :
    ∀ x ∈ (if p then [OutFrame.notice n] else []), isReply x = false := by
  split
  · exact List.forall_mem_singleton.mpr rfl
  · exact fun x hx => absurd hx List.not_mem_nil

theorem length_optional (p : Prop) [Decidable p] (n : Notice) :
    (if p then [OutFrame.notice n] else []).length ≤ 1 := by
  split
  · exact Nat.le_refl 1
  · exact Nat.zero_le 1

/-- The state with a letter counted into a bin. -/
def withCounted (b : Bin) (s : State) : State := { s with stacker := countedStacker b s.stacker }

theorem countLetter_eq (b : Bin) (s : State) :
    countLetter b s = batchReported b (s.stacker.bins.get b) (withCounted b s) := by
  cases hstate : (s.stacker.bins.get b).state with
  | closed =>
    have hsame : withCounted b s = s := by
      simp [withCounted, countedStacker, countedBin, fillsBin, hstate, bins_set_same]
    have hleft : countLetter b s = s := by
      unfold countLetter
      simp only [hstate]
    rw [hleft, batchReported, if_neg (by simp [hstate]), hsame]
  | opened =>
    have hleft : countLetter b s =
        if (s.stacker.bins.get b).current ≤ 1 then terminalCount b (s.stacker.bins.get b).base .count
          (setBinRecord b (fun r => { r with current := r.current - 1 }) s)
        else setBinRecord b (fun r => { r with current := r.current - 1 }) s := by
      unfold countLetter
      simp only [hstate]
    rw [hleft]
    by_cases hlast : (s.stacker.bins.get b).current ≤ 1
    · rw [if_pos hlast, batchReported, if_pos ⟨hstate, hlast⟩]
      cases hmode : (s.stacker.bins.get b).mode with
      | auto =>
        rw [terminalCount_auto (r := { s.stacker.bins.get b with current := (s.stacker.bins.get b).current - 1 })
          (by simp [setBinRecord]) hmode hstate]
        simp [setBinRecord, batchNotice, withCounted, countedStacker, countedBin, fillsBin, hstate, hlast, hmode,
          Nat.not_lt.mpr hlast]
      | hold =>
        rw [terminalCount_hold (r := { s.stacker.bins.get b with current := (s.stacker.bins.get b).current - 1 })
          (by simp [setBinRecord]) hmode]
        simp [setBinRecord, batchNotice, withCounted, countedStacker, countedBin, fillsBin, hstate, hmode,
          Nat.not_lt.mpr hlast]
    · rw [if_neg hlast, batchReported, if_neg (fun h => hlast h.2)]
      simp [setBinRecord, withCounted, countedStacker, countedBin, fillsBin, hstate, hlast, Nat.not_le.mp hlast]

/-- A batch reported changes the tallies and the link alone. -/
theorem batchReported_eq (b : Bin) (k : BinRecord) (s : State) :
    ∃ ta l, batchReported b k s = { s with tally := ta, link := l } := by
  unfold batchReported
  split
  · rw [handNotice_eq]
    exact ⟨_, _, rfl⟩
  · exact ⟨_, _, rfl⟩

theorem batchReported_posted (b : Bin) (k : BinRecord) (s : State) :
    Posted (if fillsBin k then [.batches b] else []) s (batchReported b k s) := by
  unfold batchReported
  split
  · exact posted_of_tally (posted_post (posted_refl s) List.not_mem_nil) (handNotice_tally ..)
  · exact posted_refl s

/-- With a slot free the BATCH notice joins the queue. -/
theorem batchReported_link {b : Bin} {k : BinRecord} {s : State} (h : sharedUsed s.link < 60) :
    (batchReported b k s).link = { s.link with outbound := s.link.outbound ++
      (if fillsBin k then [.notice (batchNotice b k s.uptime)] else []) } := by
  unfold batchReported
  split
  · rw [handNotice_placed rfl (by exact h)]
    rfl
  · rw [List.append_nil]

/-! ### The letter stacked -/

/-- The state in which a letter has its bin, its actions are made or queued, and its bin is counted. -/
def stackedOf (y : Ticket) (r : Resolution) (s : State) : State :=
  withCounted r.bin { s with
    tracker := { s.tracker with
      table := rewrite y.number (fun u => { u with bin := some r.bin, binForced := r.forced }) s.tracker.table }
    stacker := { s.stacker with
      flaps := (r.actions.filter fun a => reached s.tracker.belt a.due).foldl
        (fun l a => l.set a.flap a.opens) s.stacker.flaps
      queue := (r.actions.filter fun a => !reached s.tracker.belt a.due).foldl
        (fun q a => insertAction a q) s.stacker.queue } }

theorem stackLetter_eq (y : Ticket) (r : Resolution) (s : State) :
    stackLetter y r s = batchReported r.bin (s.stacker.bins.get r.bin) (stackedOf y r s) := by
  rw [stackLetter, foldl_queueAction, countLetter_eq]
  rfl

/-! ### The tallies of a commit (R19, R125) -/

theorem posted_postIf {cs : List Counter} {s t : State} {c : Counter} (b : Bool) (h : Posted cs s t) (hc : c ∉ cs) :
    Posted ((if b then [c] else []) ++ cs) s (postIf b c t) := by
  cases b
  · exact h
  · exact posted_post h hc

theorem posted_countCommit {cs : List Counter} {s t : State} (o : LetterOutcome) (b : Bin) (forced overrun : Bool)
    (h : Posted cs s t) (hcs : ∀ c ∈ cs, ∃ x, c = .batches x) :
    Posted ([.committed, .outcome o, .bin b] ++ (if forced then [.binForced] else []) ++
      (if overrun then [.overrun] else []) ++ cs) s (countCommit o b forced overrun t) := by
  have hnot {c : Counter} (hc : ∀ x, c ≠ .batches x) : c ∉ cs := fun hmem => by
    obtain ⟨x, hx⟩ := hcs c hmem
    exact hc x hx
  have hcommitted := posted_post h (hnot (c := .committed) (by simp))
  have houtcome := posted_post hcommitted (c := .outcome o) (by simp [hnot])
  have hbin := posted_post houtcome (c := .bin b) (by simp [hnot])
  have hforced := posted_postIf forced hbin (c := .binForced) (by simp [hnot])
  have hoverrun := posted_postIf overrun hforced (c := .overrun) (by cases forced <;> simp [hnot])
  refine posted_of_mem hoverrun fun c => ?_
  simp only [List.mem_append, List.mem_cons, List.not_mem_nil, or_false]
  tauto

theorem postIf_tallied (b : Bool) (c : Counter) (s : State) : ∃ ta, postIf b c s = { s with tally := ta } := by
  cases b
  · exact ⟨_, rfl⟩
  · exact ⟨_, rfl⟩

theorem countCommit_eq (o : LetterOutcome) (b : Bin) (forced overrun : Bool) (s : State) :
    ∃ ta, countCommit o b forced overrun s = { s with tally := ta } := by
  obtain ⟨_, hforced⟩ := postIf_tallied forced .binForced (post (.bin b) (post (.outcome o) (post .committed s)))
  obtain ⟨_, hoverrun⟩ := postIf_tallied overrun .overrun
    (postIf forced .binForced (post (.bin b) (post (.outcome o) (post .committed s))))
  rw [countCommit, hoverrun, hforced]
  exact ⟨_, rfl⟩

/-! ### The commit (R19) -/

/-- The LETTER notice of a commit. -/
def commitNotice (y : Ticket) (r : Resolution) (p : Pos) (s : State) : Notice :=
  .letter ⟨none, p, s.uptime, { y with bin := some r.bin, binForced := r.forced },
    batchOf (s.stacker.bins.get r.bin)⟩

/-- The state in which a letter is stacked, counted and reported, and still in the table. -/
def commitReported (y : Ticket) (o : LetterOutcome) (p : Pos) (s : State) : State :=
  let r := resolve s y o
  let k := s.stacker.bins.get r.bin
  handNotice (commitNotice y r p s)
    (countCommit o r.bin r.forced (batchOf k).isNone (batchReported r.bin k (stackedOf y r s)))

theorem commitTicket_eq (y : Ticket) (o : LetterOutcome) (p : Pos) (s : State) :
    commitTicket y o p s = endDrain (evalThrottle (removeTicket y.number (commitReported y o p s))) := by
  have huptime : (countCommit o (resolve s y o).bin (resolve s y o).forced
      (batchOf (s.stacker.bins.get (resolve s y o).bin)).isNone (batchReported (resolve s y o).bin
        (s.stacker.bins.get (resolve s y o).bin) (stackedOf y (resolve s y o) s))).uptime = s.uptime := by
    obtain ⟨_, hcount⟩ := countCommit_eq o (resolve s y o).bin (resolve s y o).forced
      (batchOf (s.stacker.bins.get (resolve s y o).bin)).isNone (batchReported (resolve s y o).bin
        (s.stacker.bins.get (resolve s y o).bin) (stackedOf y (resolve s y o) s))
    obtain ⟨_, _, hbatch⟩ := batchReported_eq (resolve s y o).bin (s.stacker.bins.get (resolve s y o).bin)
      (stackedOf y (resolve s y o) s)
    rw [hcount, hbatch]
    rfl
  rw [commitTicket, stackLetter_eq, huptime]
  rfl

/-- A commit reported changes the stacked letter's state in the tallies and the link alone. -/
theorem commitReported_eq (y : Ticket) (o : LetterOutcome) (p : Pos) (s : State) :
    ∃ ta l, commitReported y o p s = { stackedOf y (resolve s y o) s with tally := ta, link := l } := by
  obtain ⟨_, _, hbatch⟩ := batchReported_eq (resolve s y o).bin (s.stacker.bins.get (resolve s y o).bin)
    (stackedOf y (resolve s y o) s)
  obtain ⟨_, hcount⟩ := countCommit_eq o (resolve s y o).bin (resolve s y o).forced
    (batchOf (s.stacker.bins.get (resolve s y o).bin)).isNone (batchReported (resolve s y o).bin
      (s.stacker.bins.get (resolve s y o).bin) (stackedOf y (resolve s y o) s))
  rw [commitReported, handNotice_eq, hcount, hbatch]
  exact ⟨_, _, rfl⟩

theorem batchOf_eq (k : BinRecord) : batchOf k = if k.state = .opened then some (k.batch + 1) else none := by
  unfold batchOf
  cases k.state <;> rfl

theorem commitReported_posted (y : Ticket) (o : LetterOutcome) (p : Pos) (s : State) :
    let r := resolve s y o
    let k := s.stacker.bins.get r.bin
    Posted ([.committed, .outcome o, .bin r.bin] ++ (if r.forced then [.binForced] else []) ++
      (if k.state = .closed then [.overrun] else []) ++ (if fillsBin k then [.batches r.bin] else [])) s
      (commitReported y o p s) := by
  intro r k
  have hoverrun : (if (batchOf k).isNone = true then [Counter.overrun] else []) =
      if k.state = .closed then [.overrun] else [] := by
    rw [batchOf_eq]
    cases k.state <;> rfl
  have hbatch : Posted (if fillsBin k then [.batches r.bin] else []) s (batchReported r.bin k (stackedOf y r s)) := by
    have h := batchReported_posted r.bin k (stackedOf y r s)
    exact h
  have hcount := posted_countCommit o r.bin r.forced (batchOf k).isNone hbatch (by
    split
    · simp
    · simp)
  rw [hoverrun] at hcount
  exact posted_of_tally hcount (handNotice_tally ..)

/-- With two slots free the notices of a commit join the queue in order. -/
theorem commitReported_link {y : Ticket} {o : LetterOutcome} {p : Pos} {s : State}
    (hletter : s.link.letterEnable = true) (hroom : sharedUsed s.link < 58) :
    let r := resolve s y o
    let k := s.stacker.bins.get r.bin
    (commitReported y o p s).link = { s.link with outbound := s.link.outbound ++
      ((if fillsBin k then [.notice (batchNotice r.bin k s.uptime)] else []) ++ [.notice (commitNotice y r p s)]) } := by
  intro r k
  have hbatch : (batchReported r.bin k (stackedOf y r s)).link = { s.link with outbound := s.link.outbound ++
      (if fillsBin k then [.notice (batchNotice r.bin k s.uptime)] else []) } :=
    batchReported_link (s := stackedOf y r s) (show sharedUsed s.link < 60 by omega)
  have hcount : (countCommit o r.bin r.forced (batchOf k).isNone (batchReported r.bin k (stackedOf y r s))).link =
      (batchReported r.bin k (stackedOf y r s)).link := by
    obtain ⟨_, h⟩ := countCommit_eq o r.bin r.forced (batchOf k).isNone (batchReported r.bin k (stackedOf y r s))
    rw [h]
  have hused : sharedUsed { s.link with outbound := s.link.outbound ++
      (if fillsBin k then [OutFrame.notice (batchNotice r.bin k s.uptime)] else []) } < 60 := by
    rw [sharedUsed_append (isReply_optional _ _)]
    have hlen := length_optional (fillsBin k) (batchNotice r.bin k s.uptime)
    omega
  show (handNotice (commitNotice y r p s) _).link = _
  rw [handNotice_placed]
  · show ({ (countCommit o r.bin r.forced (batchOf k).isNone (batchReported r.bin k (stackedOf y r s))).link with
      outbound := _ } : Link) = _
    rw [hcount, hbatch, List.append_assoc]
  · rw [hcount, hbatch]
    exact hletter
  · rw [hcount, hbatch]
    exact hused

/-! ### The end of a drain (R140) -/

/-- The end of a drain changes the tracker, run control and the link alone. -/
theorem endDrain_eq (s : State) :
    ∃ tr ru l, endDrain s = { s with tracker := tr, run := ru, link := l } := by
  unfold endDrain
  split
  · split
    · rw [enterRunState_eq, handNotice_eq]
      exact ⟨_, _, _, rfl⟩
    · rw [enterRunState_eq, handNotice_eq]
      exact ⟨_, _, _, rfl⟩
    · exact ⟨_, _, _, rfl⟩
  · exact ⟨_, _, _, rfl⟩

theorem endDrain_run_state (s : State) :
    (endDrain s).run.state = if s.tracker.table = [] then
      (if s.run.state = .draining .finish then .idle
      else if s.run.state = .draining .hold then .held else s.run.state) else s.run.state := by
  have hocc : occupancy s = 0 ↔ s.tracker.table = [] := List.length_eq_zero_iff
  unfold endDrain
  simp only [hocc]
  split
  · split
    next hfinish => rw [if_pos hfinish, enterRunState_run_state]
    next hhold => rw [if_neg (by simp [hhold]), if_pos hhold, enterRunState_run_state]
    next hfinish hhold => rw [if_neg hfinish, if_neg hhold]
  · rfl

/-- With a slot free the end of a drain keeps the queue and adds to it. -/
theorem endDrain_prefix {s : State} (hroom : sharedUsed s.link < 60) :
    s.link.outbound <+: (endDrain s).link.outbound := by
  unfold endDrain
  split
  · split
    · rw [enterRunState_placed hroom]
      exact List.prefix_append _ _
    · rw [enterRunState_placed hroom]
      exact List.prefix_append _ _
    · exact List.prefix_refl _
  · exact List.prefix_refl _

/-! ### The table after the removal -/

/-- The ticket rewritten is the one removed. -/
theorem eraseP_rewrite {older younger : List Ticket} {y : Ticket} {f : Ticket → Ticket}
    (hn : ((older ++ y :: younger).map Ticket.number).Nodup) (hf : (f y).number = y.number) :
    (rewrite y.number f (older ++ y :: younger)).eraseP (fun t => t.number == y.number) = older ++ younger := by
  have hold : ∀ x ∈ older, ¬(x.number == y.number) = true := by
    intro x hx
    simp only [List.map_append, List.map_cons, List.nodup_append] at hn
    simpa using hn.2.2 x.number (List.mem_map_of_mem hx) y.number (by simp)
  rw [show rewrite y.number f (older ++ y :: younger) = older ++ f y :: younger from map_number f hn,
    List.eraseP_append_right _ hold, List.eraseP_cons_of_pos (by simp [hf])]

/-- Settles O41: the commit stage by stage, from the letter stacked to the end of the drain. -/
theorem commitCountsOnce : Obligations.CommitCountsOnce := by
  intro s before behind p older younger y o hedge ht hn htable hold hy hout r b k base fills k'
  have hm : committing (withEdges (before ++ behind) s) .s p = some y :=
    matchedTicket_oldest (s := withEdges (before ++ behind) s) htable hold hy
  have hexec : exec (.arrivalMatch .s) s = .next (commitTicket y o p (withEdges (before ++ behind) s)) := by
    rw [exec_arrivalMatch_oldest (x := .s) hedge, arrive, if_neg (by simp [withEdges, ht]), hm]
    dsimp only
    rw [hout]
  refine ⟨_, hexec, ?_⟩
  rw [commitTicket_eq]
  obtain ⟨ta, l, hreported⟩ := commitReported_eq y o p (withEdges (before ++ behind) s)
  obtain ⟨tr, ru, li, hdrained⟩ := endDrain_eq (evalThrottle (removeTicket y.number
    (commitReported y o p (withEdges (before ++ behind) s))))
  have hresolve : resolve (withEdges (before ++ behind) s) y o = r := rfl
  have hleft : (removeTicket y.number (commitReported y o p (withEdges (before ++ behind) s))).tracker.table =
      older ++ younger := by
    rw [removeTicket_tracker_table, hreported]
    show (rewrite y.number _ s.tracker.table).eraseP _ = _
    rw [htable]
    exact eraseP_rewrite (htable ▸ hn) rfl
  have hstacker : (commitReported y o p (withEdges (before ++ behind) s)).stacker =
      (stackedOf y r (withEdges (before ++ behind) s)).stacker := by
    rw [hreported]
    rfl
  refine ⟨?frame, ?table, ?edges, ?belt, ?geometry, ?causes, ?state, ?stacker, ?posted, fun hletter hroom => ?link⟩
  case frame =>
    rw [hdrained, hreported]
    rfl
  case table => rw [endDrain_tracker_table, evalThrottle_tracker_table, hleft]
  case edges =>
    rw [endDrain_tracker_edges, hreported]
    rfl
  case belt =>
    rw [endDrain_tracker_belt, hreported]
    rfl
  case geometry =>
    rw [endDrain_tracker_geometry, hreported]
    rfl
  case causes =>
    rw [endDrain_run_causes, hreported]
    rfl
  case state =>
    have hrun : (evalThrottle (removeTicket y.number
        (commitReported y o p (withEdges (before ++ behind) s)))).run.state = s.run.state := by
      rw [hreported]
      rfl
    rw [endDrain_run_state, evalThrottle_tracker_table, hleft, hrun]
  case stacker =>
    rw [endDrain_stacker]
    exact hstacker
  case posted =>
    have hposted := commitReported_posted y o p (withEdges (before ++ behind) s)
    exact posted_of_tally (t := commitReported y o p (withEdges (before ++ behind) s)) hposted (endDrain_tally ..)
  case link =>
    have hlink := commitReported_link (y := y) (o := o) (p := p) (s := withEdges (before ++ behind) s) hletter hroom
    have hused : sharedUsed (commitReported y o p (withEdges (before ++ behind) s)).link < 60 := by
      rw [hlink, sharedUsed_append (List.forall_mem_append.mpr ⟨isReply_optional _ _, List.forall_mem_singleton.mpr rfl⟩),
        List.length_append, List.length_singleton]
      refine Nat.lt_of_le_of_lt (Nat.add_le_add_left (Nat.add_le_add_right (length_optional _ _) 1) _) ?_
      show sharedUsed s.link + (1 + 1) < 60
      omega
    refine List.IsPrefix.trans ?_ (endDrain_prefix (s := evalThrottle (removeTicket y.number
      (commitReported y o p (withEdges (before ++ behind) s)))) hused)
    show _ <+: (commitReported y o p (withEdges (before ++ behind) s)).link.outbound
    rw [hlink, List.append_assoc, commitNotice, batchOf_eq]
    exact List.prefix_refl _

end Sys2Proof.Proofs
end

section
/-! PROOFS. The decision of a ticket: its writes one after another, its strike plan, and the waiting list behind it
(R50 to R52, R56, R61 to R65, R89 to R93). -/

namespace Sys2Proof.Proofs

open Sys2Proof.Machine Sys2Proof.Safety

/-! ### One ticket among the others of the table -/

/-- A tracker that is another's with this ticket among these in its table. -/
def TicketAt (tr : Tracker) (older younger : List Ticket) (x : Ticket) (s : State) : Prop :=
  s.tracker = { tr with table := older ++ x :: younger }

/-- A ticket of another's number leaves the numbers of the table different. -/
theorem nodup_of_number {older younger : List Ticket} {x y : Ticket}
    (hn : ((older ++ y :: younger).map Ticket.number).Nodup) (hx : x.number = y.number) :
    ((older ++ x :: younger).map Ticket.number).Nodup := by
  rw [List.map_append, List.map_cons] at hn ⊢
  rwa [hx]

theorem numbers_nodup {older younger : List Ticket} {y : Ticket} {s : State}
    (htable : s.tracker.table = older ++ y :: younger) (hn : NumbersDiffer s) :
    ((older ++ y :: younger).map Ticket.number).Nodup := by
  rw [← htable]
  exact hn

theorem TicketAt.table {tr : Tracker} {older younger : List Ticket} {x : Ticket} {s : State}
    (h : TicketAt tr older younger x s) : s.tracker.table = older ++ x :: younger := by
  rw [h]

theorem TicketAt.geometry {tr : Tracker} {older younger : List Ticket} {x : Ticket} {s : State}
    (h : TicketAt tr older younger x s) : s.tracker.geometry = tr.geometry := by
  rw [h]

theorem TicketAt.numbersDiffer {tr : Tracker} {older younger : List Ticket} {x : Ticket} {s : State}
    (h : TicketAt tr older younger x s) (hn : ((older ++ x :: younger).map Ticket.number).Nodup) :
    NumbersDiffer s := by
  rw [NumbersDiffer, h.table]
  exact hn

theorem TicketAt.ticketOf {tr : Tracker} {older younger : List Ticket} {x : Ticket} {s : State}
    (h : TicketAt tr older younger x s) (hn : ((older ++ x :: younger).map Ticket.number).Nodup) :
    ticketOf s x.number = some x :=
  ticketOf_number h.table (h.numbersDiffer hn)

/-- A write to the ticket of a number is a write to the one ticket of that number. -/
theorem TicketAt.setTicket {tr : Tracker} {older younger : List Ticket} {x : Ticket} {s : State}
    (h : TicketAt tr older younger x s) (hn : ((older ++ x :: younger).map Ticket.number).Nodup)
    (f : Ticket → Ticket) : TicketAt tr older younger (f x) (setTicket x.number f s) := by
  have htracker : (Machine.setTicket x.number f s).tracker =
      { s.tracker with table := rewrite x.number f s.tracker.table } := rfl
  have htable : rewrite x.number f (older ++ x :: younger) = older ++ f x :: younger := map_number f hn
  rw [TicketAt, htracker, h.table, htable, h]

/-- What keeps the tracker keeps the ticket. -/
theorem TicketAt.of_tracker {tr : Tracker} {older younger : List Ticket} {x : Ticket} {s t : State}
    (h : TicketAt tr older younger x s) (ht : t.tracker = s.tracker) : TicketAt tr older younger x t :=
  ht.trans h

/-! ### The strike of a decided ticket (R63, R89 to R93) -/

/-- Without a head, or forced, the strike is NOT_REQUIRED. -/
theorem strikeFor_unplanned {y : Ticket} {v : Verdict} {forced : Bool} (s : State)
    (h : forced = true ∨ v.head = .none) :
    strikeFor y v forced s = setTicket y.number (fun u => { u with strike := some .notRequired }) s := by
  unfold strikeFor
  split
  next hhead _ =>
    rcases h with h | h
    · cases h
    · exact absurd (h.symm.trans hhead) (by simp)
  next => rfl

theorem strikeFor_planned {y : Ticket} {v : Verdict} {h : Head} {m : Mark} (s : State) (hh : v.head = .on h)
    (hm : v.mark = some m) : strikeFor y v false s = planFor y h m.start m.length (y.length.getD 0) s := by
  unfold strikeFor
  rw [hh, hm]

/-- The ticket with the plan's flags and band. -/
def plannedTicket (p : StrikePlan) (x : Ticket) : Ticket :=
  { x with band := p.band, pmShort := p.pmShort, noPostmark := p.noPostmark }

/-- Whether a plan queues a strike: it has a band, and its head's queue has room. -/
def planQueued (p : StrikePlan) (u : HeadUnit) : Bool := p.band.isSome && decide (u.queue.length < 8)

/-- The ticket once its strike is planned. -/
def struckTicket (p : StrikePlan) (queued : Bool) (x : Ticket) : Ticket :=
  { plannedTicket p x with
    strike := some (if queued then .pending else .missed)
    outcome := if queued then x.outcome else x.outcome.map handCancelled }

/-- The plan of a ticket of the table writes that ticket, and counts a strike missed. -/
theorem planFor_at {tr : Tracker} {older younger : List Ticket} {x y : Ticket} {s : State} {h : Head}
    {ms len letter : Nat} {p : StrikePlan} (hx : TicketAt tr older younger x s)
    (hn : ((older ++ x :: younger).map Ticket.number).Nodup) (hnum : x.number = y.number)
    (hp : planStrike s.cancel.record s.cancel.active ms (ms + len) letter = p) :
    TicketAt tr older younger (struckTicket p (planQueued p (s.cancel.heads.get h)) x) (planFor y h ms len letter s) ∧
      Posted (if planQueued p (s.cancel.heads.get h) then [] else [.missed h]) s (planFor y h ms len letter s) := by
  have hplanned := hx.setTicket hn (plannedTicket p)
  have hn' : ((older ++ plannedTicket p x :: younger).map Ticket.number).Nodup := nodup_of_number hn rfl
  cases hq : planQueued p (s.cancel.heads.get h) with
  | true =>
    simp only [planQueued, Bool.and_eq_true, decide_eq_true_eq] at hq
    obtain ⟨hband, hroom⟩ := hq
    obtain ⟨b, hb⟩ := Option.isSome_iff_exists.mp hband
    rw [planFor_pending hp hb hroom, ← hnum]
    exact ⟨(hplanned.setTicket hn' _).of_tracker rfl, posted_of_tally (posted_refl s) rfl⟩
  | false =>
    have hmiss : p.band = none ∨ 8 ≤ (s.cancel.heads.get h).queue.length := by
      simp only [planQueued, Bool.and_eq_false_iff, Option.isSome_eq_false_iff, Option.isNone_iff_eq_none,
        decide_eq_false_iff_not, Nat.not_lt] at hq
      exact hq
    have hticket : ticketOf (setTicket x.number (plannedTicket p) s) x.number = some (plannedTicket p x) :=
      hplanned.ticketOf hn'
    rw [planFor_missed hp hmiss, ← hnum]
    rw [show (fun u : Ticket => { u with band := p.band, pmShort := p.pmShort, noPostmark := p.noPostmark }) =
      plannedTicket p from rfl, missStrike_present hticket]
    exact ⟨(hplanned.setTicket hn' _).of_tracker rfl,
      posted_of_tally (posted_post (posted_refl s) List.not_mem_nil) rfl⟩

/-- What a plan makes of the heads goes by the cancel unit and the geometry alone. -/
theorem planFor_cancel {y : Ticket} {h : Head} {ms len letter : Nat} {s t : State} (hc : t.cancel = s.cancel)
    (hg : t.tracker.geometry = s.tracker.geometry) :
    (planFor y h ms len letter t).cancel = (planFor y h ms len letter s).cancel := by
  have hmiss (n : U16) (f : Ticket → Ticket) (u : State) : (missStrike n h (setTicket n f u)).cancel = u.cancel := by
    rw [missStrike_eq]
    rfl
  unfold planFor
  dsimp only
  rw [hc, hg]
  split
  · rw [hmiss, hmiss, hc]
  · split
    · rw [hmiss, hmiss, hc]
    · simp only [setHead, setTicket_cancel, hc]

/-! ### The decision (R61 to R65) -/

/-- What is counted after nothing was counted. -/
theorem posted_after {cs : List Counter} {s t u : State} (h : Posted [] s t) (h' : Posted cs t u) : Posted cs s u := by
  obtain ⟨hcount, hunit⟩ := h
  obtain ⟨hcount', hunit'⟩ := h'
  refine ⟨fun c => ?_, ?_⟩
  · obtain ⟨hlife, hshift⟩ := hcount c
    rw [if_neg List.not_mem_nil] at hlife hshift
    rw [(hcount' c).1, (hcount' c).2, hlife, hshift]
    simp
  · calc u.tally = { t.tally with life := u.tally.life, shift := u.tally.shift } := hunit'
      _ = { s.tally with life := u.tally.life, shift := u.tally.shift } := by rw [hunit]

/-- The ticket once its path is requested. -/
def pathTicket (a : Path × Bool) (x : Ticket) : Ticket := { x with taken := some a.1, pathForced := a.2 }

/-- The ticket once its verdict is written. -/
def judgedTicket (v : Verdict) (forced : Bool) (o : LetterOutcome) (x : Ticket) : Ticket :=
  { x with
    cls := some v.cls
    required := some v.required
    head := some (if forced then .none else v.head)
    secondary := v.secondary
    outcome := some o }

/-- The ticket DECIDED. -/
def closedTicket (x : Ticket) : Ticket := { x with state := .decided }

/-- The state once a ticket's path is requested and its verdict written. -/
def judgedState (y : Ticket) (s : State) : State :=
  let v := verdict s.facing.record y
  let a := pathAnswer s y v.required
  setTicket y.number (judgedTicket v a.2 (decisionOutcome y a.2 v.cls)) (pathRequest y v.required s)

/-- The state once its strike is settled too. -/
def struckState (y : Ticket) (s : State) : State :=
  strikeFor y (verdict s.facing.record y) (pathAnswer s y (verdict s.facing.record y).required).2 (judgedState y s)

/-- After the decision come the calibration and the trace, which leave the tracker, the heads and the tallies. -/
theorem decideTicket_after (y : Ticket) (s : State) :
    (decideTicket y s).tracker = (setTicket y.number closedTicket (struckState y s)).tracker ∧
      (decideTicket y s).cancel = (struckState y s).cancel ∧
      (decideTicket y s).tally = (struckState y s).tally ∧ (decideTicket y s).gate = (struckState y s).gate := by
  have hdef : decideTicket y s =
      testTrace y (verdict s.facing.record y).cls
        (decisionOutcome y (pathAnswer s y (verdict s.facing.record y).required).2 (verdict s.facing.record y).cls)
        (contribute y (setTicket y.number closedTicket (struckState y s))) := rfl
  rw [hdef]
  refine ⟨by rw [testTrace_tracker, contribute_tracker], ?_, ?_, ?_⟩
  · rw [testTrace_cancel, contribute_cancel]
    rfl
  · rw [testTrace_tally, contribute_tally]
    rfl
  · rw [testTrace_gate, contribute_gate]
    rfl

/-- The path request writes its ticket and counts PATH_FORCED. -/
theorem pathRequest_at {older younger : List Ticket} {y : Ticket} {s : State} (q : ReqPath)
    (htable : s.tracker.table = older ++ y :: younger) (hn : NumbersDiffer s) :
    TicketAt s.tracker older younger (pathTicket (pathAnswer s y q) y) (pathRequest y q s) ∧
      Posted (if (pathAnswer s y q).2 then [.pathForced] else []) s (pathRequest y q s) := by
  have hat : TicketAt s.tracker older younger y s := by
    rw [TicketAt, ← htable]
  have hwritten := hat.setTicket (numbers_nodup htable hn) (pathTicket (pathAnswer s y q))
  rw [pathRequest_eq (p := (pathAnswer s y q).1) (forced := (pathAnswer s y q).2) rfl rfl, postIf]
  split
  · exact ⟨hwritten.of_tracker rfl, posted_post (posted_of_tally (posted_refl s) rfl) List.not_mem_nil⟩
  · exact ⟨hwritten.of_tracker rfl, posted_of_tally (posted_refl s) rfl⟩

theorem judgedState_at {older younger : List Ticket} {y : Ticket} {s : State}
    (htable : s.tracker.table = older ++ y :: younger) (hn : NumbersDiffer s) :
    let v := verdict s.facing.record y
    let a := pathAnswer s y v.required
    TicketAt s.tracker older younger (judgedTicket v a.2 (decisionOutcome y a.2 v.cls) (pathTicket a y))
        (judgedState y s) ∧
      Posted (if a.2 then [.pathForced] else []) s (judgedState y s) ∧ (judgedState y s).cancel = s.cancel := by
  intro v a
  obtain ⟨hat, hposted⟩ := pathRequest_at v.required htable hn
  have hn' : ((older ++ pathTicket a y :: younger).map Ticket.number).Nodup := nodup_of_number (numbers_nodup htable hn) rfl
  exact ⟨hat.setTicket hn' _, posted_of_tally hposted rfl, pathRequest_cancel ..⟩

/-- The ticket a decision leaves, before its strike is settled. -/
def decisionTicket (y : Ticket) (s : State) : Ticket :=
  let v := verdict s.facing.record y
  let a := pathAnswer s y v.required
  closedTicket (judgedTicket v a.2 (decisionOutcome y a.2 v.cls) (pathTicket a y))

/-- Without a head the decision writes NOT_REQUIRED. -/
theorem decideTicket_unplanned {older younger : List Ticket} {y : Ticket} {s : State}
    (htable : s.tracker.table = older ++ y :: younger) (hn : NumbersDiffer s)
    (h : (pathAnswer s y (verdict s.facing.record y).required).2 = true ∨ (verdict s.facing.record y).head = .none) :
    TicketAt s.tracker older younger { decisionTicket y s with strike := some .notRequired } (decideTicket y s) ∧
      (decideTicket y s).cancel = s.cancel ∧
      Posted (if (pathAnswer s y (verdict s.facing.record y).required).2 then [.pathForced] else []) s
        (decideTicket y s) := by
  obtain ⟨htracker, hcancel, htally, -⟩ := decideTicket_after y s
  obtain ⟨hat, hposted, hheads⟩ := judgedState_at htable hn
  have hstruck : struckState y s =
      setTicket y.number (fun u => { u with strike := some .notRequired }) (judgedState y s) := strikeFor_unplanned _ h
  rw [hstruck] at htracker hcancel htally
  have hn' (x : Ticket) (hx : x.number = y.number) : ((older ++ x :: younger).map Ticket.number).Nodup :=
    nodup_of_number (numbers_nodup htable hn) hx
  have hstrike := hat.setTicket (hn' _ rfl) (fun u => { u with strike := some .notRequired })
  exact ⟨(hstrike.setTicket (hn' _ rfl) closedTicket).of_tracker htracker, hcancel.trans hheads,
    posted_of_tally hposted htally⟩

/-- With a head the decision plans its strike. -/
theorem decideTicket_planned {older younger : List Ticket} {y : Ticket} {s : State} {h : Head} {m : Mark}
    (htable : s.tracker.table = older ++ y :: younger) (hn : NumbersDiffer s)
    (hforced : (pathAnswer s y (verdict s.facing.record y).required).2 = false)
    (hh : (verdict s.facing.record y).head = .on h) (hm : (verdict s.facing.record y).mark = some m) :
    let p := planStrike s.cancel.record s.cancel.active m.start (m.start + m.length) (y.length.getD 0)
    let queued := planQueued p (s.cancel.heads.get h)
    TicketAt s.tracker older younger (struckTicket p queued (decisionTicket y s)) (decideTicket y s) ∧
      (decideTicket y s).cancel = (planFor y h m.start m.length (y.length.getD 0) s).cancel ∧
      Posted (if queued then [] else [.missed h]) s (decideTicket y s) := by
  intro p queued
  obtain ⟨htracker, hcancel, htally, -⟩ := decideTicket_after y s
  obtain ⟨hat, hposted, hheads⟩ := judgedState_at htable hn
  have hstruck : struckState y s = planFor y h m.start m.length (y.length.getD 0) (judgedState y s) := by
    rw [struckState, hforced]
    exact strikeFor_planned _ hh hm
  rw [hstruck] at htracker hcancel htally
  have hn' (x : Ticket) (hx : x.number = y.number) : ((older ++ x :: younger).map Ticket.number).Nodup :=
    nodup_of_number (numbers_nodup htable hn) hx
  have hp : planStrike (judgedState y s).cancel.record (judgedState y s).cancel.active m.start (m.start + m.length)
      (y.length.getD 0) = p := by rw [hheads]
  obtain ⟨hplanned, hcount⟩ := planFor_at hat (hn' _ rfl) rfl hp
  rw [hheads] at hplanned hcount
  refine ⟨(hplanned.setTicket (hn' _ rfl) closedTicket).of_tracker htracker,
    hcancel.trans (planFor_cancel hheads hat.geometry), ?_⟩
  rw [hforced] at hposted
  exact posted_of_tally (posted_after hposted hcount) htally

/-- The outcome once its strike is settled. -/
theorem struckTicket_outcome (p : StrikePlan) (queued : Bool) (x : Ticket) :
    (struckTicket p queued x).outcome =
      if (struckTicket p queued x).strike = some .missed then x.outcome.map handCancelled else x.outcome := by
  cases queued <;> rfl

/-- What a decision leaves of its ticket, of the heads and of the tallies. -/
theorem decideTicket_eq {older younger : List Ticket} {y : Ticket} {s : State}
    (htable : s.tracker.table = older ++ y :: younger) (hn : NumbersDiffer s) :
    let v := verdict s.facing.record y
    let a := pathAnswer s y v.required
    let o := decisionOutcome y a.2 v.cls
    let u := decideTicket y s
    ∃ z : Ticket, u.tracker = { s.tracker with table := older ++ z :: younger } ∧
      z = { y with
        state := .decided
        cls := some v.cls
        required := some v.required
        head := some (if a.2 then .none else v.head)
        secondary := v.secondary
        taken := some a.1
        pathForced := a.2
        outcome := some (if z.strike = some .missed then handCancelled o else o)
        band := z.band
        strike := z.strike
        pmShort := z.pmShort
        noPostmark := z.noPostmark } ∧
      (a.2 = true ∨ v.head = .none → z.strike = some .notRequired ∧ z.band = y.band ∧
        z.pmShort = y.pmShort ∧ z.noPostmark = y.noPostmark ∧ u.cancel = s.cancel ∧
        Posted (if a.2 then [.pathForced] else []) s u) ∧
      (∀ h : Head, a.2 = false → v.head = .on h → ∃ m ∈ y.marks, v.mark = some m ∧
        (let p := planStrike s.cancel.record s.cancel.active m.start (m.start + m.length) (y.length.getD 0)
        let queued := p.band.isSome && decide ((s.cancel.heads.get h).queue.length < 8)
        z.band = p.band ∧ z.pmShort = p.pmShort ∧ z.noPostmark = p.noPostmark ∧
        z.strike = some (if queued then .pending else .missed) ∧
        u.cancel = (planFor y h m.start m.length (y.length.getD 0) s).cancel ∧
        Posted (if queued then [] else [.missed h]) s u)) := by
  intro v a o u
  by_cases hno : a.2 = true ∨ v.head = .none
  · obtain ⟨hat, hcancel, hposted⟩ := decideTicket_unplanned htable hn hno
    refine ⟨_, hat, rfl, fun _ => ⟨rfl, rfl, rfl, rfl, hcancel, hposted⟩, fun h hforced hh => ?_⟩
    rcases hno with hno | hno
    · exact absurd (hno.symm.trans hforced) (by simp)
    · exact absurd (hno.symm.trans hh) (by simp)
  · have hforced : a.2 = false := eq_false_of_ne_true fun h => hno (.inl h)
    obtain ⟨h, hh⟩ : ∃ h, v.head = .on h := by
      cases hv : v.head with
      | none => exact absurd (.inr hv) hno
      | on h => exact ⟨h, rfl⟩
    obtain ⟨m, hmem, hm⟩ := verdict_mark_mem s.facing.record y h hh
    obtain ⟨hat, hcancel, hposted⟩ := decideTicket_planned htable hn hforced hh hm
    refine ⟨_, hat, ?_, fun h' => absurd h' hno, fun h' _ hh' => ?_⟩
    · cases hq : planQueued (planStrike s.cancel.record s.cancel.active m.start (m.start + m.length)
        (y.length.getD 0)) (s.cancel.heads.get h) <;> rfl
    · obtain rfl : h = h' := HeadChoice.on.inj (hh.symm.trans hh')
      exact ⟨m, hmem, hm, rfl, rfl, rfl, rfl, hcancel, hposted⟩

/-! ### The decision point (R50 to R52) -/

/-- Every elder of a ticket DECIDED: none is undecided. -/
theorem elderUndecided_false {older younger : List Ticket} {y : Ticket} {s : State}
    (htable : s.tracker.table = older ++ y :: younger) (hn : NumbersDiffer s)
    (h : ∀ z ∈ older, z.state = .decided) : elderUndecided s y.number = false := by
  rw [elderUndecided_number htable hn, List.any_eq_false]
  intro z hz
  simp [h z hz]

theorem decideNumber_eq {older younger : List Ticket} {y : Ticket} {s : State}
    (htable : s.tracker.table = older ++ y :: younger) (hn : NumbersDiffer s) :
    decideNumber y.number s = decideTicket y s := by
  rw [decideNumber, ticketOf_number htable hn]

/-- A ticket whose elders are DECIDED is decided at its decision point, and then those that wait. -/
theorem decisionPoint_decides {older younger : List Ticket} {y : Ticket} {s : State}
    (htable : s.tracker.table = older ++ y :: younger) (hn : NumbersDiffer s)
    (h : ∀ z ∈ older, z.state = .decided) :
    decisionPoint y.number s = releaseWaiting s.facing.waiting (decideTicket y s) := by
  rw [decisionPoint, elderUndecided_false htable hn h, if_neg Bool.false_ne_true, decideNumber_eq htable hn]
  dsimp only
  rw [decideTicket_facing]

/-- The one ticket that waits behind a decided one is decided next. -/
theorem releaseWaiting_next {older rest : List Ticket} {w : Ticket} {s : State}
    (htable : s.tracker.table = older ++ w :: rest) (hn : NumbersDiffer s) (h : ∀ z ∈ older, z.state = .decided)
    (hwait : s.facing.waiting = [w.number]) :
    releaseWaiting [w.number] s = decideTicket w { s with facing := { s.facing with waiting := [] } } := by
  have hunwait : unwait w.number s = { s with facing := { s.facing with waiting := [] } } := by
    rw [unwait, hwait]
    simp
  rw [releaseWaiting, elderUndecided_false htable hn h, if_neg Bool.false_ne_true, hunwait,
    decideNumber_eq (s := { s with facing := { s.facing with waiting := [] } }) htable hn, releaseWaiting]

/-- A ticket with an undecided elder joins the waiting list. -/
theorem decisionPoint_waits {older younger : List Ticket} {y : Ticket} {s : State}
    (htable : s.tracker.table = older ++ y :: younger) (hn : NumbersDiffer s)
    (h : ∃ z ∈ older, z.state ≠ .decided) : decisionPoint y.number s = joinWaiting y.number s := by
  have helder : elderUndecided s y.number = true := by
    rw [elderUndecided_number htable hn]
    simpa using h
  rw [decisionPoint, if_pos helder]

theorem mem_joinWaiting {older younger : List Ticket} {y : Ticket} {s : State}
    (htable : s.tracker.table = older ++ y :: younger) :
    y.number ∈ (joinWaiting y.number s).facing.waiting := by
  refine List.mem_filter.mpr ⟨?_, by simp⟩
  rw [htable]
  simp

/-- Settles O47: the decision by its writes in order, the decision point by the elders. -/
theorem decisionPointDecides : Obligations.DecisionPointDecides := by
  refine ⟨fun s older younger y htable hn => ⟨fun hold hwait => ?decided, fun helder => ?waits⟩,
    fun s older younger y htable hn => ?decision, fun y c hsize hcold => ?outcome⟩
  case decided =>
    obtain ⟨z, htracker, hz, -, -⟩ := decideTicket_eq htable hn
    have hout : z.outcome = some (if z.strike = some .missed then _ else _) := congrArg Ticket.outcome hz
    have hmarks : z.marks = y.marks := (congrArg Ticket.marks hz).trans rfl
    have hnum : z.number = y.number := (congrArg Ticket.number hz).trans rfl
    refine ⟨older, younger, z, ?_, rfl, hnum, congrArg Ticket.state hz, congrArg Ticket.cls hz,
      congrArg Ticket.required hz, congrArg Ticket.secondary hz, hmarks, fun hsize => ?_, fun hsize => ?_,
      fun hsize hcold => ?_⟩
    · rw [decisionPoint_decides htable hn hold, hwait, releaseWaiting, htracker]
    · have ho (forced : Bool) (c : LetterClass) : decisionOutcome y forced c = .long := by simp [decisionOutcome, hsize]
      rw [hout, ho]
      exact congrArg some (ite_self _)
    · have ho (forced : Bool) (c : LetterClass) : decisionOutcome y forced c = .short := by simp [decisionOutcome, hsize]
      rw [hout, ho]
      exact congrArg some (ite_self _)
    · have ho (forced : Bool) (c : LetterClass) : decisionOutcome y forced c = .lampCold := by
        simp [decisionOutcome, hsize, hcold]
      rw [hout, ho]
      exact congrArg some (ite_self _)
  case waits =>
    rw [decisionPoint_waits htable hn helder]
    exact ⟨rfl, mem_joinWaiting htable⟩
  case decision =>
    intro v a o u
    obtain ⟨z, htracker, hz, hwithout, hwith⟩ := decideTicket_eq htable hn
    refine ⟨fun hold hwait => ?alone, fun w rest hold hyounger hwait => ?next, decideTicket_facing .., ?gate, z, htracker,
      hz, hwithout, hwith⟩
    case alone => rw [decisionPoint_decides htable hn hold, hwait, releaseWaiting]
    case next =>
      subst hyounger
      have htable' : u.tracker.table = (older ++ [z]) ++ w :: rest := by
        rw [htracker, List.append_assoc]
        rfl
      have hn' : NumbersDiffer u := by
        rw [NumbersDiffer, htracker]
        exact nodup_of_number (numbers_nodup htable hn) ((congrArg Ticket.number hz).trans rfl)
      have hold' : ∀ x ∈ older ++ [z], x.state = .decided := List.forall_mem_append.mpr
        ⟨hold, List.forall_mem_singleton.mpr (congrArg Ticket.state hz)⟩
      have hfacing : u.facing = s.facing := decideTicket_facing ..
      rw [decisionPoint_decides htable hn hold, hwait,
        releaseWaiting_next htable' hn' hold' (by rw [hfacing, hwait]), hfacing]
    case gate =>
      obtain ⟨-, -, -, hgate⟩ := decideTicket_after y s
      rw [hgate, struckState, strikeFor_gate]
      rfl
  case outcome =>
    refine ⟨?_, ?_⟩
    · simp [decisionOutcome, hsize, hcold]
    · simp only [decisionOutcome, hsize, hcold]
      rfl

end Sys2Proof.Proofs
end
